-- ==== Sys2Proof/Word.lean ====
section
/-! DEFINITION. The byte, the one word the PX-31's links, buffers and queues are made of. -/

namespace Sys2Proof

/-- A byte: eight bits, as every link, queue and buffer of the part carries them (R1). -/
abbrev Byte := BitVec 8

end Sys2Proof
end

