-- ==== Sys2Proof/Syntax.lean ====
section
/-! DEFINITION. The commands of the PX-31: one constructor for each row of spec/opcode_table.json.
The part fetches nothing. A command is one of its steps, whole and indivisible (spec/95). -/

namespace Sys2Proof

/-- The three links, one for each domain (00, The terminal and its three domains). -/
inductive Link where
  /-- The P-link, to the payment processor. -/
  | p
  /-- The A-link, to the application processor. -/
  | a
  /-- The R-link, to the radio controller. -/
  | r
  deriving DecidableEq, Repr

/-- The four custody resources, in resource-number order (R23, R42). -/
inductive Resource where
  | keypad
  | display
  | cless
  | printer
  deriving DecidableEq, Repr

/-- What a link's clock brings in a transfer (R1, R7): an edge within a byte that is not whole yet, or the
edges that make a byte whole, with the byte that has then arrived. -/
inductive Arrival where
  | edge
  | byte (b : Byte)
  deriving DecidableEq, Repr

/-- The three radio functions that have transmit-request lines (R137). -/
inductive RadioFn where
  | cell
  | wlan
  | bt
  deriving DecidableEq, Repr

/-- The part's commands. -/
inductive Instr where
  /-- TRANSFER_START (R1): Select becomes active: the port begins a transfer, captures and shifts the status byte, and the receiver starts in HUNTING. -/
  | transferStart (l : Link)
  /-- OUTBOUND_CHOICE (R12): As the second byte of a transfer in RUN begins, the outbound arbiter chooses the transfer's outbound frame by precedence, or fill bytes. -/
  | outboundChoice (l : Link)
  /-- FRAME_COMPLETE (R14): The second check byte of the frame in flight is shifted; the copy is dropped and completion is reported to the owner of its source. -/
  | frameComplete (l : Link)
  /-- FRAME_RECEIVED (R5): The second check byte of a frame arrives; the frame is judged by its check and buffer room and is taken or discarded. `b` is the second check byte. -/
  | frameReceived (l : Link) (b : Byte)
  /-- FRAME_LENGTH_ABANDONED (R4): The second length byte gives a length above 256; the frame is abandoned with CHECK_FAILED, INPUT_CHECK is set, and the receiver goes to DISCARDING. `b` is the second length byte. -/
  | frameLengthAbandoned (l : Link) (b : Byte)
  /-- TRANSFER_END (R1): Select becomes inactive: the transfer ends at once, partial bytes are dropped, and the receiver returns to HUNTING. -/
  | transferEnd (l : Link)
  /-- FRAME_STALL (R7): The stall timer of a frame being collected expires 20 ms after the last clock edge; the frame is discarded with TRUNCATED and FRAME_STALL set. -/
  | frameStall (l : Link)
  /-- UNKNOWN_KIND (R9): A processed frame of an unassigned request kind is answered with kind 0x80, BAD_REQUEST and the received kind byte. `l` is the link whose oldest taken frame is processed. -/
  | unknownKind (l : Link)
  /-- TIME (R20): TIME is processed and answered with part time as it stands. `l` is the link whose oldest taken frame is processed. -/
  | time (l : Link)
  /-- CONDITIONS (R18): CONDITIONS returns the link's condition set and clears the members named in the clear set. `l` is the link whose oldest taken frame is processed. -/
  | conditions (l : Link)
  /-- CONDITIONS_ENABLE (R19): CONDITIONS_ENABLE replaces the link's condition enable set. `l` is the link whose oldest taken frame is processed. -/
  | conditionsEnable (l : Link)
  /-- RESTART (R21): RESTART clears the link's replies, frame in flight, notices and conditions, and then carries out the domain's effects on custody, relay and air schedule. `l` is the link whose oldest taken frame is processed. -/
  | restart (l : Link)
  /-- PART_RESET (R22): PART_RESET is processed as the oldest P-link frame in RUN and performs a part reset with cause REQUEST. `l` is the link whose oldest taken frame is processed. -/
  | partReset (l : Link)
  /-- PIN_RESET (R177): The NRST pin performs a part reset with cause PIN and begins start-up. -/
  | pinReset
  /-- POWER_UP (R177): Power-up performs a part reset with cause POWER once the reference oscillator gives its first cycle. -/
  | powerUp
  /-- POLICY_SET (R29): POLICY_SET tests, limits and writes one policy entry and carries out its effects on the subject's grant or waiting entry. `l` is the link whose oldest taken frame is processed. -/
  | policySet (l : Link)
  /-- POLICY_GET (R30): POLICY_GET returns one policy entry to a permitted reader. `l` is the link whose oldest taken frame is processed. -/
  | policyGet (l : Link)
  /-- TENANT_SET (R36): TENANT_SET tests and writes a tenant's state and allowance and carries out the effects on custody and channels. `l` is the link whose oldest taken frame is processed. -/
  | tenantSet (l : Link)
  /-- TENANT_GET (R37): TENANT_GET returns a tenant's state, allowance and count of bound TENANT channels. `l` is the link whose oldest taken frame is processed. -/
  | tenantGet (l : Link)
  /-- CLAIM (R46): CLAIM is tested and granted at once, queued, answered with an existing entry, preempts the holder, or is refused. `l` is the link whose oldest taken frame is processed. -/
  | claim (l : Link)
  /-- RELEASE (R52): RELEASE by the holder ends the grant with ending kind RELEASED and enters TURNOVER. `l` is the link whose oldest taken frame is processed. -/
  | release (l : Link)
  /-- WITHDRAW (R58): WITHDRAW removes the requester's waiting entry and closes the gap in the list. `l` is the link whose oldest taken frame is processed. -/
  | withdraw (l : Link)
  /-- CUSTODY_QUERY (R59): CUSTODY_QUERY returns one custody entry's state, grant, lease and waiting list, hiding other tenants' codes. `l` is the link whose oldest taken frame is processed. -/
  | custodyQuery (l : Link)
  /-- RENEW (R71): RENEW pays owed quarters, credits the balance up to +16, advances the phase, and applies a pending granularity at phase 0. `l` is the link whose oldest taken frame is processed. -/
  | renew (l : Link)
  /-- SET_GRAIN (R69): SET_GRAIN changes the granularity at once at phase 0 or records it as pending. `l` is the link whose oldest taken frame is processed. -/
  | setGrain (l : Link)
  /-- HOLD (R72): HOLD puts a renewed, non-owing grant into HELD with a HOLD record and stops its quarter timer. `l` is the link whose oldest taken frame is processed. -/
  | hold (l : Link)
  /-- RESUME (R74): RESUME ends a hold with the resume arithmetic: owed quarters by phase at entry, phase 0, renewed no. `l` is the link whose oldest taken frame is processed. -/
  | resume (l : Link)
  /-- QUARTER_BOUNDARY (R68): A grant's quarter timer reaches the quarter length; the balance falls by 1, or the grant lapses at -23. -/
  | quarterBoundary (r : Resource)
  /-- HELD_QUARTER (R73): A held timer reaches the held-quarter length; held quarters are counted and tested against the hold limit. -/
  | heldQuarter (r : Resource)
  /-- KEY_SETUP (R96): KEY_SETUP sets the debounce, wake mode and echo setting. `l` is the link whose oldest taken frame is processed. -/
  | keySetup (l : Link)
  /-- MATCH_SETUP (R94): MATCH_SETUP replaces the match settings and resets the matcher position, press time and hold timer. `l` is the link whose oldest taken frame is processed. -/
  | matchSetup (l : Link)
  /-- KEY_SCAN (R80): A scan event samples the keypad matrix every 4 ms in RUN or 32 ms otherwise and debounces every key. Bit `code - 1` of `sample` is set where the key joins its row to its column, and so is sensed PRESSED. -/
  | keyScan (sample : BitVec 24)
  /-- HOLD_TIMER_MATCH (R92): In HOLD mode the hold timer reaches the hold time and a match is found and reported. -/
  | holdTimerMatch
  /-- FSYNC_EDGE (R101): A rising FSYNC edge switches the mux to a pending target and completes the DISPLAY turnover. -/
  | fsyncEdge
  /-- FORCED_SWITCH (R102): The forced-switch timer reaches 100 ms; the mux switches, SYNC_MISSING is set and the DISPLAY turnover completes. -/
  | forcedSwitch
  /-- BLINK_TIMER (R105): The blink timer reaches 500 or 1000 ms and toggles SECLMP. -/
  | blinkTimer
  /-- PRINT (R107): PRINT appends its bytes whole to the printer FIFO and arms the drain report. `l` is the link whose oldest taken frame is processed. -/
  | print (l : Link)
  /-- PRINT_FLUSH (R109): PRINT_FLUSH discards the printer FIFO and clears the drain report. `l` is the link whose oldest taken frame is processed. -/
  | printFlush (l : Link)
  /-- PRINT_SETUP (R110): PRINT_SETUP replaces the separator. `l` is the link whose oldest taken frame is processed. -/
  | printSetup (l : Link)
  /-- PRDY_ACTIVE (R106): PRDY becoming active lets a waiting printer character begin. `level` is the level the line takes; the table has no row for PRDY becoming inactive (log entry 9). -/
  | prdyActive (level : Bool)
  /-- CHARACTER_COMPLETE (R106): A printer character's stop bit is sent; the next character may begin and turnover and drain state advance. -/
  | characterComplete
  /-- PRINTER_STALL (R113): The printer stall timer reaches 5000 ms; remaining bytes are discarded, PRINTER_STALL is set and the turnover completes. -/
  | printerStall
  /-- CL_EXCHANGE (R117): CL_EXCHANGE is accepted as an ARMED exchange with a new exchange number. `l` is the link whose oldest taken frame is processed. -/
  | clExchange (l : Link)
  /-- CL_SETUP (R128): CL_SETUP sets the field-reset interval. `l` is the link whose oldest taken frame is processed. -/
  | clSetup (l : Link)
  /-- WRITE_COMPLETE (R119): The WRITE transaction ends; the exchange becomes AWAITING and its timeout timer starts. -/
  | writeComplete
  /-- CLRDY_ACTIVE (R121): CLRDY active while AWAITING stops the timer and starts the READ of RECEIVING. `level` is the level the line takes; the table has no row for CLRDY becoming inactive (log entry 9). -/
  | clrdyActive (level : Bool)
  /-- EXCHANGE_TIMEOUT (R121): The timeout timer reaches the exchange's timeout and an ABORT transaction is made. -/
  | exchangeTimeout
  /-- ABORT_COMPLETE (R121): The ABORT transaction ends and the exchange ends with outcome TIMEOUT. -/
  | abortComplete
  /-- READ_COMPLETE (R122): The READ transaction ends and the exchange ends with outcome DONE and the bytes read. `available` is the available-length byte and `response` the bytes the front-end offers after it. -/
  | readComplete (available : Byte) (response : List Byte)
  /-- FIELD_RESET_EXPIRY (R126): The field reset's elapsed time reaches its interval; CLRST goes inactive, a turnover completes and an ARMED exchange may start. -/
  | fieldResetExpiry
  /-- CLFEV_EDGE (R129): An edge on CLFEV while CLRST is inactive is taken as a field event. `level` is the level after the edge. -/
  | clfevEdge (level : Bool)
  /-- AIR_MAP (R134): AIR_MAP tests and accepts a new air map as the pending map. `l` is the link whose oldest taken frame is processed. -/
  | airMap (l : Link)
  /-- AIR_QUERY (R143): AIR_QUERY returns the map in force, the frame position, map pending and the grant states. `l` is the link whose oldest taken frame is processed. -/
  | airQuery (l : Link)
  /-- SLOT_BOUNDARY (R133): The slot timer reaches L; the slot number advances and grants and the start gate are judged for the new slot. -/
  | slotBoundary
  /-- TX_REQUEST_RISE (R137): A transmit request line becomes active; the function becomes WAITING and is judged for a grant. -/
  | txRequestRise (f : RadioFn)
  /-- TX_REQUEST_FALL (R138): A transmit request line becomes inactive; the function goes IDLE, its grant or mark cleared, and the start gate may be judged. -/
  | txRequestFall (f : RadioFn)
  /-- CH_BIND (R152): CH_BIND tests and binds a channel with owner, class, level, reserve and ceiling and a new binding number. `l` is the link whose oldest taken frame is processed. -/
  | chBind (l : Link)
  /-- CH_UNBIND (R154): CH_UNBIND cancels the channel's frames in flight, discards its queues, frees its blocks and unbinds it. `l` is the link whose oldest taken frame is processed. -/
  | chUnbind (l : Link)
  /-- CH_QUERY (R160): CH_QUERY returns one channel record to a permitted reader. `l` is the link whose oldest taken frame is processed. -/
  | chQuery (l : Link)
  /-- CH_QUERY_SUMMARY (R161): CH_QUERY with body 0xFF returns the pool figures and the map of bound channels. `l` is the link whose oldest taken frame is processed. -/
  | chQuerySummary (l : Link)
  /-- SEND (R156): SEND queues the owner's data on the channel's outbound queue for FORWARD. `l` is the link whose oldest taken frame is processed. -/
  | send (l : Link)
  /-- DATA (R157): DATA from RAD queues data on a bound channel's inbound queue for DELIVER. `l` is the link whose oldest taken frame is processed. -/
  | data (l : Link)
  /-- DOZE (R170): DOZE is tested and accepted, setting doze pending until its reply completes. `l` is the link whose oldest taken frame is processed. -/
  | doze (l : Link)
  /-- PART_TIME_TICK (R168): The accumulator reaches 4096 and part time advances by 1 ms. -/
  | partTimeTick
  /-- FAST_CLOCK_LOCK (R175): The lock count reaches 80; the fast clock is LOCKED and the regime becomes RUN, resuming doze holds and pending takeover. -/
  | fastClockLock
  /-- ARRIVING_BYTE (R4): A whole byte (with its clock edges) arrives on a link during a transfer; in HUNTING a 0xA5 moves the receiver to IN_FRAME, and in IN_FRAME the byte is collected into the frame and the stall timer restarts. `arrival` is the byte that arrives, or one of its clock edges before it is whole (R7; log entry 8). -/
  | arrivingByte (l : Link) (arrival : Arrival)
  deriving DecidableEq, Repr

end Sys2Proof
end

