-- ==== Sys2Proof/Decode.lean ====
section
/-! DEFINITION. The command that a word spells. The part decodes no instruction words: its commands are
events on its lines and links, and no row of spec/opcode_table.json gives bits (log entry 19). -/

namespace Sys2Proof

/-- The command an opcode-table word spells: none, since no row of the table gives bits. -/
def decodeTableWord (_nbits _w : Nat) : Option Instr := none

end Sys2Proof
end

