-- ==== Sys2Proof/Config.lean ====
section
/-! DEFINITION. The sizes and limits the spec fixes for the part, one name each. -/

namespace Sys2Proof.Config

/-- Places of a port's receive buffer (R5, R8). -/
def rxPlaces : Nat := 2
/-- Reply slots of a port (R8). -/
def replySlots : Nat := 4
/-- Places of a port's notice queue (R11). -/
def noticePlaces : Nat := 16
/-- Longest body of a frame, in bytes (R4). -/
def maxBody : Nat := 256
/-- Milliseconds without a clock edge after which a frame being collected is discarded (R7). -/
def frameStallMs : Nat := 20
/-- Longest waiting list of a custody entry (R44). -/
def listPlaces : Nat := 6
/-- Places of the key FIFO (R85). -/
def keyFifoPlaces : Nat := 32
/-- Records one KEY frame takes at most (R86). -/
def keyFrameRecords : Nat := 8
/-- Keys that may stand DOWN or SUPPRESSED together (R82). -/
def downSetPlaces : Nat := 2
/-- Forced-switch time of the display switch, in ms (R102). -/
def forcedSwitchMs : Nat := 100
/-- Half period of the blinking lamp, in ms (R105). -/
def blinkHalfMs : Nat := 500
/-- Full period of the blinking lamp, in ms (R105). -/
def blinkMs : Nat := 1000
/-- Bytes of the printer FIFO (R106). -/
def printerPlaces : Nat := 4096
/-- Printer stall time within a turnover, in ms (R113). -/
def printerStallMs : Nat := 5000
/-- Balance at the start of a lease (R66). -/
def startBalance : Int := 4
/-- Highest balance of a lease (R71). -/
def maxBalance : Int := 16
/-- Balance below which LAPSE_WARN has been sent (R68). -/
def warnBalance : Int := -12
/-- Balance at which the next boundary lapses the grant (R68). -/
def lapseBalance : Int := -23
/-- Quarters in a lease period (R26). -/
def periodQuarters : Nat := 4
/-- Priority of an attention takeover, which no claim exceeds (R60). -/
def attentionPriority : Nat := 8
/-- Blocks of the relay pool (R149). -/
def poolBlocks : Nat := 96
/-- Highest sum of the reserves of bound channels (R152). -/
def maxReserveSum : Nat := 64
/-- Highest channel allowance of a tenant (R24). -/
def maxAllowance : Nat := 8
/-- Slots of an air frame (R133). -/
def airSlots : Nat := 16
/-- What one reference cycle adds to the accumulator (R168). -/
def cycleStep : Nat := 125
/-- The accumulator's modulus (R168). -/
def cycleModulus : Nat := 4096
/-- Reference cycles from enabling the fast clock to its lock (R169). -/
def lockCycles : Nat := 80
/-- Rate of the fast clock, in Hz (R169). -/
def fastClockHz : Nat := 50331648
/-- What the fast clock is divided by for CLCLK (R116). -/
def busDivisor : Nat := 16
/-- Scan interval in RUN, in ms of part time (R80). -/
def scanRunMs : Nat := 4
/-- Scan interval in DOZE and WAKING, in ms of part time (R80). -/
def scanSlowMs : Nat := 32

end Sys2Proof.Config
end

