-- ==== Sys2Proof/Machine/Types.lean ====
section
/-! DEFINITION. The plain data the part's blocks hold: one type for each thing the spec names. -/

namespace Sys2Proof.Machine

/-! ## Families of like things, one field each -/

/-- One value for each link. -/
structure PerLink (α : Type) where
  p : α
  a : α
  r : α
  deriving DecidableEq, Repr

def PerLink.get {α : Type} (m : PerLink α) : Link → α
  | .p => m.p
  | .a => m.a
  | .r => m.r

def PerLink.set {α : Type} (m : PerLink α) (l : Link) (x : α) : PerLink α :=
  match l with
  | .p => { m with p := x }
  | .a => { m with a := x }
  | .r => { m with r := x }

/-- One value for each custody resource. -/
structure PerResource (α : Type) where
  keypad : α
  display : α
  cless : α
  printer : α
  deriving DecidableEq, Repr

def PerResource.get {α : Type} (m : PerResource α) : Resource → α
  | .keypad => m.keypad
  | .display => m.display
  | .cless => m.cless
  | .printer => m.printer

def PerResource.set {α : Type} (m : PerResource α) (r : Resource) (x : α) : PerResource α :=
  match r with
  | .keypad => { m with keypad := x }
  | .display => { m with display := x }
  | .cless => { m with cless := x }
  | .printer => { m with printer := x }

/-- One value for each radio function that has transmit lines. -/
structure PerRadio (α : Type) where
  cell : α
  wlan : α
  bt : α
  deriving DecidableEq, Repr

def PerRadio.get {α : Type} (m : PerRadio α) : RadioFn → α
  | .cell => m.cell
  | .wlan => m.wlan
  | .bt => m.bt

def PerRadio.set {α : Type} (m : PerRadio α) (f : RadioFn) (x : α) : PerRadio α :=
  match f with
  | .cell => { m with cell := x }
  | .wlan => { m with wlan := x }
  | .bt => { m with bt := x }

/-! ## Timers -/

/-- A running millisecond timer. `due` is the model's own mark (log entry 4): the timer would reach its
limit in this millisecond, and the event of that has not been taken yet; `elapsed` then stands one
below the limit. -/
structure Timer where
  elapsed : Nat
  due : Bool
  deriving DecidableEq, Repr

/-! ## Subjects and policy (chapter 2) -/

/-- The 18 subjects (R23). -/
inductive Subject where
  | pay
  | app (t : Fin 16)
  | rad
  deriving DecidableEq, Repr

/-- Granularities, coarse to fine (R23). -/
inductive Gran where
  | full
  | half
  | quarter
  deriving DecidableEq, Repr

/-- A set of granularities (R23: FULL is bit 0, HALF bit 1, QUARTER bit 2 of its byte). -/
structure GranSet where
  full : Bool
  half : Bool
  quarter : Bool
  deriving DecidableEq, Repr

/-- A policy entry (R26). -/
structure PolicyEntry where
  allow : Bool
  priority : Nat
  preempt : Bool
  quarterLength : Nat
  grans : GranSet
  holdLimit : Nat
  deriving DecidableEq, Repr

/-- The policy table: an entry for each subject and resource (R26). -/
structure PolicyTable where
  pay : PerResource PolicyEntry
  apps : Vector (PerResource PolicyEntry) 16
  rad : PerResource PolicyEntry
  deriving DecidableEq, Repr

inductive TenantState where
  | active
  | frozen
  | retired
  deriving DecidableEq, Repr

/-- A tenant record (R24). -/
structure TenantRecord where
  state : TenantState
  allowance : Nat
  deriving DecidableEq, Repr

/-! ## Notices (R11 and each producing chapter) -/

/-- The cause a STARTED notice names (R22). -/
inductive ResetCause where
  | power
  | pin
  | request
  deriving DecidableEq, Repr

/-- Why a grant was revoked or a waiting entry removed (R57). -/
inductive RevokeReason where
  | preempted
  | lapsed
  | policy
  | attention
  deriving DecidableEq, Repr

/-- How an entry came to be in a waiting list (R44). -/
inductive Origin where
  | claim
  | ret
  | attention
  deriving DecidableEq, Repr

/-- The state of a custody entry by name (R42). -/
inductive EntryStanding where
  | free
  | granted
  | held
  | turnover
  deriving DecidableEq, Repr

/-- A wake cause (R174). -/
inductive WakeCause where
  | frame (l : Link)
  | key
  | matched
  | field
  deriving DecidableEq, Repr

/-- The cause a DOZE_ENDED notice names (R176). -/
inductive DozeEndCause where
  | woken (c : WakeCause)
  | abandoned
  deriving DecidableEq, Repr

/-- Channel classes (R148). -/
inductive ChanClass where
  | payment
  | control
  | tenant
  deriving DecidableEq, Repr

/-- Why a channel closed (R155). -/
inductive CloseReason where
  | unbind
  | retired
  | restart
  deriving DecidableEq, Repr

/-- What a notice says; its bytes are in Machine/Operands.lean. -/
inductive NoticeBody where
  | started (c : ResetCause)
  | dozeEnded (c : DozeEndCause) (entered ended : BitVec 32)
  | grant (r : Resource) (o : Origin) (g : Gran)
  | revoke (r : Resource) (why : RevokeReason) (position : Nat)
  | withdrawn (r : Resource) (why : RevokeReason)
  | attention (keypad display : EntryStanding)
  | lapseWarn (r : Resource) (balance : Int)
  | holdEnded (r : Resource) (balance : Int) (owed : Nat)
  | printDrained
  | field (level : Bool) (stamp : BitVec 16)
  | chOpen (c : Fin 32) (binding : Byte) (cls : ChanClass) (level : Nat)
  | chClosed (c : Fin 32) (binding : Byte) (why : CloseReason)
  | chReset (c : Fin 32) (binding : Byte) (discarded : Nat)
  deriving DecidableEq, Repr

/-- A notice with the tenant its frame names, 0 on the P-link and the R-link (R11). -/
structure Notice where
  tenant : Fin 16
  body : NoticeBody
  deriving DecidableEq, Repr

/-! ## Link ports (chapter 1) -/

/-- A frame without its sync byte, length and check, which follow from these (R3, 1.10). -/
structure Frame where
  kind : Byte
  tenant : Byte
  tag : Byte
  body : List Byte
  deriving DecidableEq, Repr

/-- The receiver (R4). In IN_FRAME it holds the bytes collected after the sync byte and the stall
timer of R7. -/
inductive Receiver where
  | hunting
  | inFrame (bytes : List Byte) (stall : Timer)
  | discarding
  deriving DecidableEq, Repr

/-- Last-receive outcome (R2, R5). -/
inductive RxOutcome where
  | taken
  | checkFailed
  | refusedFull
  | truncated
  deriving DecidableEq, Repr

/-- The source a frame in flight left (R13). -/
inductive FrameSource where
  | reply
  | notice
  | key
  | clResult
  | forward (c : Fin 32)
  | deliver (c : Fin 32)
  deriving DecidableEq, Repr

/-- A frame in flight is SENDING, with the bytes of it shifted so far, or PARKED (R14). -/
inductive SendPhase where
  | sending (shifted : Nat)
  | parked
  deriving DecidableEq, Repr

/-- The copy of the frame in flight (R13, R14). -/
structure InFlight where
  frame : Frame
  source : FrameSource
  phase : SendPhase
  deriving DecidableEq, Repr

/-- A transfer under way, that is, select active (R1): the status byte captured at its start, the whole
bytes moved in each direction so far, whether the outbound choice of R12 has been made, and the byte that is
being shifted out, from the moment it begins until it is whole: it is completed whatever becomes of the frame
it was taken from (R15). -/
structure Transfer where
  status : Byte
  moved : Nat
  choiceMade : Bool
  shifting : Option Byte
  deriving DecidableEq, Repr

/-- A link port (the table at the head of chapter 1). `conditions` and `enables` are subsets of the ten
conditions, laid out as bits 0 to 9 of the condition mask (1.10). -/
structure Port where
  receiver : Receiver
  rxBuffer : List Frame
  replies : List Frame
  notices : List Notice
  inFlight : Option InFlight
  lastRx : RxOutcome
  conditions : BitVec 10
  enables : BitVec 10
  transfer : Option Transfer
  deriving DecidableEq, Repr

/-- The ten conditions (R16). -/
inductive Condition where
  | inputTruncated
  | inputCheck
  | inputFull
  | frameStall
  | noticeLost
  | keysLost
  | keyActivity
  | radioOverrun
  | syncMissing
  | printerStall
  deriving DecidableEq, Repr

/-! ## Custody and lease (chapters 3 and 4) -/

/-- The hold record of a HELD grant (table of 4.1). -/
inductive HoldRecord where
  | byHold (heldQuarters : Nat) (timer : Timer) (length : Nat) (phaseAtEntry : Nat)
  | byDoze (phaseAtEntry : Nat)
  deriving DecidableEq, Repr

/-- A grant record with its lease (R43, R66). The entry is HELD exactly while `hold` is present. -/
structure Grant where
  holder : Subject
  priority : Nat
  order : BitVec 32
  returnFlag : Bool
  gran : Gran
  phase : Nat
  pendingGran : Option Gran
  balance : Int
  owed : Nat
  renewed : Bool
  quarterTimer : Timer
  quarterLength : Nat
  hold : Option HoldRecord
  deriving DecidableEq, Repr

/-- A waiting entry (R44). -/
structure Waiter where
  subject : Subject
  priority : Nat
  order : BitVec 32
  gran : Gran
  returnFlag : Bool
  origin : Origin
  deriving DecidableEq, Repr

/-- How the grant before a TURNOVER ended (R51). -/
inductive EndingKind where
  | released
  | revoked
  deriving DecidableEq, Repr

/-- The state of a custody entry (R42): `owned` is GRANTED, or HELD when the grant has a hold record. -/
inductive EntryState where
  | free
  | owned (g : Grant)
  | turnover (k : EndingKind)
  deriving DecidableEq, Repr

/-- A custody entry (R42, R44). `waiting` is the waiting list, head first. -/
structure CustodyEntry where
  state : EntryState
  waiting : List Waiter
  deriving DecidableEq, Repr

/-- The custody unit (R42, R45, R62). -/
structure CustodyUnit where
  entries : PerResource CustodyEntry
  arrivals : BitVec 32
  pendingTakeover : Bool
  deriving DecidableEq, Repr

/-! ## Key unit (chapter 5) -/

inductive Standing where
  | up
  | down
  | suppressed
  | blocked
  deriving DecidableEq, Repr

/-- A key's standing and disagreement count (R81, R82). -/
structure KeyState where
  standing : Standing
  count : Nat
  deriving DecidableEq, Repr

inductive Edge where
  | press
  | release
  deriving DecidableEq, Repr

/-- A key record (5.3). -/
structure KeyRecord where
  code : Nat
  edge : Edge
  stamp : BitVec 16
  lostBefore : Bool
  deriving DecidableEq, Repr

inductive WakeMode where
  | none
  | any
  | matching
  deriving DecidableEq, Repr

inductive MatchMode where
  | off
  | sequence
  | hold
  deriving DecidableEq, Repr

/-- Key settings (R96). -/
structure KeySettings where
  debounce : Nat
  wake : WakeMode
  echo : Bool
  deriving DecidableEq, Repr

/-- Match settings (R94). A sequence entry of 0 stands for any key (R91). -/
structure MatchSettings where
  mode : MatchMode
  gapLimit : Nat
  holdCode : Nat
  holdTime : Nat
  sequence : List Nat
  deriving DecidableEq, Repr

/-- The key unit (the table at the head of chapter 5). Key `i` has code `i + 1`. `scanDue` is the
model's own mark: a scan event falls in this millisecond and has not been taken (log entry 4). -/
structure KeyUnit where
  keys : Vector KeyState 24
  fifo : List KeyRecord
  lossPending : Bool
  position : Nat
  previousPress : Option (BitVec 32)
  holdTimer : Option Timer
  settings : KeySettings
  matching : MatchSettings
  scanDue : Bool
  deriving DecidableEq, Repr

/-! ## Display switch and printer port (chapter 6) -/

inductive Source where
  | app
  | pay
  deriving DecidableEq, Repr

/-- The lamp state (R104). -/
inductive Lamp where
  | dark
  | steady
  | blink
  deriving DecidableEq, Repr

/-- The display switch (table of 6.1). -/
structure DisplaySwitch where
  mux : Source
  required : Option Source
  target : Option Source
  forcedTimer : Option Timer
  lamp : Lamp
  blinkTimer : Option Timer
  deriving DecidableEq, Repr

inductive PrintPhase where
  | none
  | drain
  | separator
  deriving DecidableEq, Repr

/-- The printer port (table of 6.3). `armed` is the drain report. -/
structure PrinterPort where
  fifo : List Byte
  inTransmission : Option Byte
  separator : List Byte
  phase : PrintPhase
  separatorCopy : List Byte
  stallTimer : Option Timer
  armed : Bool
  deriving DecidableEq, Repr

/-! ## Contactless bridge (chapter 7) -/

/-- An exchange record (R117). -/
structure Exchange where
  owner : Subject
  number : Byte
  command : List Byte
  expected : Nat
  timeout : Nat
  discard : Bool
  deriving DecidableEq, Repr

/-- The exchange state with the record it carries (table at the head of chapter 7). `aborting` is
AWAITING after the timeout's expiry, while the ABORT transaction is under way (R121). -/
inductive ExchangeState where
  | idle
  | armed (x : Exchange)
  | sending (x : Exchange)
  | awaiting (x : Exchange) (timer : Timer)
  | aborting (x : Exchange)
  | receiving (x : Exchange)
  | result
  deriving DecidableEq, Repr

/-- How an exchange ended (R121, R122). -/
inductive ExchangeOutcome where
  | done
  | timeout
  deriving DecidableEq, Repr

/-- A result (R123). -/
structure ClResult where
  owner : Subject
  number : Byte
  outcome : ExchangeOutcome
  truncated : Bool
  available : Byte
  response : List Byte
  deriving DecidableEq, Repr

/-- A field reset RUNNING (R126). -/
structure FieldReset where
  timer : Timer
  interval : Nat
  forTurnover : Bool
  deriving DecidableEq, Repr

/-- The contactless bridge. -/
structure Bridge where
  exchange : ExchangeState
  slot : Option ClResult
  counter : Byte
  interval : Nat
  fieldReset : Option FieldReset
  deriving DecidableEq, Repr

/-! ## Air schedule (chapter 8) -/

/-- An air map (R134). Bit `i` of a set stands for slot `i`. -/
structure AirMap where
  slotLength : Nat
  sets : PerRadio (BitVec 16)
  nfc : BitVec 16
  tolerant : PerRadio Bool
  deriving DecidableEq, Repr

inductive RadioGrant where
  | idle
  | waiting
  | granted
  | overrun
  deriving DecidableEq, Repr

/-- The air schedule (table at the head of chapter 8). -/
structure AirSchedule where
  inForce : AirMap
  pendingMap : Option AirMap
  slot : Fin 16
  slotTimer : Timer
  grants : PerRadio RadioGrant
  deriving DecidableEq, Repr

/-! ## Radio relay (chapter 9) -/

/-- What a BOUND channel holds (R147). -/
structure Binding where
  owner : Subject
  cls : ChanClass
  level : Nat
  reserve : Nat
  ceiling : Nat
  outbound : List (List Byte)
  inbound : List (List Byte)
  deriving DecidableEq, Repr

/-- A channel record: its binding number, and its binding while BOUND (R147). -/
structure Channel where
  number : Byte
  binding : Option Binding
  deriving DecidableEq, Repr

/-- The radio relay. `lastServed` gives, for each link, the last-served channel of levels 0 to 3 (R12). -/
structure Relay where
  channels : Vector Channel 32
  lastServed : PerLink (Vector (Fin 32) 4)
  deriving DecidableEq, Repr

/-! ## Clock and timebase (chapter 10) -/

/-- The fast clock (R169). `locking 80` is the model's mark that the 80th cycle has come and the lock is
due (log entry 4). -/
inductive FastClock where
  | off
  | locking (count : Nat)
  | locked
  deriving DecidableEq, Repr

inductive Regime where
  | run
  | doze
  | waking
  deriving DecidableEq, Repr

/-- The clock and timebase (table at the head of chapter 10). -/
structure Timebase where
  accumulator : Nat
  partTime : BitVec 32
  fastClock : FastClock
  regime : Regime
  dozePending : Bool
  wakeCause : Option WakeCause
  dozeEntry : Option (BitVec 32)
  deriving DecidableEq, Repr

/-- Levels of the input lines the part tests: PRDY (R106), CLRDY (R121), CLFEV (R129), and the key
matrix as last sampled (R80). Select lines are active exactly while a port has a transfer, and request
lines exactly while a function is not IDLE. -/
structure InputLines where
  prdy : Bool
  clrdy : Bool
  clfev : Bool
  matrix : BitVec 24
  deriving DecidableEq, Repr

end Sys2Proof.Machine
end

