-- ==== Sys2Proof/Machine/ResetValues.lean ====
section
/-! DEFINITION. What each block holds after a part reset (R22, R24, R28, R42, R97, R99, R115, R131, R145,
R165, R177 and the tables at the heads of the chapters). -/

namespace Sys2Proof.Machine

/-- A timer just started. -/
def Timer.zero : Timer := { elapsed := 0, due := false }

/-- A port right after a part reset, with its STARTED notice (R22). `transfer` is the transfer the reset
cut into, if select is active as the reset ends: it goes on with fill bytes, and the receiver is then
DISCARDING (DEDUCED, log entry 15). -/
def resetPort (cause : ResetCause) (transfer : Option Transfer) : Port where
  receiver := if transfer.isSome then .discarding else .hunting
  rxBuffer := []
  replies := []
  notices := [{ tenant := 0, body := .started cause }]
  inFlight := none
  lastRx := .taken
  conditions := 0
  enables := BitVec.allOnes 10
  transfer := transfer.map fun t => { t with status := 0, choiceMade := true, shifting := none }

/-- PAY's policy entries after a part reset (R28). -/
def payDefault : PolicyEntry :=
  { allow := true, priority := 6, preempt := true, quarterLength := 250,
    grans := ⟨true, true, false⟩, holdLimit := 40 }

/-- APP/0's policy entries after a part reset (R28). -/
def platformDefault : PolicyEntry :=
  { allow := true, priority := 2, preempt := false, quarterLength := 250,
    grans := ⟨true, true, true⟩, holdLimit := 40 }

/-- The policy entries of APP/1 to APP/15 after a part reset (R28). -/
def tenantDefault : PolicyEntry :=
  { allow := false, priority := 1, preempt := false, quarterLength := 250,
    grans := ⟨true, false, false⟩, holdLimit := 0 }

/-- RAD's policy entries, which are fixed whole (R27, R28). -/
def radFixed : PolicyEntry :=
  { allow := false, priority := 0, preempt := false, quarterLength := 250,
    grans := ⟨true, false, false⟩, holdLimit := 0 }

/-- The same value for all four resources. -/
def onAll {α : Type} (x : α) : PerResource α := ⟨x, x, x, x⟩

/-- The policy table after a part reset (R28). -/
def resetPolicy : PolicyTable where
  pay := onAll payDefault
  apps := (Vector.replicate 16 (onAll tenantDefault)).set 0 (onAll platformDefault)
  rad := onAll radFixed

/-- The tenant records after a part reset (R24). -/
def resetTenants : Vector TenantRecord 16 :=
  (Vector.replicate 16 { state := .retired, allowance := 0 }).set 0 { state := .active, allowance := 0 }

/-- The custody unit after a part reset (R42, R45, R62). -/
def resetCustody : CustodyUnit where
  entries := onAll { state := .free, waiting := [] }
  arrivals := 0
  pendingTakeover := false

/-- The key unit after a part reset (R97). No scan falls in the event of the reset itself, at part time 0: the
first falls at the first later multiple of R80 (DESIGN CHOICE, log entry 30). -/
def resetKeys : KeyUnit where
  keys := Vector.replicate 24 { standing := .up, count := 0 }
  fifo := []
  lossPending := false
  position := 0
  previousPress := none
  holdTimer := none
  settings := { debounce := 2, wake := .any, echo := false }
  matching := { mode := .off, gapLimit := 1000, holdCode := 1, holdTime := 2000, sequence := [] }
  scanDue := false

/-- The display switch after a part reset (R99, R104). -/
def resetDisplay : DisplaySwitch where
  mux := .app
  required := none
  target := none
  forcedTimer := none
  lamp := .dark
  blinkTimer := none

/-- The printer port after a part reset (R115). -/
def resetPrinter : PrinterPort where
  fifo := []
  inTransmission := none
  separator := []
  phase := .none
  separatorCopy := []
  stallTimer := none
  armed := false

/-- The bridge after a part reset: a field reset of 10 ms begins, not for a turnover (R131). -/
def resetBridge : Bridge where
  exchange := .idle
  slot := none
  counter := 0
  interval := 10
  fieldReset := some { timer := .zero, interval := 10, forTurnover := false }

/-- The air map after a part reset (R133). -/
def resetAirMap : AirMap where
  slotLength := 5
  sets := ⟨0, 0, 0⟩
  nfc := 0
  tolerant := ⟨false, false, false⟩

/-- A grant state after a part reset: WAITING where the request line is active (R145). -/
def resetRadioGrant (g : RadioGrant) : RadioGrant := if g = .idle then .idle else .waiting

/-- The air schedule after a part reset, with the request lines at the levels `before` shows (R145). -/
def resetAir (before : PerRadio RadioGrant) : AirSchedule where
  inForce := resetAirMap
  pendingMap := none
  slot := 0
  slotTimer := .zero
  grants := ⟨resetRadioGrant before.cell, resetRadioGrant before.wlan, resetRadioGrant before.bt⟩

/-- The relay after a part reset (R165). -/
def resetRelay : Relay where
  channels := Vector.replicate 32 { number := 0, binding := none }
  lastServed := ⟨Vector.replicate 4 31, Vector.replicate 4 31, Vector.replicate 4 31⟩

/-- The clock and timebase after a part reset (R177). -/
def resetClock : Timebase where
  accumulator := 0
  partTime := 0
  fastClock := .locking 0
  regime := .waking
  dozePending := false
  wakeCause := none
  dozeEntry := none

/-- The input lines of State.reset: every one inactive or low, and every key OPEN.
DESIGN CHOICE (log entry 6): the spec gives no level for a line that the outside drives. -/
def quietLines : InputLines where
  prdy := false
  clrdy := false
  clfev := false
  matrix := 0

end Sys2Proof.Machine
end

