-- ==== Sys2Proof/Machine/State.lean ====
section
/-! DEFINITION. The part's state, the reasons a step can stop, and the state after reset. -/

namespace Sys2Proof.Machine

/-- Why the part stops with a fault. There is no such reason: the spec answers every bad frame, request
or event with a reply, a condition or nothing, and the part goes on. -/
inductive Fault where
  deriving DecidableEq, Repr

/-- Why a command has no meaning. -/
inductive Refusal where
  /-- Raised by exec's arm of a command that has no meaning yet; safe: the machine stops. No arm raises it. -/
  | notModelled (mnemonic : String)
  deriving DecidableEq, Repr

/-- Everything the spec gives the part, block by block, and the queue of the commands that wait. -/
structure State where
  /-- Clock and timebase (chapter 10). -/
  clock : Timebase
  /-- The three link ports (chapter 1). -/
  ports : PerLink Port
  /-- The policy table (chapter 2). -/
  policy : PolicyTable
  /-- The tenant records (chapter 2). -/
  tenants : Vector TenantRecord 16
  /-- The custody unit with its leases (chapters 3 and 4). -/
  custody : CustodyUnit
  /-- The key unit (chapter 5). -/
  keys : KeyUnit
  /-- The display switch and the lamp (chapter 6). -/
  display : DisplaySwitch
  /-- The printer port (chapter 6). -/
  printer : PrinterPort
  /-- The contactless bridge (chapter 7). -/
  bridge : Bridge
  /-- The air schedule (chapter 8). -/
  air : AirSchedule
  /-- The radio relay (chapter 9). -/
  relay : Relay
  /-- Levels of the input lines. -/
  lines : InputLines
  /-- The commands that wait, first in, first out (the model's own). -/
  pending : List Instr
  deriving DecidableEq, Repr

/-- The part right after the part reset of a power-up, with every input line quiet and no command
waiting (R22, R177; log entry 6). -/
def State.reset : State where
  clock := resetClock
  ports := ⟨resetPort .power none, resetPort .power none, resetPort .power none⟩
  policy := resetPolicy
  tenants := resetTenants
  custody := resetCustody
  keys := resetKeys
  display := resetDisplay
  printer := resetPrinter
  bridge := resetBridge
  air := resetAir ⟨.idle, .idle, .idle⟩
  relay := resetRelay
  lines := quietLines
  pending := []

end Sys2Proof.Machine
end

