-- ==== Sys2Proof/Machine/Operands.lean ====
section
/-! DEFINITION. How the things the part talks about are spelt in bytes, and read from them: numbers,
subjects, granularities, requests, reply codes, notices, and the frame's check. -/

namespace Sys2Proof.Machine

/-! ## Numbers (00, Conventions: most significant byte first) -/

/-- The low byte of a number. -/
def byte (n : Nat) : Byte := BitVec.ofNat 8 n

/-- A number in two bytes. -/
def bytes2 (n : Nat) : List Byte := [byte (n / 256), byte n]

/-- A 32-bit count in four bytes. -/
def bytes4 (w : BitVec 32) : List Byte :=
  [w.extractLsb' 24 8, w.extractLsb' 16 8, w.extractLsb' 8 8, w.extractLsb' 0 8]

/-- Two bytes as a number. -/
def number2 (hi lo : Byte) : Nat := hi.toNat * 256 + lo.toNat

/-- A signed value in one byte. -/
def signedByte (i : Int) : Byte := BitVec.ofInt 8 i

/-- No 0, yes 1. -/
def flagByte (b : Bool) : Byte := if b then 1 else 0

/-- A flag byte read: only 0 and 1 are flags. -/
def flagOf (b : Byte) : Option Bool := if b = 0 then some false else if b = 1 then some true else none

/-- The time stamp of key records and FIELD notices: the low 16 bits of part time (R83, R129). -/
def stampOf (t : BitVec 32) : BitVec 16 := t.setWidth 16

/-! ## Resources, subjects, granularities (R23) -/

def resourceCode : Resource → Byte
  | .keypad => 0
  | .display => 1
  | .cless => 2
  | .printer => 3

/-- The resource a body names; none for any other number (R23). -/
def resourceOf (b : Byte) : Option Resource :=
  if b = 0 then some .keypad else if b = 1 then some .display
  else if b = 2 then some .cless else if b = 3 then some .printer else none

/-- The four resources in resource-number order. -/
def allResources : List Resource := [.keypad, .display, .cless, .printer]

/-- The tenant a byte names, 0 to 15. -/
def tenantOf (b : Byte) : Option (Fin 16) := if h : b.toNat < 16 then some ⟨b.toNat, h⟩ else none

def tenantByte (t : Fin 16) : Byte := byte t.val

/-- Subject codes (table of R23). -/
def Subject.code : Subject → Byte
  | .pay => 0
  | .app t => byte (16 + t.val)
  | .rad => 32

/-- The subject a body names; none for any other value (R23). -/
def subjectOf (b : Byte) : Option Subject :=
  if b = 0 then some .pay
  else if h : 16 ≤ b.toNat ∧ b.toNat < 32 then some (.app ⟨b.toNat - 16, by omega⟩)
  else if b = 32 then some .rad else none

/-- A subject code withheld from the reader (R23). -/
def hiddenCode : Byte := 255

/-- The code for "no holder" and "no owner" (R59, R160). -/
def nobodyCode : Byte := 254

def Gran.code : Gran → Byte
  | .full => 0
  | .half => 1
  | .quarter => 2

def granOf (b : Byte) : Option Gran :=
  if b = 0 then some .full else if b = 1 then some .half else if b = 2 then some .quarter else none

/-- Weight of a renewal (table of 4.4). -/
def Gran.weight : Gran → Nat
  | .full => 4
  | .half => 2
  | .quarter => 1

def GranSet.has (s : GranSet) : Gran → Bool
  | .full => s.full
  | .half => s.half
  | .quarter => s.quarter

/-- The coarsest allowed granularity (R23). The empty set is no policy entry's (R29, test 4). -/
def GranSet.coarsest (s : GranSet) : Gran := if s.full then .full else if s.half then .half else .quarter

/-- A requested granularity, or the coarsest allowed one where the request is not allowed (R46, R56). -/
def GranSet.grantable (s : GranSet) (g : Gran) : Gran := if s.has g then g else s.coarsest

def GranSet.code (s : GranSet) : Byte :=
  byte ((if s.full then 1 else 0) + (if s.half then 2 else 0) + (if s.quarter then 4 else 0))

/-- A granularity set read from its byte: not empty and no bit above bit 2 (R29, test 4). -/
def granSetOf (b : Byte) : Option GranSet :=
  if b = 0 ∨ 8 ≤ b.toNat then none
  else some { full := b.getLsbD 0, half := b.getLsbD 1, quarter := b.getLsbD 2 }

/-- A pending granularity, 0xFF when there is none (R59, R69). -/
def pendingCode : Option Gran → Byte
  | none => 255
  | some g => g.code

def TenantState.code : TenantState → Byte
  | .active => 0
  | .frozen => 1
  | .retired => 2

def tenantStateOf (b : Byte) : Option TenantState :=
  if b = 0 then some .active else if b = 1 then some .frozen else if b = 2 then some .retired else none

/-- State codes of CUSTODY_QUERY and ATTENTION (R59, R61). -/
def EntryStanding.code : EntryStanding → Byte
  | .free => 0
  | .granted => 1
  | .held => 2
  | .turnover => 3

def Origin.code : Origin → Byte
  | .claim => 1
  | .ret => 2
  | .attention => 3

def RevokeReason.code : RevokeReason → Byte
  | .preempted => 1
  | .lapsed => 2
  | .policy => 3
  | .attention => 4

def ResetCause.code : ResetCause → Byte
  | .power => 1
  | .pin => 2
  | .request => 3

def linkCode : Link → Byte
  | .p => 0
  | .a => 1
  | .r => 2

def ChanClass.code : ChanClass → Byte
  | .payment => 0
  | .control => 1
  | .tenant => 2

def classOf (b : Byte) : Option ChanClass :=
  if b = 0 then some .payment else if b = 1 then some .control else if b = 2 then some .tenant else none

/-- Highest level of a class (table of R148). -/
def ChanClass.maxLevel : ChanClass → Nat
  | .payment => 3
  | .control => 2
  | .tenant => 1

/-- The channel a byte names, 0 to 31. -/
def channelOf (b : Byte) : Option (Fin 32) := if h : b.toNat < 32 then some ⟨b.toNat, h⟩ else none

def channelByte (c : Fin 32) : Byte := byte c.val

def CloseReason.code : CloseReason → Byte
  | .unbind => 1
  | .retired => 2
  | .restart => 3

def RadioGrant.code : RadioGrant → Byte
  | .idle => 0
  | .waiting => 1
  | .granted => 2
  | .overrun => 3

/-- Cause byte and link byte of DOZE_ENDED (R176). -/
def DozeEndCause.codes : DozeEndCause → List Byte
  | .woken (.frame l) => [1, linkCode l]
  | .woken .key => [2, 255]
  | .woken .matched => [3, 255]
  | .woken .field => [4, 255]
  | .abandoned => [16, 255]

/-! ## Notices -/

/-- The kind of a notice (table of 1.10). -/
def NoticeBody.kind : NoticeBody → Byte
  | .started _ => 0x40
  | .dozeEnded _ _ _ => 0x41
  | .grant _ _ _ => 0x44
  | .revoke _ _ _ => 0x45
  | .withdrawn _ _ => 0x46
  | .attention _ _ => 0x47
  | .lapseWarn _ _ => 0x48
  | .holdEnded _ _ _ => 0x49
  | .printDrained => 0x50
  | .field _ _ => 0x55
  | .chOpen _ _ _ _ => 0x58
  | .chClosed _ _ _ => 0x59
  | .chReset _ _ _ => 0x5A

/-- The body of a notice, as its rule lays it out: R22, R176, R57, R61, R68, R73, R108, R129, R155. -/
def NoticeBody.bytes : NoticeBody → List Byte
  | .started c => [c.code]
  | .dozeEnded c entered ended => c.codes ++ bytes4 entered ++ bytes4 ended
  | .grant r o g => [resourceCode r, o.code, g.code]
  | .revoke r why position => [resourceCode r, why.code, byte position]
  | .withdrawn r why => [resourceCode r, why.code]
  | .attention k d => [k.code, d.code]
  | .lapseWarn r b => [resourceCode r, signedByte b]
  | .holdEnded r b w => [resourceCode r, signedByte b, byte w]
  | .printDrained => [resourceCode .printer]
  | .field level stamp => flagByte level :: bytes2 stamp.toNat
  | .chOpen c n k level => [channelByte c, n, k.code, byte level]
  | .chClosed c n why => [channelByte c, n, why.code]
  | .chReset c n k => [channelByte c, n, byte k]

/-- The frame of a notice; its tag is 0 (R11). -/
def Notice.frame (n : Notice) : Frame :=
  { kind := n.body.kind, tenant := tenantByte n.tenant, tag := 0, body := n.body.bytes }

/-- Whether a notice is STARTED, which goes ahead of replies (R12). -/
def Notice.isStarted (n : Notice) : Bool :=
  match n.body with
  | .started _ => true
  | _ => false

/-! ## The frame and its check (R3) -/

/-- One covered bit taken into the check register (R3, step 2). -/
def crcBit (reg : BitVec 16) (bit : Bool) : BitVec 16 :=
  if bit = reg.msb then reg <<< 1 else (reg <<< 1) ^^^ 0x1021

/-- One covered byte, most significant bit first. -/
def crcByte (reg : BitVec 16) (b : Byte) : BitVec 16 :=
  [7, 6, 5, 4, 3, 2, 1, 0].foldl (fun c i => crcBit c (b.getLsbD i)) reg

/-- The check of the covered bytes, in travel order (R3). -/
def frameCheck (covered : List Byte) : BitVec 16 := covered.foldl crcByte 0xFFFF

/-- The covered bytes of a frame: kind, tenant, tag, length and body (R3). -/
def Frame.covered (f : Frame) : List Byte :=
  f.kind :: f.tenant :: f.tag :: (bytes2 f.body.length ++ f.body)

/-- The frame as it travels, from sync byte to second check byte (table of 1.10). -/
def Frame.wire (f : Frame) : List Byte := 0xA5 :: (f.covered ++ bytes2 (frameCheck f.covered).toNat)

/-- Number of bytes of the frame on the link: 6 + body + 2. -/
def Frame.wireLength (f : Frame) : Nat := f.body.length + 8

/-- The sync byte. -/
def syncByte : Byte := 0xA5

/-! ## Requests (table of request kinds, 1.10) -/

/-- The assigned request kinds. -/
inductive ReqKind where
  | time | conditions | conditionsEnable | restart | partReset
  | policySet | policyGet | tenantSet | tenantGet
  | claim | release | withdraw | custodyQuery
  | renew | setGrain | hold | resume
  | keySetup | matchSetup
  | print | printSetup | printFlush
  | clExchange | clSetup
  | airMap | airQuery
  | chBind | chUnbind | chQuery | send | data
  | doze
  deriving DecidableEq, Repr

def ReqKind.code : ReqKind → Byte
  | .time => 0x01 | .conditions => 0x02 | .conditionsEnable => 0x03 | .restart => 0x04 | .partReset => 0x05
  | .policySet => 0x08 | .policyGet => 0x09 | .tenantSet => 0x0A | .tenantGet => 0x0B
  | .claim => 0x10 | .release => 0x11 | .withdraw => 0x12 | .custodyQuery => 0x13
  | .renew => 0x14 | .setGrain => 0x15 | .hold => 0x16 | .resume => 0x17
  | .keySetup => 0x18 | .matchSetup => 0x19
  | .print => 0x1C | .printSetup => 0x1D | .printFlush => 0x1E
  | .clExchange => 0x20 | .clSetup => 0x21
  | .airMap => 0x24 | .airQuery => 0x25
  | .chBind => 0x28 | .chUnbind => 0x29 | .chQuery => 0x2A | .send => 0x2B | .data => 0x2C
  | .doze => 0x30

/-- Every request kind once. -/
def allReqKinds : List ReqKind :=
  [.time, .conditions, .conditionsEnable, .restart, .partReset, .policySet, .policyGet, .tenantSet, .tenantGet,
   .claim, .release, .withdraw, .custodyQuery, .renew, .setGrain, .hold, .resume, .keySetup, .matchSetup,
   .print, .printSetup, .printFlush, .clExchange, .clSetup, .airMap, .airQuery,
   .chBind, .chUnbind, .chQuery, .send, .data, .doze]

/-- The request kind a kind byte names; none where it is not assigned (R9, check 1). -/
def reqKindOf (b : Byte) : Option ReqKind := allReqKinds.find? fun k => k.code == b

/-- The links a request is taken on (column Links of the request table; R9, check 4). On the A-link the
platform alone may send CONDITIONS, CONDITIONS_ENABLE and RESTART. -/
def ReqKind.permitted (k : ReqKind) (l : Link) (tenant : Byte) : Bool :=
  match k, l with
  | .time, _ => true
  | .conditions, .a | .conditionsEnable, .a | .restart, .a => tenant == 0
  | .conditions, _ | .conditionsEnable, _ | .restart, _ => true
  | .partReset, .p | .policySet, .p | .keySetup, .p | .matchSetup, .p | .printSetup, .p | .clSetup, .p
  | .airMap, .p | .doze, .p => true
  | .partReset, _ | .policySet, _ | .keySetup, _ | .matchSetup, _ | .printSetup, _ | .clSetup, _
  | .airMap, _ | .doze, _ => false
  | .airQuery, .a => false
  | .airQuery, _ => true
  | .chQuery, _ => true
  | .data, .r => true
  | .data, _ => false
  | .policyGet, .r | .tenantSet, .r | .tenantGet, .r | .claim, .r | .release, .r | .withdraw, .r
  | .custodyQuery, .r | .renew, .r | .setGrain, .r | .hold, .r | .resume, .r | .print, .r | .printFlush, .r
  | .clExchange, .r | .chBind, .r | .chUnbind, .r | .send, .r => false
  | .policyGet, _ | .tenantSet, _ | .tenantGet, _ | .claim, _ | .release, _ | .withdraw, _
  | .custodyQuery, _ | .renew, _ | .setGrain, _ | .hold, _ | .resume, _ | .print, _ | .printFlush, _
  | .clExchange, _ | .chBind, _ | .chUnbind, _ | .send, _ => true

/-- The body lengths a request kind allows (R9, check 5; each kind's own rule). -/
def ReqKind.lengthOk (k : ReqKind) (n : Nat) : Bool :=
  match k with
  | .time | .restart | .partReset | .printFlush | .airQuery | .doze => n == 0
  | .tenantGet | .release | .withdraw | .custodyQuery | .renew | .hold | .resume | .clSetup | .chUnbind
  | .chQuery => n == 1
  | .conditions | .conditionsEnable | .policyGet | .setGrain => n == 2
  | .tenantSet | .keySetup => n == 3
  | .claim => n == 4
  | .chBind => n == 6
  | .policySet => n == 9
  | .airMap => n == 10
  | .matchSetup => 7 ≤ n ∧ n ≤ 13
  | .print => 1 ≤ n ∧ n ≤ 248
  | .printSetup => n ≤ 8
  | .clExchange => 3 ≤ n ∧ n ≤ 242
  | .send => 2 ≤ n ∧ n ≤ 249
  | .data => 3 ≤ n ∧ n ≤ 250

/-! ## Replies (table of reply codes, 1.10) -/

inductive ReplyCode where
  | ok | queued | pending | clamped
  | badRequest | notPermitted | notHolder | notOwner | busy | listFull | already
  | collision | full | held | renewFirst | fixed | overlap | noAirTime | noReserve
  | notBound | tenantInactive | notHeld
  deriving DecidableEq, Repr

def ReplyCode.byte : ReplyCode → Byte
  | .ok => 0x00 | .queued => 0x01 | .pending => 0x02 | .clamped => 0x03
  | .badRequest => 0x10 | .notPermitted => 0x11 | .notHolder => 0x12 | .notOwner => 0x13
  | .busy => 0x14 | .listFull => 0x15 | .already => 0x16 | .collision => 0x17 | .full => 0x18
  | .held => 0x19 | .renewFirst => 0x1A | .fixed => 0x1B | .overlap => 0x1C | .noAirTime => 0x1D
  | .noReserve => 0x1E | .notBound => 0x1F | .tenantInactive => 0x20 | .notHeld => 0x21

/-- A reply body: the code, then the data (R10). -/
def replyBody (c : ReplyCode) (data : List Byte) : List Byte := c.byte :: data

/-- OK, or CLAMPED where a value was limited (R9). -/
def okOr (limited : Bool) : ReplyCode := if limited then .clamped else .ok

/-- A value limited to a range (R9). -/
def clampTo (lo hi n : Nat) : Nat := if n < lo then lo else if hi < n then hi else n

/-- The reply frame of a request: its kind with 0x80 added, its tenant field and its tag (R10). -/
def replyFrame (request : Frame) (body : List Byte) : Frame :=
  { kind := request.kind + 0x80, tenant := request.tenant, tag := request.tag, body := body }

/-- The reply to an unassigned kind: kind 0x80, BAD_REQUEST and the received kind byte (R9, check 1). -/
def unknownKindReply (request : Frame) : Frame :=
  { kind := 0x80, tenant := request.tenant, tag := request.tag,
    body := replyBody .badRequest [request.kind] }

/-- Whether a frame is the reply of an accepted DOZE (R170): kind 0xB0 with OK alone. -/
def Frame.isDozeOk (f : Frame) : Bool := f.kind == 0xB0 && f.body == [ReplyCode.ok.byte]

/-- The admission checks of R9 on a frame of an assigned kind, in their order; the code of the first
that fails. -/
def admission (k : ReqKind) (l : Link) (f : Frame) : Option ReplyCode :=
  if l ≠ .a ∧ f.tenant ≠ 0 then some .badRequest
  else if l = .a ∧ 16 ≤ f.tenant.toNat then some .badRequest
  else if ¬ k.permitted l f.tenant then some .notPermitted
  else if ¬ k.lengthOk f.body.length then some .badRequest
  else none

/-- The subject that makes a request on a link with a tenant field (R23). A tenant field above 15 has
already been refused (R9). -/
def requester (l : Link) (tenant : Byte) : Subject :=
  match l with
  | .p => .pay
  | .a => .app (Fin.ofNat 16 tenant.toNat)
  | .r => .rad

/-- The link of a subject's domain (00, Conventions). -/
def Subject.link : Subject → Link
  | .pay => .p
  | .app _ => .a
  | .rad => .r

/-- The tenant a frame to a subject carries: its number on the A-link, 0 elsewhere (R11). -/
def Subject.tenantField : Subject → Fin 16
  | .app t => t
  | _ => 0

def Subject.isApp : Subject → Bool
  | .app _ => true
  | _ => false

/-- The domain of a subject, by its link. -/
def Subject.isOf (s : Subject) (l : Link) : Bool := s.link == l

/-- The key code of the key at row `r` and column `c` of the matrix (5.1). -/
def keyCode (r : Fin 4) (c : Fin 6) : Nat := 6 * r.val + c.val + 1

/-- One key record in a KEY frame (R86). -/
def KeyRecord.bytes (k : KeyRecord) : List Byte :=
  byte k.code :: byte ((match k.edge with | .press => 0 | .release => 1) + (if k.lostBefore then 2 else 0))
    :: bytes2 k.stamp.toNat

/-- Body of a KEY frame: the count and the records, oldest first (R86). -/
def keyBody (ks : List KeyRecord) : List Byte := byte ks.length :: ks.flatMap KeyRecord.bytes

/-- Body of a CL_RESULT frame (R124). -/
def ClResult.bytes (x : ClResult) : List Byte :=
  x.number :: (match x.outcome with | .done => 0 | .timeout => 1) :: flagByte x.truncated :: x.available
    :: x.response

/-- Body of a FORWARD or DELIVER frame (R158). -/
def relayBody (c : Fin 32) (number : Byte) (data : List Byte) : List Byte := channelByte c :: number :: data

/-- The ten body bytes of an air map (R134). -/
def AirMap.bytes (m : AirMap) : List Byte :=
  byte m.slotLength :: (bytes2 m.sets.cell.toNat ++ bytes2 m.sets.wlan.toNat ++ bytes2 m.sets.bt.toNat
    ++ bytes2 m.nfc.toNat
    ++ [byte ((if m.tolerant.cell then 1 else 0) + (if m.tolerant.wlan then 2 else 0)
        + (if m.tolerant.bt then 4 else 0))])

/-- The seven fields of a policy entry after subject and resource, as POLICY_SET lays them out (R29). -/
def PolicyEntry.bytes (e : PolicyEntry) : List Byte :=
  [flagByte e.allow, byte e.priority, flagByte e.preempt] ++ bytes2 e.quarterLength
    ++ [e.grans.code, byte e.holdLimit]

end Sys2Proof.Machine
end

