-- ==== Sys2Proof/Machine/Ops.lean ====
section
/-! DEFINITION. The named operations every block shares: access to ports, entries, policy and channels,
notices, conditions, timers, wakes, and the cancelling of a frame in flight. -/

namespace Sys2Proof.Machine

/-! ## Access -/

def State.port (s : State) (l : Link) : Port := s.ports.get l

def State.setPort (s : State) (l : Link) (p : Port) : State := { s with ports := s.ports.set l p }

def State.entry (s : State) (r : Resource) : CustodyEntry := s.custody.entries.get r

def State.setEntry (s : State) (r : Resource) (e : CustodyEntry) : State :=
  { s with custody := { s.custody with entries := s.custody.entries.set r e } }

/-- The grant record of an entry that is GRANTED or HELD (R43). -/
def CustodyEntry.grant (e : CustodyEntry) : Option Grant :=
  match e.state with
  | .owned g => some g
  | _ => none

/-- The state of an entry by name (R42): HELD while the grant has a hold record. -/
def CustodyEntry.standing (e : CustodyEntry) : EntryStanding :=
  match e.state with
  | .free => .free
  | .owned g => if g.hold.isSome then .held else .granted
  | .turnover _ => .turnover

/-- The holder of a resource, GRANTED or HELD; none in FREE and in TURNOVER (00, Conventions). -/
def State.holder (s : State) (r : Resource) : Option Subject := (s.entry r).grant.map (·.holder)

/-- Whether a subject holds a resource. -/
def State.holds (s : State) (who : Subject) (r : Resource) : Bool := s.holder r == some who

/-- Replaces the grant record of an entry. -/
def State.setGrant (s : State) (r : Resource) (g : Grant) : State :=
  s.setEntry r { s.entry r with state := .owned g }

/-- Replaces the waiting list of an entry. -/
def State.setWaiting (s : State) (r : Resource) (ws : List Waiter) : State :=
  s.setEntry r { s.entry r with waiting := ws }

/-- A subject's policy entries (R26). -/
def PolicyTable.row (t : PolicyTable) : Subject → PerResource PolicyEntry
  | .pay => t.pay
  | .app i => t.apps[i]
  | .rad => t.rad

def State.policyOf (s : State) (who : Subject) (r : Resource) : PolicyEntry := (s.policy.row who).get r

/-- Writes one policy entry. RAD's entries are fixed and never written (R27). -/
def PolicyTable.write (t : PolicyTable) (who : Subject) (r : Resource) (e : PolicyEntry) : PolicyTable :=
  match who with
  | .pay => { t with pay := t.pay.set r e }
  | .app i => { t with apps := t.apps.set i (t.apps[i].set r e) }
  | .rad => t

def State.tenant (s : State) (t : Fin 16) : TenantRecord := s.tenants[t]

/-- Whether a subject may act: an APP subject only while its tenant is ACTIVE (R25). -/
def State.mayAct (s : State) : Subject → Bool
  | .app t => (s.tenant t).state == .active
  | _ => true

/-- Whether a subject is an APP subject whose tenant is FROZEN (R25). -/
def State.isFrozen (s : State) : Subject → Bool
  | .app t => (s.tenant t).state == .frozen
  | _ => false

def State.channel (s : State) (c : Fin 32) : Channel := s.relay.channels[c]

def State.setChannel (s : State) (c : Fin 32) (x : Channel) : State :=
  { s with relay := { s.relay with channels := s.relay.channels.set c x } }

/-- Whether the regime is RUN. -/
def State.running (s : State) : Bool := s.clock.regime == .run

/-- Whether the fast clock may be used (R169). -/
def State.fastLocked (s : State) : Bool := s.clock.fastClock == .locked

/-! ## Timers -/

/-- One millisecond of a running timer with the given limit. The millisecond that would reach the limit
makes the timer due instead (log entry 4). -/
def Timer.tick (limit : Nat) (t : Timer) : Timer :=
  if t.elapsed + 1 < limit then { elapsed := t.elapsed + 1, due := false } else { t with due := true }

/-- A timer that is stopped where it stands: an event not yet taken does not come about (R78). -/
def Timer.stand (t : Timer) : Timer := { t with due := false }

/-! ## Conditions and notices (R11, R16) -/

/-- The bit of a condition in the condition mask (table of 1.10). -/
def Condition.bit : Condition → BitVec 10
  | .inputTruncated => 0x001
  | .inputCheck => 0x002
  | .inputFull => 0x004
  | .frameStall => 0x008
  | .noticeLost => 0x010
  | .keysLost => 0x020
  | .keyActivity => 0x040
  | .radioOverrun => 0x080
  | .syncMissing => 0x100
  | .printerStall => 0x200

/-- Whether a condition set has a member. -/
def hasCondition (set : BitVec 10) (c : Condition) : Bool := set &&& c.bit != 0

/-- A condition joins a link's set; setting a member again changes nothing (R16). -/
def setCondition (l : Link) (c : Condition) (s : State) : State :=
  s.setPort l { s.port l with conditions := (s.port l).conditions ||| c.bit }

/-- A notice joins the end of its link's queue, or is lost with NOTICE_LOST when the queue holds 16 (R11). -/
def notify (l : Link) (n : Notice) (s : State) : State :=
  if (s.port l).notices.length < Config.noticePlaces then
    s.setPort l { s.port l with notices := (s.port l).notices ++ [n] }
  else setCondition l .noticeLost s

/-- A notice to a subject: its link, with its tenant number on the A-link (R57). -/
def notifySubject (who : Subject) (b : NoticeBody) (s : State) : State :=
  notify who.link { tenant := who.tenantField, body := b } s

/-- A notice that concerns no app tenant. -/
def notifyLink (l : Link) (b : NoticeBody) (s : State) : State := notify l { tenant := 0, body := b } s

/-! ## Waking (R174) -/

/-- A wake cause: the first one taken in DOZE is recorded, the regime becomes WAKING and the fast clock
is enabled, LOCKING with count 0. In RUN and WAKING it changes nothing. -/
def wake (c : WakeCause) (s : State) : State :=
  if s.clock.regime = .doze then
    { s with clock := { s.clock with wakeCause := some c, regime := .waking, fastClock := .locking 0 } }
  else s

/-! ## The frame in flight (R14, R15) -/

/-- The bridge returns to IDLE from RESULT: its CL_RESULT copy has completed or is cancelled (R14, R15, R124). -/
def bridgeResultGone (s : State) : State :=
  if s.bridge.exchange = .result then { s with bridge := { s.bridge with exchange := .idle, slot := none } } else s

/-- The port cancels its frame in flight: the copy is dropped, and a transfer that was sending it completes
the byte it has begun and goes on with fill bytes. The owners of its source are told: a CL_RESULT's result is discarded, and a DOZE
reply's cancellation ends doze pending (R15, R171). A relay frame's block is free with the copy gone (R151). -/
def cancelInFlight (l : Link) (s : State) : State :=
  match (s.port l).inFlight with
  | none => s
  | some x =>
    let dropped := s.setPort l { s.port l with inFlight := none }
    match x.source with
    | .clResult => bridgeResultGone dropped
    | .reply =>
      if x.frame.isDozeOk then { dropped with clock := { dropped.clock with dozePending := false } } else dropped
    | _ => dropped

/-- Whether a port's frame in flight left the given source. -/
def State.inFlightFrom (s : State) (l : Link) (src : FrameSource) : Bool :=
  match (s.port l).inFlight with
  | some x => x.source == src
  | none => false

/-- Cancels a port's frame in flight if it left the given source. -/
def cancelFrom (l : Link) (src : FrameSource) (s : State) : State :=
  if s.inFlightFrom l src then cancelInFlight l s else s

/-! ## The relay's queues and pool (R149) -/

/-- The 32 channel numbers, ascending. -/
def allChannels : List (Fin 32) := List.finRange 32

/-- Blocks used by a bound channel (R149): its queue entries and its frames in flight. -/
def State.bindingUsed (s : State) (c : Fin 32) (b : Binding) : Nat :=
  b.outbound.length + b.inbound.length + (if s.inFlightFrom .r (.forward c) then 1 else 0)
    + (if s.inFlightFrom b.owner.link (.deliver c) then 1 else 0)

/-- Blocks used u of a channel; an UNBOUND channel uses none (R147, R149). -/
def State.used (s : State) (c : Fin 32) : Nat :=
  match (s.channel c).binding with
  | none => 0
  | some b => s.bindingUsed c b

/-- Reserve of a channel, 0 while UNBOUND. -/
def State.reserve (s : State) (c : Fin 32) : Nat :=
  match (s.channel c).binding with
  | none => 0
  | some b => b.reserve

/-- Sum of u over all channels. -/
def State.blocksInUse (s : State) : Nat := (allChannels.map s.used).sum

/-- Free blocks F (R149). -/
def State.freeBlocks (s : State) : Nat := Config.poolBlocks - s.blocksInUse

/-- Reserved-but-unused blocks Rfree (R149). -/
def State.reservedFree (s : State) : Nat := (allChannels.map fun c => s.reserve c - s.used c).sum

/-- Shared free blocks S (R149). -/
def State.sharedFree (s : State) : Nat := s.freeBlocks - s.reservedFree

/-- Sum of the reserves of bound channels (R149). -/
def State.reserveSum (s : State) : Nat := (allChannels.map s.reserve).sum

/-- Whether a channel is bound as a TENANT channel of tenant t. -/
def State.isTenantChannel (s : State) (t : Fin 16) (c : Fin 32) : Bool :=
  match (s.channel c).binding with
  | none => false
  | some b => b.cls == .tenant && b.owner == .app t

/-- TENANT-class count of a tenant (R162). -/
def State.tenantCount (s : State) (t : Fin 16) : Nat := (allChannels.filter (s.isTenantChannel t)).length

/-- The queue of a channel that feeds a link (R12, R158): on the R-link the outbound queue of any bound
channel, on the P-link the inbound queue of a channel of PAY, on the A-link that of a channel of an
APP subject. -/
def State.feed (s : State) (l : Link) (c : Fin 32) : List (List Byte) :=
  match (s.channel c).binding with
  | none => []
  | some b =>
    match l with
    | .r => b.outbound
    | .p => if b.owner = .pay then b.inbound else []
    | .a => if b.owner.isApp then b.inbound else []

/-- Level of a channel, 0 while UNBOUND. -/
def State.channelLevel (s : State) (c : Fin 32) : Nat :=
  match (s.channel c).binding with
  | none => 0
  | some b => b.level

end Sys2Proof.Machine
end

