-- ==== Sys2Proof/Machine/Flags.lean ====
section
/-! DEFINITION. What the part shows as it stands: the status byte, the attention lines and its other
output lines, each a function of the state. -/

namespace Sys2Proof.Machine

/-! ## Outbound sources, status byte and attention (R2, R17) -/

/-- The KEYPAD holder, when this link is its link and the key FIFO is not empty (R12, case 5). -/
def State.keySource (s : State) (l : Link) : Option Subject :=
  match s.holder .keypad with
  | some h => if h.link = l ∧ s.keys.fifo ≠ [] then some h else none
  | none => none

/-- The CLESS holder and the result, when this link is its link and the slot holds one (R12, case 6). -/
def State.resultSource (s : State) (l : Link) : Option (Subject × ClResult) :=
  match s.holder .cless, s.bridge.slot with
  | some h, some x => if h.link = l then some (h, x) else none
  | _, _ => none

/-- Whether some channel queue feeds this link (R12, case 7). -/
def State.relaySource (s : State) (l : Link) : Bool := allChannels.any fun c => !(s.feed l c).isEmpty

/-- Whether an outbound source for this link is non-empty (R17). -/
def State.hasOutbound (s : State) (l : Link) : Bool :=
  !(s.port l).replies.isEmpty || !(s.port l).notices.isEmpty || (s.keySource l).isSome
    || (s.resultSource l).isSome || s.relaySource l

/-- OUT_PENDING: a frame in flight or a non-empty outbound source (R2). -/
def State.outPending (s : State) (l : Link) : Bool := (s.port l).inFlight.isSome || s.hasOutbound l

/-- CONDITIONS: an enabled condition is set (R2). -/
def Port.conditionShown (p : Port) : Bool := p.conditions &&& p.enables != 0

/-- The link's attention line (R17). -/
def State.attention (s : State) (l : Link) : Bool := s.outPending l || (s.port l).conditionShown

/-- RX_ROOM: a receive-buffer place is free (R2). -/
def Port.rxRoom (p : Port) : Bool := p.rxBuffer.length < Config.rxPlaces

def RxOutcome.code : RxOutcome → Nat
  | .taken => 0
  | .checkFailed => 1
  | .refusedFull => 2
  | .truncated => 3

def Regime.code : Regime → Nat
  | .run => 0
  | .doze => 1
  | .waking => 2

/-- The status byte as it would be captured now (R2 and its table in 1.10). -/
def State.statusByte (s : State) (l : Link) : Byte :=
  byte ((if (s.port l).rxRoom then 128 else 0) + (if s.outPending l then 64 else 0)
    + 16 * (s.port l).lastRx.code + (if (s.port l).conditionShown then 8 else 0) + 2 * s.clock.regime.code)

/-- The byte a transfer with nothing begun takes next: the status byte first, then the frame that is SENDING,
then fill bytes (R1). -/
def Port.nextByte (p : Port) (t : Transfer) : Byte :=
  if t.moved = 0 then t.status
  else match p.inFlight with
    | some ⟨f, _, .sending n⟩ => (f.wire)[n]?.getD 0
    | _ => 0

/-- The byte the port shifts out in the transfer under way: the one that has begun, or else the one it takes
next (R1, R15). The second byte is known once the arbiter's choice of R12 has been made. -/
def Port.outByte (p : Port) : Option Byte := p.transfer.map fun t => t.shifting.getD (p.nextByte t)

/-- The bits of a byte in the order in which a link and the front-end bus carry them, most significant first
(R1, R116). -/
def msbFirst (b : Byte) : List Bool := [7, 6, 5, 4, 3, 2, 1, 0].map b.getLsbD

/-- PDO, ADO or RDO: the bits of the byte being shifted out; none outside a transfer (R1). -/
def State.dataOut (s : State) (l : Link) : List Bool :=
  match (s.port l).outByte with
  | some b => msbFirst b
  | none => []

/-! ## The other output lines -/

/-- KROW0 to KROW3, true where the row is driven, as one row of the matrix is driven or none is (5.1, R80). -/
def rowDrives (driven : Option (Fin 4)) : Vector Bool 4 := Vector.ofFn fun r => driven == some r

/-- KROW0 to KROW3 as the part stands between two events: no row is driven, for rows are driven only during scan
events (R80); `keyScanKrow` gives them during one. -/
def State.krow (_ : State) : Vector Bool 4 := rowDrives none

/-- DSRC follows the mux source (R99). -/
def State.dsrc (s : State) : Source := s.display.mux

/-- SECLMP (R104, R105): lit in STEADY, and in BLINK for the first half of each period. -/
def State.seclmp (s : State) : Bool :=
  match s.display.lamp with
  | .dark => false
  | .steady => true
  | .blink =>
    match s.display.blinkTimer with
    | some t => t.elapsed < Config.blinkHalfMs
    | none => true

/-- CLRST is active while a field reset is RUNNING (R126). -/
def State.clrst (s : State) : Bool := s.bridge.fieldReset.isSome

/-- The transactions on the front-end bus (R116). A READ clocks in at most as many response bytes as the
exchange expects (R122). -/
inductive BusTransaction where
  | write (command : List Byte)
  | read (expected : Nat)
  | abort
  deriving DecidableEq, Repr

/-- The transaction under way: WRITE in SENDING, READ in RECEIVING, ABORT after a timeout (R119, R121,
R122). CLSEL is active exactly while there is one. -/
def Bridge.transaction (b : Bridge) : Option BusTransaction :=
  match b.exchange with
  | .sending x => some (.write x.command)
  | .receiving x => some (.read x.expected)
  | .aborting _ => some .abort
  | _ => none

def State.clsel (s : State) : Bool := s.bridge.transaction.isSome

/-- CLCLK: its rate in Hz while it runs, which is while CLSEL is active, at the fast clock divided by 16; none
while it rests low (R116). -/
def State.clclk (s : State) : Option Nat :=
  if s.clsel then some (Config.fastClockHz / Config.busDivisor) else none

/-- The bytes the bridge puts on CLDO in a whole transaction: the code byte, then for a WRITE the length and
the command, and for a READ a fill byte of 0x00 for each byte it clocks in, which are the available-length
byte `available` and the response (R116, R122). -/
def BusTransaction.cldo (available : Byte) : BusTransaction → List Byte
  | .write command => 1 :: byte command.length :: command
  | .read expected => 2 :: List.replicate (1 + min available.toNat expected) 0
  | .abort => [3]

/-- CLDO's bits in that transaction (R116). -/
def BusTransaction.cldoBits (available : Byte) (t : BusTransaction) : List Bool :=
  (t.cldo available).flatMap msbFirst

/-- TXGNT of a function: active exactly while it is GRANTED (table of 8.4). -/
def State.txGrant (s : State) (f : RadioFn) : Bool := s.air.grants.get f == .granted

/-- The request line of a function: active in every grant state but IDLE (table of 8.4). -/
def State.txRequest (s : State) (f : RadioFn) : Bool := s.air.grants.get f != .idle

/-- A function's overrun mark (table of 8.4). -/
def State.overrunMark (s : State) (f : RadioFn) : Bool := s.air.grants.get f == .overrun

/-- What PTXD carries (R106). The spec gives no level for idle, start and stop (log entry 23). -/
inductive SerialSymbol where
  | idle
  | start
  | data (bit : Bool)
  | stop
  deriving DecidableEq, Repr

/-- The symbols of a character: start bit, eight data bits least significant first, stop bit (R106). -/
def characterSymbols (b : Byte) : List SerialSymbol :=
  .start :: ([0, 1, 2, 3, 4, 5, 6, 7].map (fun i => SerialSymbol.data (b.getLsbD i)) ++ [.stop])

/-- PTXD: the symbols of the character in transmission, and idle when there is none (R106). -/
def State.ptxd (s : State) : List SerialSymbol :=
  match s.printer.inTransmission with
  | some b => characterSymbols b
  | none => [.idle]

/-- The keys in the down set: those standing DOWN or SUPPRESSED (R82). -/
def KeyUnit.downSet (k : KeyUnit) : List (Fin 24) :=
  (List.finRange 24).filter fun i => k.keys[i].standing == .down || k.keys[i].standing == .suppressed

/-- The keys in the suppressed set (R88). -/
def KeyUnit.suppressedSet (k : KeyUnit) : List (Fin 24) :=
  (List.finRange 24).filter fun i => k.keys[i].standing == .suppressed

end Sys2Proof.Machine
end

