-- ==== Sys2Proof/Machine/AirOps.lean ====
section
/-! DEFINITION. The air schedule's judgements: eligibility, grants, withdrawals and the start gate, and the
start of an ARMED exchange under the gate (R118, R136 to R142). -/

namespace Sys2Proof.Machine

/-- The three radio functions. -/
def allRadio : List RadioFn := [.cell, .wlan, .bt]

/-- Whether a slot is in a function's own set (R133). -/
def AirMap.owns (m : AirMap) (f : RadioFn) (slot : Fin 16) : Bool := (m.sets.get f).getLsbD slot.val

/-- Whether a slot is an NFC slot. -/
def AirMap.isNfc (m : AirMap) (slot : Fin 16) : Bool := m.nfc.getLsbD slot.val

/-- Whether a slot is in none of the four sets (R133). -/
def AirMap.isOpen (m : AirMap) (slot : Fin 16) : Bool :=
  !(m.owns .cell slot || m.owns .wlan slot || m.owns .bt slot || m.isNfc slot)

/-- The fact "an exchange is ARMED" the bridge presents (R120). -/
def Bridge.isArmed (b : Bridge) : Bool :=
  match b.exchange with
  | .armed _ => true
  | _ => false

/-- The fact "an exchange is in flight": SENDING, AWAITING or RECEIVING, whatever its discard mark (R120). -/
def Bridge.isInFlight (b : Bridge) : Bool :=
  match b.exchange with
  | .sending _ | .awaiting _ _ | .aborting _ | .receiving _ => true
  | _ => false

/-- Whether the current slot is eligible for a function (table of R136). -/
def State.eligible (s : State) (f : RadioFn) : Bool :=
  let m := s.air.inForce
  if m.owns f s.air.slot then true
  else if m.isOpen s.air.slot then
    if s.bridge.isInFlight then false
    else if s.bridge.isArmed then m.tolerant.get f
    else true
  else false

/-- What a function may transmit on now: an eligible slot and, where it is not tolerant, no exchange in
flight (R137, R139). -/
def State.mayTransmit (s : State) (f : RadioFn) : Bool :=
  s.eligible f && (s.air.inForce.tolerant.get f || !s.bridge.isInFlight)

/-- Sets a function's grant state. -/
def State.setRadio (s : State) (f : RadioFn) (g : RadioGrant) : State :=
  { s with air := { s.air with grants := s.air.grants.set f g } }

/-- Judges one function: if it is WAITING and may transmit, it becomes GRANTED (R137). -/
def judgeWaiting (f : RadioFn) (s : State) : State :=
  if s.air.grants.get f = .waiting ∧ s.mayTransmit f then s.setRadio f .granted else s

/-- An evaluation event: every WAITING function is judged, each on its own (R137). -/
def judgeAll (s : State) : State := judgeWaiting .bt (judgeWaiting .wlan (judgeWaiting .cell s))

/-- Withdraws a grant against its active request: OVERRUN with a mark, and RADIO_OVERRUN on the P-link (R140). -/
def withdrawGrant (f : RadioFn) (s : State) : State := setCondition .p .radioOverrun (s.setRadio f .overrun)

/-- What a slot boundary does with one function: a grant that may not go on is withdrawn (R139), a
WAITING function is judged (R137). -/
def boundaryJudge (f : RadioFn) (s : State) : State :=
  match s.air.grants.get f with
  | .granted => if s.mayTransmit f then s else withdrawGrant f s
  | _ => judgeWaiting f s

/-- The same for all three functions. -/
def boundaryJudgeAll (s : State) : State := boundaryJudge .bt (boundaryJudge .wlan (boundaryJudge .cell s))

/-- What the arming of an exchange does with one function: in an OPEN slot a grant of a function that is
not tolerant is withdrawn (R139). -/
def armingJudge (f : RadioFn) (s : State) : State :=
  if s.air.grants.get f = .granted ∧ s.air.inForce.tolerant.get f = false ∧ s.air.inForce.isOpen s.air.slot then
    withdrawGrant f s
  else s

def armingJudgeAll (s : State) : State := armingJudge .bt (armingJudge .wlan (armingJudge .cell s))

/-- The start gate (R141). -/
def State.gateOpen (s : State) : Bool :=
  (s.air.inForce.isNfc s.air.slot || s.air.inForce.isOpen s.air.slot)
    && allRadio.all fun f => s.air.inForce.tolerant.get f || s.air.grants.get f != .granted

/-- The gate is judged and reported: an ARMED exchange starts, entering SENDING, when the gate is open and
CLRST is inactive (R118, R141). A bus transaction needs the fast clock (R169). -/
def judgeGate (s : State) : State :=
  match s.bridge.exchange with
  | .armed x =>
    if s.gateOpen && !s.clrst && s.fastLocked then { s with bridge := { s.bridge with exchange := .sending x } } else s
  | _ => s

end Sys2Proof.Machine
end

