-- ==== Sys2Proof/Machine/CustodyOps.lean ====
section
/-! DEFINITION. Leases, the waiting list, the start of a grant, and the completion of a turnover
(R44, R54, R56, R66, R70, R74), with the lamp that follows KEYPAD's holder (R104). -/

namespace Sys2Proof.Machine

/-! ## Leases (chapter 4) -/

/-- A grant record with the lease that starts with it (R43, R66). `q` is the quarter length of the
holder's policy entry at this moment. -/
def startLease (who : Subject) (priority : Nat) (order : BitVec 32) (returnFlag : Bool) (g : Gran) (q : Nat) :
    Grant where
  holder := who
  priority := priority
  order := order
  returnFlag := returnFlag
  gran := g
  phase := 0
  pendingGran := none
  balance := Config.startBalance
  owed := 0
  renewed := true
  quarterTimer := .zero
  quarterLength := q
  hold := none

/-- A pending granularity takes effect (R70). -/
def Grant.applyPending (g : Grant) : Grant := { g with gran := g.pendingGran.getD g.gran, pendingGran := none }

/-- The phase a hold record keeps from the moment the hold began (R72, R75). -/
def HoldRecord.phaseAtEntry : HoldRecord → Nat
  | .byHold _ _ _ p => p
  | .byDoze p => p

/-- The resume arithmetic (R74): the grant is GRANTED again, owes a lease period if its hold began inside
one, and stands at phase 0 with its pending granularity in force. -/
def Grant.resume (g : Grant) : Grant :=
  match g.hold with
  | none => g
  | some h =>
    { g.applyPending with
      owed := if h.phaseAtEntry = 0 then 0 else Config.periodQuarters
      phase := 0, renewed := false, hold := none }

/-- One renewal (R71, steps 1 to 6). -/
def Grant.renew (g : Grant) : Grant :=
  let w := g.gran.weight
  let paid := min g.owed w
  let phase := (g.phase + w) % Config.periodQuarters
  let after := { g with
    owed := g.owed - paid
    balance := min (g.balance + ((w - paid : Nat) : Int)) Config.maxBalance
    phase := phase
    renewed := true }
  if phase = 0 then after.applyPending else after

/-- Whether a renewal is limited at +16 (R71): the balance plus the credit exceeds it. -/
def Grant.renewLimited (g : Grant) : Bool :=
  Config.maxBalance < g.balance + ((g.gran.weight - min g.owed g.gran.weight : Nat) : Int)

/-! ## The waiting list (R44) -/

/-- Whether waiting entry `w` stands before `v`: higher priority first, then lower arrival order, compared
as plain numbers (R44, R45). -/
def Waiter.before (w v : Waiter) : Bool :=
  v.priority < w.priority || (w.priority == v.priority && w.order.toNat < v.order.toNat)

/-- An entry joins the list at the place its priority and arrival order give it (R44). Where an entry of the list
has both the same, which a whole turn of the counter allows, R44 gives no order: that the entry that joins stands
behind is the model's choice (DESIGN CHOICE, log entry 35). -/
def placeWaiter (w : Waiter) : List Waiter → List Waiter
  | [] => [w]
  | v :: vs => if w.before v then w :: v :: vs else v :: placeWaiter w vs

/-- The list put back in order by priority and arrival order (R32). Entries that have both the same stay in the
order in which they stood (DESIGN CHOICE, log entry 35). -/
def orderWaiters (ws : List Waiter) : List Waiter := ws.foldl (fun acc w => placeWaiter w acc) []

/-- A subject's waiting entry. -/
def findWaiter (who : Subject) (ws : List Waiter) : Option Waiter := ws.find? fun w => w.subject == who

/-- A subject's position, counted from 1 at the head; 0 when it has no entry. -/
def positionOf (who : Subject) (ws : List Waiter) : Nat :=
  match ws.findIdx? fun w => w.subject == who with
  | some i => i + 1
  | none => 0

/-- The list without a subject's entry; the gap closes at once (R44). -/
def dropWaiter (who : Subject) (ws : List Waiter) : List Waiter := ws.filter fun w => w.subject != who

/-- The next arrival order is taken from the counter (R45). -/
def takeArrival (s : State) : BitVec 32 × State :=
  (s.custody.arrivals + 1, { s with custody := { s.custody with arrivals := s.custody.arrivals + 1 } })

/-! ## The lamp (R104, R105) -/

/-- The lamp state for the mux source and the KEYPAD holder (table of R104). -/
def lampFor (mux : Source) (keypad : Option Subject) : Lamp :=
  match mux with
  | .app => .dark
  | .pay => if keypad = some .pay then .steady else .blink

/-- The lamp is recomputed. A new period of BLINK begins with the timer at 0; while the lamp stays BLINK
the timer runs on, and it stops when the lamp leaves BLINK (R105). -/
def recomputeLamp (s : State) : State :=
  let lamp := lampFor s.display.mux (s.holder .keypad)
  { s with display := { s.display with
      lamp := lamp
      blinkTimer := if lamp = .blink then (if s.display.lamp = .blink then s.display.blinkTimer else some .zero)
        else none } }

/-! ## Grants and turnover completion (R56) -/

/-- The matcher starts afresh (R88, R90). -/
def resetMatcher (s : State) : State :=
  { s with keys := { s.keys with position := 0, previousPress := none, holdTimer := none } }

/-- What the serving blocks do as a grant starts: PAY taking KEYPAD resets the matcher (R90) and every
KEYPAD grant recomputes the lamp (R104); a PRINTER grant clears the drain report (R108). -/
def grantStarted (r : Resource) (who : Subject) (s : State) : State :=
  match r with
  | .keypad => recomputeLamp (if who = .pay then resetMatcher s else s)
  | .printer => { s with printer := { s.printer with armed := false } }
  | _ => s

/-- A grant starts: the entry becomes GRANTED with a fresh grant record and lease (R43, R48, R56, R66). -/
def startGrant (r : Resource) (who : Subject) (priority : Nat) (order : BitVec 32) (returnFlag : Bool) (g : Gran)
    (s : State) : State :=
  grantStarted r who
    (s.setGrant r (startLease who priority order returnFlag g (s.policyOf who r).quarterLength))

/-- A turnover is complete: the head of the waiting list is granted with a GRANT notice, or the entry
becomes FREE (R56). -/
def completeTurnover (r : Resource) (s : State) : State :=
  match (s.entry r).waiting with
  | [] =>
    let freed := s.setEntry r { state := .free, waiting := [] }
    if r = .keypad then recomputeLamp freed else freed
  | w :: rest =>
    let g := (s.policyOf w.subject r).grans.grantable w.gran
    notifySubject w.subject (.grant r w.origin g)
      (startGrant r w.subject w.priority w.order w.returnFlag g (s.setWaiting r rest))

end Sys2Proof.Machine
end

