-- ==== Sys2Proof/Machine/TurnoverOps.lean ====
section
/-! DEFINITION. What each serving block does as its resource enters TURNOVER, the ending of a grant as ONE
shared operation, and the attention takeover (R51 to R55, R60, R88, R100, R111, R112, R125). -/

namespace Sys2Proof.Machine

/-! ## KEYPAD (R88) -/

/-- A key standing DOWN becomes SUPPRESSED; other standings stay (R88, step 4). -/
def KeyState.suppress (k : KeyState) : KeyState :=
  if k.standing = .down then { k with standing := .suppressed } else k

/-- The key unit's turnover: the FIFO is flushed, the old holder's KEY frame in flight is cancelled, keys
down are suppressed, the matcher starts afresh; then completion is reported in the same event (R88). -/
def keypadTurnover (old : Option Subject) (s : State) : State :=
  let s := match old with
    | some h => cancelFrom h.link .key s
    | none => s
  completeTurnover .keypad (resetMatcher
    { s with keys := { s.keys with fifo := [], lossPending := false, keys := s.keys.keys.map KeyState.suppress } })

/-! ## DISPLAY (R54, R100) -/

/-- The source the head of the DISPLAY list needs: PAY for PAY, APP for an APP subject or an empty list (R54). -/
def requiredSource (ws : List Waiter) : Source :=
  match ws with
  | w :: _ => if w.subject = .pay then .pay else .app
  | [] => .app

/-- Completion of the DISPLAY turnover: the required source, the pending target and the forced-switch
timer are gone, and custody grants or frees (R99, R100). -/
def completeDisplay (s : State) : State :=
  completeTurnover .display
    { s with display := { s.display with required := none, target := none, forcedTimer := none } }

/-- The custody unit reports the head of the DISPLAY list while DISPLAY is in TURNOVER, and the display
switch acts by the table of R100. In any other state there is nothing to report. -/
def reportDisplayHead (s : State) : State :=
  match (s.entry .display).state with
  | .turnover _ =>
    let need := requiredSource (s.entry .display).waiting
    if need = s.display.mux then completeDisplay s
    else
      { s with display := { s.display with
          required := some need
          target := some need
          forcedTimer := if s.display.target.isSome then s.display.forcedTimer else some .zero } }
  | _ => s

/-! ## PRINTER (R106, R111, R112) -/

/-- A character begins when none is in transmission, a byte waits and PRDY is active; it needs the fast
clock (R106, R169). In the SEPARATOR phase the byte is the next of the separator copy. -/
def beginCharacter (s : State) : State :=
  if s.printer.inTransmission = none ∧ s.lines.prdy ∧ s.fastLocked then
    if s.printer.phase = .separator then
      match s.printer.separatorCopy with
      | b :: rest => { s with printer := { s.printer with inTransmission := some b, separatorCopy := rest } }
      | [] => s
    else
      match s.printer.fifo with
      | b :: rest => { s with printer := { s.printer with inTransmission := some b, fifo := rest } }
      | [] => s
  else s

/-- The turnover phase moves on as far as it can: DRAIN to SEPARATOR when the FIFO is empty and no
character is in transmission (R111). -/
def endDrain (s : State) : State :=
  if s.printer.phase = .drain ∧ s.printer.fifo = [] ∧ s.printer.inTransmission = none then
    { s with printer := { s.printer with phase := .separator, separatorCopy := s.printer.separator } }
  else s

/-- SEPARATOR to the turnover's completion when the copy has gone out whole (R112). -/
def endSeparator (s : State) : State :=
  if s.printer.phase = .separator ∧ s.printer.separatorCopy = [] ∧ s.printer.inTransmission = none then
    completeTurnover .printer { s with printer := { s.printer with phase := .none, stallTimer := none } }
  else s

/-- The printer port goes on: the turnover phase advances and a waiting character begins. -/
def runPrinter (s : State) : State := beginCharacter (endSeparator (endDrain s))

/-- The printer port's turnover begins: the drain report is CLEAR, the stall timer starts at 0, and the
FIFO is kept after RELEASED or discarded after REVOKED (R111). -/
def printerTurnover (k : EndingKind) (s : State) : State :=
  runPrinter { s with printer := { s.printer with
    armed := false
    stallTimer := some .zero
    phase := .drain
    fifo := match k with | .released => s.printer.fifo | .revoked => [] } }

/-! ## CLESS (R125 to R127) -/

/-- A field reset begins, or replaces one that is RUNNING, for a turnover (R126, R127). -/
def beginFieldReset (s : State) : State :=
  { s with bridge := { s.bridge with
      fieldReset := some { timer := .zero, interval := s.bridge.interval, forTurnover := true } } }

/-- The exchange's discard mark becomes yes (R125). -/
def Exchange.marked (x : Exchange) : Exchange := { x with discard := true }

/-- The bridge's turnover, by the exchange state (table of R125). Dropping an ARMED exchange is an
evaluation event of the air schedule (R137). -/
def clessTurnover (old : Option Subject) (s : State) : State :=
  let put (s : State) (x : ExchangeState) : State := { s with bridge := { s.bridge with exchange := x } }
  match s.bridge.exchange with
  | .idle => beginFieldReset s
  | .armed _ => beginFieldReset (judgeAll (put s .idle))
  | .sending x => put s (.sending x.marked)
  | .awaiting x t => put s (.awaiting x.marked t)
  | .aborting x => put s (.aborting x.marked)
  | .receiving x => put s (.receiving x.marked)
  | .result =>
    let s := match old with
      | some h => cancelFrom h.link .clResult s
      | none => s
    beginFieldReset { s with bridge := { s.bridge with exchange := .idle, slot := none } }

/-! ## The ending of a grant (R51) -/

/-- The entry enters TURNOVER with its ending kind: the grant record is discarded and the resource is
handed to its serving block, which may complete the turnover in the same event (R51, R53). -/
def enterTurnover (r : Resource) (k : EndingKind) (s : State) : State :=
  let old := s.holder r
  let s := s.setEntry r { s.entry r with state := .turnover k }
  match r with
  | .keypad => keypadTurnover old s
  | .display => reportDisplayHead s
  | .cless => clessTurnover old s
  | .printer => printerTurnover k s

/-- A grant is revoked: REVOKE goes to the holder and the entry enters TURNOVER with ending kind REVOKED (R51). -/
def revokeGrant (r : Resource) (why : RevokeReason) (position : Nat) (s : State) : State :=
  match s.holder r with
  | some h => enterTurnover r .revoked (notifySubject h (.revoke r why position) s)
  | none => s

/-- A changed waiting list, with the DISPLAY head reported if that entry is in TURNOVER (R54). -/
def changeWaiting (r : Resource) (ws : List Waiter) (s : State) : State :=
  let s := s.setWaiting r ws
  if r = .display then reportDisplayHead s else s

/-! ## The attention takeover (R60, R61) -/

/-- WITHDRAWN with reason ATTENTION to each APP waiter (R60). The spec gives the notices of several waiters of
one resource no order among themselves; they go head first (DESIGN CHOICE, log entry 29). -/
def withdrawAppWaiters (r : Resource) (s : State) : State :=
  ((s.entry r).waiting.filter fun w => w.subject.isApp).foldl
    (fun s w => notifySubject w.subject (.withdrawn r .attention) s) s

/-- PAY placed at priority 8 as the whole list: its entry raised, or a new one with the next arrival order (R60). -/
def placePay (r : Resource) (s : State) : State :=
  match findWaiter .pay (s.entry r).waiting with
  | some w => s.setWaiting r [{ w with priority := Config.attentionPriority, origin := .attention }]
  | none =>
    let (order, s) := takeArrival s
    s.setWaiting r [{ subject := .pay, priority := Config.attentionPriority, order := order, gran := .full,
                      returnFlag := false, origin := .attention }]

/-- The takeover of one resource, by the entry's state (table of R60). A FREE KEYPAD is granted in the same
event, and as in every takeover the keys then down are suppressed (R88, R93; DEDUCED, log entry 31). -/
def takeOver (r : Resource) (s : State) : State :=
  match (s.entry r).state with
  | .owned g =>
    if g.holder = .pay then s
    else
      enterTurnover r .revoked
        (placePay r (withdrawAppWaiters r (notifySubject g.holder (.revoke r .attention 0) s)))
  | .turnover _ =>
    let s := placePay r (withdrawAppWaiters r s)
    if r = .display then reportDisplayHead s else s
  | .free =>
    let s := placePay r s
    match r with
    | .keypad => keypadTurnover none s
    | .display => enterTurnover r .revoked s
    | _ => completeTurnover r s

/-- The attention takeover: KEYPAD, then DISPLAY, then the two ATTENTION notices with the states the
entries then stand in (R60, R61). -/
def attentionTakeover (s : State) : State :=
  let s := takeOver .display (takeOver .keypad s)
  let told : NoticeBody := .attention (s.entry .keypad).standing (s.entry .display).standing
  notifyLink .a told (notifyLink .p told s)

/-- A match is reported: in RUN the takeover is carried out; in DOZE and WAKING it is kept as one pending
takeover (R60, R62, R93). -/
def reportMatch (s : State) : State :=
  if s.running then attentionTakeover s
  else { s with custody := { s.custody with pendingTakeover := true } }

end Sys2Proof.Machine
end

