-- ==== Sys2Proof/Machine/LeaseOps.lean ====
section
/-! DEFINITION. What time and policy do to a lease: the quarter boundary, the held quarter, the end of a
hold, and the holds of doze (R33 to R35, R67, R68, R73 to R76). -/

namespace Sys2Proof.Machine

/-- A hold expires: the resume arithmetic, then HOLD_ENDED to the holder's link (R35, R73). -/
def expireHold (r : Resource) (g : Grant) (s : State) : State :=
  let g := g.resume
  notifySubject g.holder (.holdEnded r g.balance g.owed) (s.setGrant r g)

/-- The quarter boundary of a grant, when its quarter timer has reached the current quarter length while
the entry is GRANTED in RUN (R67, R68). -/
def quarterBoundary (r : Resource) (s : State) : State :=
  match (s.entry r).grant with
  | none => s
  | some g =>
    if g.hold = none ∧ s.running ∧ g.quarterTimer.due then
      let g := { g with quarterTimer := .zero, quarterLength := (s.policyOf g.holder r).quarterLength }
      if g.balance = Config.lapseBalance then revokeGrant r .lapsed 0 (s.setGrant r g)
      else
        let s := s.setGrant r { g with balance := g.balance - 1 }
        if g.balance - 1 = Config.warnBalance then notifySubject g.holder (.lapseWarn r (g.balance - 1)) s else s
    else s

/-- A held quarter is counted, when the held timer has reached the held-quarter length in RUN or WAKING;
held quarters that reach the hold limit expire the hold (R73). -/
def heldQuarter (r : Resource) (s : State) : State :=
  match (s.entry r).grant with
  | none => s
  | some g =>
    match g.hold with
    | some (.byHold n t _ p) =>
      if t.due ∧ s.clock.regime ≠ .doze then
        let e := s.policyOf g.holder r
        let g := { g with hold := some (.byHold (n + 1) .zero e.quarterLength p) }
        if e.holdLimit ≤ n + 1 then expireHold r g s else s.setGrant r g
      else s
    | _ => s

/-- A grant at doze entry: GRANTED becomes HELD under a DOZE record; a hold by HOLD keeps its record, and
its timer stands (R75). -/
def Grant.dozeHold (g : Grant) : Grant :=
  match g.hold with
  | none => { g with quarterTimer := g.quarterTimer.stand, hold := some (.byDoze g.phase) }
  | some (.byHold n t len p) => { g with hold := some (.byHold n t.stand len p) }
  | some (.byDoze _) => g

/-- A grant at the return to RUN: a DOZE hold ends with the resume arithmetic and no notice (R76). -/
def Grant.dozeResume (g : Grant) : Grant :=
  match g.hold with
  | some (.byDoze _) => g.resume
  | _ => g

/-- A change of the grant record of an entry that has one. -/
def CustodyEntry.mapGrant (f : Grant → Grant) (e : CustodyEntry) : CustodyEntry :=
  match e.state with
  | .owned g => { e with state := .owned (f g) }
  | _ => e

/-- The same change for every entry. -/
def mapGrants (f : Grant → Grant) (s : State) : State :=
  let es := s.custody.entries
  { s with custody := { s.custody with
      entries := ⟨es.keypad.mapGrant f, es.display.mapGrant f, es.cless.mapGrant f, es.printer.mapGrant f⟩ } }

/-! ## Policy writes on a live grant -/

/-- A granularity no longer allowed is replaced by FULL or the coarsest allowed one, with phase 0 and no
pending value; a pending value no longer allowed is dropped (R33). -/
def Grant.admitGrans (allowed : GranSet) (g : Grant) : Grant :=
  if allowed.has g.gran = false then { g with gran := allowed.coarsest, phase := 0, pendingGran := none }
  else match g.pendingGran with
    | some p => if allowed.has p then g else { g with pendingGran := none }
    | none => g

/-- A lowered hold limit that the held quarters already reach ends the hold at once (R35). -/
def applyHoldLimit (r : Resource) (limit : Nat) (s : State) : State :=
  match (s.entry r).grant with
  | none => s
  | some g =>
    match g.hold with
    | some (.byHold n _ _ _) => if limit ≤ n then expireHold r g s else s
    | _ => s

/-- A priority of an attention takeover stays (R32). -/
def newPriority (old given : Nat) : Nat := if old = Config.attentionPriority then old else given

/-- The effects of a policy write on the subject's grant: R33, then R35, then R32. R34 needs no step here:
the lease reads the quarter length at the next boundary. -/
def policyOnHolder (who : Subject) (r : Resource) (old new : PolicyEntry) (s : State) : State :=
  match (s.entry r).grant with
  | none => s
  | some g =>
    if g.holder = who then
      let s := if new.grans ≠ old.grans then s.setGrant r (g.admitGrans new.grans) else s
      let s := if new.holdLimit < old.holdLimit then applyHoldLimit r new.holdLimit s else s
      if new.priority ≠ old.priority then
        match (s.entry r).grant with
        | some g => s.setGrant r { g with priority := newPriority g.priority new.priority }
        | none => s
      else s
    else s

/-- The effects of a policy write on the subject's waiting entry: its new priority, and the list put back
in order (R32). -/
def policyOnWaiter (who : Subject) (r : Resource) (old new : PolicyEntry) (s : State) : State :=
  let ws := (s.entry r).waiting
  if new.priority ≠ old.priority ∧ (findWaiter who ws).isSome then
    changeWaiting r (orderWaiters (ws.map fun w =>
      if w.subject = who then { w with priority := newPriority w.priority new.priority } else w)) s
  else s

/-- A subject whose standing on a resource is to end with reason POLICY is told: REVOKE to a holder, WITHDRAWN
to a waiter, and nothing to one with no standing (R31, R38). -/
def tellStandingEnds (who : Subject) (r : Resource) (s : State) : State :=
  if s.holds who r then notifySubject who (.revoke r .policy 0) s
  else if (findWaiter who (s.entry r).waiting).isSome then notifySubject who (.withdrawn r .policy) s
  else s

/-- A subject's standing on a resource ends: its grant enters TURNOVER and is not placed back, or its waiting
entry is removed (R31, R38). -/
def dropStanding (who : Subject) (r : Resource) (s : State) : State :=
  if s.holds who r then enterTurnover r .revoked s
  else if (findWaiter who (s.entry r).waiting).isSome then
    changeWaiting r (dropWaiter who (s.entry r).waiting) s
  else s

/-- The subject's standing on a resource ends with reason POLICY, its notice before any GRANT (R31, R57). -/
def endStanding (who : Subject) (r : Resource) (s : State) : State := dropStanding who r (tellStandingEnds who r s)

/-- The subject's standing on all four resources ends, in resource-number order: its notices for all four come
before any GRANT of the event (R38, R57). -/
def endAllStanding (who : Subject) (s : State) : State :=
  allResources.foldl (fun s r => dropStanding who r s) (allResources.foldl (fun s r => tellStandingEnds who r s) s)

/-- Everything a policy write sets in motion (R31 to R35). -/
def policyEffects (who : Subject) (r : Resource) (old new : PolicyEntry) (s : State) : State :=
  if old.allow ∧ ¬ new.allow then endStanding who r s
  else policyOnWaiter who r old new (policyOnHolder who r old new s)

end Sys2Proof.Machine
end

