-- ==== Sys2Proof/Machine/KeyOps.lean ====
section
/-! DEFINITION. The key unit's scan: debounce, standings, records, FIFO, echo, matcher and wake
(R80 to R95). -/

namespace Sys2Proof.Machine

/-- The keys in ascending key code. -/
def allKeys : List (Fin 24) := List.finRange 24

/-- The code of a key (5.1). -/
def codeOf (i : Fin 24) : Nat := i.val + 1

/-! ## The matrix (5.1, R80) -/

/-- One row's part of a scan: the row that is driven, and what KCOL0 to KCOL5 read while it is. -/
structure RowRead where
  row : Fin 4
  columns : Vector Bool 6
  deriving DecidableEq, Repr

/-- What the columns read while a row is driven: each key of the row that joins it to its column. A key stands in
`contacts` at the place of its key code. -/
def readRow (contacts : BitVec 24) (r : Fin 4) : RowRead :=
  { row := r, columns := Vector.ofFn fun c => contacts.getLsbD (keyCode r c - 1) }

/-- The reads of a scan event, each row driven in turn (R80). That row 0 comes first is the model's choice
(log entry 34). -/
def matrixScan (contacts : BitVec 24) : List RowRead := (List.finRange 4).map (readRow contacts)

/-- The row of a key (table of 5.1). -/
def rowOf (i : Fin 24) : Fin 4 := ⟨i.val / 6, by omega⟩

/-- The column of a key (table of 5.1). -/
def columnOf (i : Fin 24) : Fin 6 := ⟨i.val % 6, by omega⟩

/-- The reads of a scan event taken as one sample of the sensed levels of all keys: a key is PRESSED where its
column read it while its row was driven, and OPEN otherwise (R80). -/
def sampleOf (reads : List RowRead) : BitVec 24 :=
  BitVec.ofFnLE fun i => reads.any fun x => x.row == rowOf i && x.columns[columnOf i]

/-! ## Debounce (R81) -/

/-- Whether a key's sensed level differs from its accepted level; the accepted level is UP exactly when
the key stands UP (5.2). -/
def KeyState.disagrees (k : KeyState) (pressed : Bool) : Bool := pressed != (k.standing != .up)

/-- Whether the scan accepts the sensed level: it differs, and with this scan the disagreements reach D. -/
def KeyState.accepts (k : KeyState) (debounce : Nat) (pressed : Bool) : Bool :=
  k.disagrees pressed && debounce ≤ min (k.count + 1) 4

/-- A key's count after the scan. -/
def KeyState.countAfter (k : KeyState) (debounce : Nat) (pressed : Bool) : Nat :=
  if k.disagrees pressed then (if k.accepts debounce pressed then 0 else min (k.count + 1) 4) else 0

/-! ## Standings and records (R82, R83) -/

/-- Keys and the records produced so far in a scan, in the order they are produced. -/
structure ScanWork where
  keys : Vector KeyState 24
  records : List KeyRecord

/-- How many keys are in the down set (R82). -/
def downCount (keys : Vector KeyState 24) : Nat :=
  (allKeys.filter fun i => keys[i].standing == .down || keys[i].standing == .suppressed).length

/-- A record of this scan. `lostBefore` is set as the FIFO takes it (R85). -/
def scanRecord (now : BitVec 32) (i : Fin 24) (e : Edge) : KeyRecord :=
  { code := codeOf i, edge := e, stamp := stampOf now, lostBefore := false }

/-- A release accepted: the key stands UP, with a RELEASE record only from DOWN (table of R82). -/
def acceptRelease (now : BitVec 32) (w : ScanWork) (i : Fin 24) : ScanWork :=
  { keys := w.keys.set i { w.keys[i] with standing := .up }
    records := if w.keys[i].standing = .down then w.records ++ [scanRecord now i .release] else w.records }

/-- A press accepted: DOWN with a PRESS record while the down set has room, else BLOCKED (table of R82). -/
def acceptPress (now : BitVec 32) (w : ScanWork) (i : Fin 24) : ScanWork :=
  if downCount w.keys < Config.downSetPlaces then
    { keys := w.keys.set i { w.keys[i] with standing := .down }
      records := w.records ++ [scanRecord now i .press] }
  else { w with keys := w.keys.set i { w.keys[i] with standing := .blocked } }

/-- One scan over the matrix: counts, then accepted releases, then accepted presses, each in ascending key
code (R81 to R83). -/
def scanMatrix (debounce : Nat) (now : BitVec 32) (sample : BitVec 24) (keys : Vector KeyState 24) : ScanWork :=
  let accepted (i : Fin 24) : Bool := keys[i].accepts debounce (sample.getLsbD i.val)
  let counted : Vector KeyState 24 :=
    Vector.ofFn fun i => { keys[i] with count := keys[i].countAfter debounce (sample.getLsbD i.val) }
  let released := (allKeys.filter fun i => accepted i && keys[i].standing != .up).foldl (acceptRelease now)
    { keys := counted, records := [] }
  (allKeys.filter fun i => accepted i && keys[i].standing == .up).foldl (acceptPress now) released

/-! ## FIFO and echo (R85, R87) -/

/-- A record reaches the key FIFO: taken or dropped by the custody state of KEYPAD (R85). -/
def recordToFifo (k : KeyRecord) (s : State) : State :=
  match s.holder .keypad with
  | none => s
  | some h =>
    if s.keys.fifo.length < Config.keyFifoPlaces then
      { s with keys := { s.keys with
          fifo := s.keys.fifo ++ [{ k with lostBefore := s.keys.lossPending }], lossPending := false } }
    else setCondition h.link .keysLost { s with keys := { s.keys with lossPending := true } }

/-- A PRESS accepted while PAY holds KEYPAD with echo on sets KEY_ACTIVITY on the A-link (R87). -/
def echoPress (k : KeyRecord) (s : State) : State :=
  if k.edge = .press ∧ s.holds .pay .keypad ∧ s.keys.settings.echo then setCondition .a .keyActivity s else s

/-- Steps 1 and 2 of R84 for one record. -/
def deliverRecord (s : State) (k : KeyRecord) : State := echoPress k (recordToFifo k s)

/-! ## The matcher (R90 to R92) -/

/-- Whether sequence entry `p` takes the key: it is 0, or equals the code (R91). -/
def MatchSettings.takes (m : MatchSettings) (p code : Nat) : Bool :=
  match m.sequence[p]? with
  | some e => e == 0 || e == code
  | none => false

/-- Whether the pause since the previous press breaks the sequence (R91, step 1). -/
def gapBroken (previous : Option (BitVec 32)) (now : BitVec 32) (limit : Nat) : Bool :=
  match previous with
  | none => true
  | some t => limit < (now - t).toNat

/-- The position after a PRESS of a code, before a match is looked for (R91, steps 1 to 3). -/
def sequencePosition (k : KeyUnit) (now : BitVec 32) (code : Nat) : Nat :=
  let p := if gapBroken k.previousPress now k.matching.gapLimit then 0 else k.position
  if k.matching.takes p code then p + 1 else if k.matching.takes 0 code then 1 else 0

/-- A record reaches the matcher; the flag says whether a match was found (R91, R92). -/
def matcherStep (now : BitVec 32) (k : KeyUnit) (r : KeyRecord) : KeyUnit × Bool :=
  match k.matching.mode, r.edge with
  | .sequence, .press =>
    let p := sequencePosition k now r.code
    if p = k.matching.sequence.length then ({ k with position := 0, previousPress := some now }, true)
    else ({ k with position := p, previousPress := some now }, false)
  | .hold, .press => (if r.code = k.matching.holdCode then { k with holdTimer := some .zero } else k, false)
  | .hold, .release => (if r.code = k.matching.holdCode then { k with holdTimer := none } else k, false)
  | _, _ => (k, false)

/-- The records of one event pass the matcher in order; the flag says whether any completed a match. -/
def matchRecords (now : BitVec 32) (rs : List KeyRecord) (k : KeyUnit) : KeyUnit × Bool :=
  rs.foldl (fun (acc : KeyUnit × Bool) r =>
    let (k, found) := matcherStep now acc.1 r
    (k, acc.2 || found)) (k, false)

/-! ## The whole scan event (R80, R84, R93, R95) -/

/-- A match found: under wake mode MATCH it is a wake cause in DOZE, and it is reported to custody (R93, R95). -/
def matchFound (s : State) : State :=
  reportMatch (if s.keys.settings.wake = .matching then wake .matched s else s)

/-- A scan event over the matrix as its keys stand: one sample, read row by row, and what it brings about
(R80 to R84). -/
def scanEvent (contacts : BitVec 24) (s : State) : State :=
  let sample := sampleOf (matrixScan contacts)
  let now := s.clock.partTime
  let w := scanMatrix s.keys.settings.debounce now sample s.keys.keys
  let s := { s with
    lines := { s.lines with matrix := sample }
    keys := { s.keys with keys := w.keys, scanDue := false } }
  let s := w.records.foldl deliverRecord s
  let (k, found) := if s.holds .pay .keypad then (s.keys, false) else matchRecords now w.records s.keys
  let s := { s with keys := k }
  let pressed := w.records.any fun r => r.edge == .press
  let s := if pressed ∧ s.keys.settings.wake = .any then wake .key s else s
  if found then matchFound s else s

/-- A scan event, where one falls in this millisecond (R80). -/
def keyScan (contacts : BitVec 24) (s : State) : State := if s.keys.scanDue then scanEvent contacts s else s

/-- KROW0 to KROW3 while a scan event is taken, one after another: each row driven in turn; nothing where no scan
event falls in this millisecond (R80). -/
def keyScanKrow (contacts : BitVec 24) (s : State) : List (Vector Bool 4) :=
  if s.keys.scanDue then (matrixScan contacts).map fun x => rowDrives (some x.row) else []

/-- The hold timer's expiry: a match is found and the timer stops (R92, R93). -/
def holdTimerMatch (s : State) : State :=
  match s.keys.holdTimer with
  | some t => if t.due then matchFound { s with keys := { s.keys with holdTimer := none } } else s
  | none => s

end Sys2Proof.Machine
end

