-- ==== Sys2Proof/Machine/BridgeOps.lean ====
section
/-! DEFINITION. The events of the display switch, the lamp, the printer port, the contactless bridge and
the air schedule, each with the test of its own trigger (R101, R102, R105, R106, R113, R119 to R126, R133). -/

namespace Sys2Proof.Machine

/-- Whether a timer runs and is due. -/
def isDue (t : Option Timer) : Bool :=
  match t with
  | some t => t.due
  | none => false

/-! ## Display switch and lamp -/

/-- The switch to a pending target: the mux and DSRC follow it, the lamp is recomputed, and the DISPLAY
turnover is complete (R101, R102). -/
def switchDisplay (target : Source) (s : State) : State :=
  completeDisplay (recomputeLamp
    { s with display := { s.display with mux := target, target := none, forcedTimer := none } })

/-- A rising edge of FSYNC (R101). -/
def fsyncEdge (s : State) : State :=
  match s.display.target with
  | some t => switchDisplay t s
  | none => s

/-- The forced switch, when the forced-switch timer has reached 100 ms (R102). -/
def forcedSwitch (s : State) : State :=
  if isDue s.display.forcedTimer then
    match s.display.target with
    | some t => switchDisplay t (setCondition .p .syncMissing s)
    | none => s
  else s

/-- The blink timer reaches 500 or 1000 ms and SECLMP toggles (R105). -/
def blinkToggle (s : State) : State :=
  match s.display.blinkTimer with
  | some t =>
    if t.due then
      let next := if t.elapsed + 1 < Config.blinkMs then t.elapsed + 1 else 0
      { s with display := { s.display with blinkTimer := some { elapsed := next, due := false } } }
    else s
  | none => s

/-! ## Printer port -/

/-- PRDY takes a level; becoming active lets a waiting character begin (R106). -/
def prdyLevel (level : Bool) (s : State) : State :=
  let s := { s with lines := { s.lines with prdy := level } }
  if level then beginCharacter s else s

/-- PRINT_DRAINED, when the completing character leaves the FIFO empty during a grant with the report
ARMED (R108). -/
def reportDrained (s : State) : State :=
  match s.holder .printer with
  | some h =>
    if s.printer.armed ∧ s.printer.fifo = [] then
      notifySubject h .printDrained { s with printer := { s.printer with armed := false } }
    else s
  | none => s

/-- The fast clock that ran on for a character at doze entry stops as the character completes, if the part
still dozes (R173). -/
def stopFastClock (s : State) : State :=
  if s.clock.regime = .doze ∧ s.fastLocked then { s with clock := { s.clock with fastClock := .off } } else s

/-- The stall timer restarts at each character of a turnover (R113). -/
def restartStall (s : State) : State :=
  if s.printer.phase = .none then s else { s with printer := { s.printer with stallTimer := some .zero } }

/-- A character's stop bit has been sent (R106, R108, R111 to R113). -/
def characterComplete (s : State) : State :=
  match s.printer.inTransmission with
  | none => s
  | some _ =>
    runPrinter (stopFastClock (reportDrained (restartStall
      { s with printer := { s.printer with inTransmission := none } })))

/-- The printer stall expires within a turnover (R113). -/
def printerStall (s : State) : State :=
  if isDue s.printer.stallTimer ∧ s.printer.phase ≠ .none then
    completeTurnover .printer (setCondition .p .printerStall
      { s with printer := { s.printer with fifo := [], separatorCopy := [], phase := .none, stallTimer := none } })
  else s

/-! ## Contactless bridge -/

/-- READ begins when a response is ready and the bus may be used (R121, R122, R169). -/
def tryReceive (x : Exchange) (s : State) : State :=
  if s.lines.clrdy ∧ s.fastLocked then { s with bridge := { s.bridge with exchange := .receiving x } } else s

/-- The WRITE transaction ends: AWAITING with the timeout timer at 0, and CLRDY is tested (R119, R121). -/
def writeComplete (s : State) : State :=
  match s.bridge.exchange with
  | .sending x => tryReceive x { s with bridge := { s.bridge with exchange := .awaiting x .zero } }
  | _ => s

/-- CLRDY takes a level; it is tested while AWAITING (R121). -/
def clrdyLevel (level : Bool) (s : State) : State :=
  let s := { s with lines := { s.lines with clrdy := level } }
  match s.bridge.exchange with
  | .awaiting x _ => tryReceive x s
  | _ => s

/-- The timeout expires: the timer stops and the ABORT transaction begins (R121). -/
def exchangeTimeout (s : State) : State :=
  match s.bridge.exchange with
  | .awaiting x t =>
    if t.due ∧ s.fastLocked then { s with bridge := { s.bridge with exchange := .aborting x } } else s
  | _ => s

/-- An exchange ends (R123). Leaving flight is an evaluation event of the air schedule (R137). A result
marked for discard is dropped and the field reset of the turnover begins. -/
def endExchange (x : Exchange) (outcome : ExchangeOutcome) (available : Byte) (response : List Byte) (s : State) :
    State :=
  if x.discard then
    beginFieldReset (judgeAll { s with bridge := { s.bridge with exchange := .idle } })
  else
    judgeAll { s with bridge := { s.bridge with
      exchange := .result
      slot := some { owner := x.owner, number := x.number, outcome := outcome, available := available
                     truncated := decide (x.expected < available.toNat), response := response } } }

/-- The ABORT transaction ends: outcome TIMEOUT, nothing available (R121). -/
def abortComplete (s : State) : State :=
  match s.bridge.exchange with
  | .aborting x => endExchange x .timeout 0 [] s
  | _ => s

/-- The READ transaction ends: of the n bytes the front-end offers, as many as were expected have been
clocked in (R122). -/
def readComplete (available : Byte) (response : List Byte) (s : State) : State :=
  match s.bridge.exchange with
  | .receiving x => endExchange x .done available (response.take (min available.toNat x.expected)) s
  | _ => s

/-- The field reset expires: CLRST goes inactive, a turnover it was begun for completes, and an ARMED
exchange is tested for its start (R126, R141). -/
def fieldResetExpiry (s : State) : State :=
  match s.bridge.fieldReset with
  | some f =>
    if f.timer.due then
      let s := { s with bridge := { s.bridge with fieldReset := none } }
      judgeGate (if f.forTurnover then completeTurnover .cless s else s)
    else s
  | none => s

/-- Who is told of a field event: the CLESS holder, or PAY when no one holds it (R129). -/
def State.fieldListener (s : State) : Subject := (s.holder .cless).getD .pay

/-- CLFEV takes a level. A change while CLRST is inactive is a field event, notified in every regime and a
wake cause in DOZE (R129, R130). -/
def clfevEdge (level : Bool) (s : State) : State :=
  if level = s.lines.clfev then s
  else
    let s := { s with lines := { s.lines with clfev := level } }
    if s.clrst then s
    else wake .field (notifySubject s.fieldListener (.field level (stampOf s.clock.partTime)) s)

/-! ## Air schedule -/

/-- A slot boundary, when the slot timer has reached L: the next slot, at a frame start the pending map,
then the grants and the gate judged for the new slot (R133, R135, R137, R139, R141). -/
def slotBoundary (s : State) : State :=
  if s.air.slotTimer.due then
    let next := s.air.slot + 1
    let air := { s.air with slot := next, slotTimer := .zero }
    let air :=
      if next = 0 then
        match air.pendingMap with
        | some m => { air with inForce := m, pendingMap := none }
        | none => air
      else air
    judgeGate (boundaryJudgeAll { s with air := air })
  else s

/-- A request line becomes active: WAITING, and judged at once (R137). -/
def txRequestRise (f : RadioFn) (s : State) : State :=
  if s.air.grants.get f = .idle then judgeWaiting f (s.setRadio f .waiting) else s

/-- A request line becomes inactive: IDLE, its grant or mark gone; where a function that is not tolerant
leaves GRANTED, the start gate is judged (R138, R141). -/
def txRequestFall (f : RadioFn) (s : State) : State :=
  let before := s.air.grants.get f
  if before = .idle then s
  else
    let s := s.setRadio f .idle
    if before = .granted ∧ s.air.inForce.tolerant.get f = false then judgeGate s else s

/-- RESTART of the R-link: every grant and mark falls to WAITING, with no mark made, and the gate is
judged (R145). -/
def lowerGrant (g : RadioGrant) : RadioGrant :=
  match g with
  | .granted | .overrun => .waiting
  | g => g

def lowerRadioGrants (s : State) : State :=
  judgeGate { s with air := { s.air with grants :=
    ⟨lowerGrant s.air.grants.cell, lowerGrant s.air.grants.wlan, lowerGrant s.air.grants.bt⟩ } }

end Sys2Proof.Machine
end

