-- ==== Sys2Proof/Machine/RelayOps.lean ====
section
/-! DEFINITION. The relay: allocation of blocks, unbinding, the reset of a channel, and the turn in which
channels are served (R12, R150, R154, R159, R163, R164). -/

namespace Sys2Proof.Machine

/-- Whether a block can be allocated to a bound channel (R150): from its reserve while u is below r, else
from the shared blocks while u is below the ceiling and S is not 0. -/
def State.canAllocate (s : State) (c : Fin 32) (b : Binding) : Bool :=
  let u := s.bindingUsed c b
  u < b.reserve || (u < b.ceiling && 1 ≤ s.sharedFree)

/-- Replaces a channel's binding; the binding number is kept (R147). -/
def State.setBinding (s : State) (c : Fin 32) (b : Option Binding) : State :=
  s.setChannel c { s.channel c with binding := b }

/-- A bound channel is unbound: its frames in flight are cancelled, its queues discarded with their
blocks, and the record becomes UNBOUND, keeping its binding number (R154, steps 1 to 3). -/
def unbindChannel (c : Fin 32) (s : State) : State :=
  match (s.channel c).binding with
  | none => s
  | some b => (cancelFrom b.owner.link (.deliver c) (cancelFrom .r (.forward c) s)).setBinding c none

/-- CH_CLOSED of a channel to the R-link (R155). -/
def notifyClosedRad (c : Fin 32) (why : CloseReason) (s : State) : State :=
  notifyLink .r (.chClosed c (s.channel c).number why) s

/-- CH_CLOSED of a channel to its owner's link (R155). -/
def notifyClosedOwner (owner : Subject) (c : Fin 32) (why : CloseReason) (s : State) : State :=
  notifySubject owner (.chClosed c (s.channel c).number why) s

/-- Retirement of the owner: the channel is unbound, with CH_CLOSED RETIRED to the R-link and to the
A-link with the tenant's number (R39, R162). -/
def retireChannel (t : Fin 16) (s : State) (c : Fin 32) : State :=
  match (s.channel c).binding with
  | some b =>
    if b.owner = .app t then
      notifyClosedOwner (.app t) c .retired (notifyClosedRad c .retired (unbindChannel c s))
    else s
  | none => s

/-- The channels a RESTART of a link unbinds: 0 to 3 for the P-link, 4 to 31 for the A-link (R163). -/
def restartUnbinds (l : Link) (c : Fin 32) : Bool :=
  match l with
  | .p => c.val < 4
  | .a => 4 ≤ c.val
  | .r => false

/-- RESTART of the P-link or the A-link: a bound channel of the restarted domain is unbound, with CH_CLOSED
RESTART to the R-link alone (R163). -/
def restartChannel (l : Link) (s : State) (c : Fin 32) : State :=
  if (s.channel c).binding.isSome ∧ restartUnbinds l c then notifyClosedRad c .restart (unbindChannel c s) else s

/-- RESTART of the R-link: a bound channel's DELIVER copy is cancelled and its queues are discarded, the
binding kept, with CH_RESET to the owner's link. `before` is the state the RESTART found, so that the
count takes in the FORWARD copy the port has already cancelled (R164). -/
def resetChannel (before : State) (s : State) (c : Fin 32) : State :=
  match (s.channel c).binding with
  | some b =>
    notifySubject b.owner (.chReset c (s.channel c).number (before.used c))
      ((cancelFrom b.owner.link (.deliver c) s).setBinding c (some { b with outbound := [], inbound := [] }))
  | none => s

/-! ## The turn of the channels (R12, R159) -/

/-- The channels in the order of a search that begins after the last-served one, wrapping from 31 to 0. -/
def turnAfter (last : Fin 32) : List (Fin 32) := (List.range 32).map fun i => Fin.ofNat 32 (last.val + 1 + i)

/-- The channel a link serves at one level, if any: the first in turn whose queue feeds the link. -/
def State.nextAtLevel (s : State) (l : Link) (level : Fin 4) : Option (Fin 32) :=
  (turnAfter (s.relay.lastServed.get l)[level]).find? fun c =>
    !(s.feed l c).isEmpty && s.channelLevel c == level.val

/-- The channel a link serves next, with its level: the highest level present first (R12). -/
def State.nextChannel (s : State) (l : Link) : Option (Fin 4 × Fin 32) :=
  ([3, 2, 1, 0] : List (Fin 4)).findSome? fun level => (s.nextAtLevel l level).map fun c => (level, c)

/-- A queue without its oldest entry. -/
def Binding.dropHead (b : Binding) (l : Link) : Binding :=
  match l with
  | .r => { b with outbound := b.outbound.tail }
  | _ => { b with inbound := b.inbound.tail }

/-- The last-served record of a link and level names the channel chosen (R12, R159). -/
def State.recordServed (s : State) (l : Link) (level : Fin 4) (c : Fin 32) : State :=
  { s with relay := { s.relay with
      lastServed := s.relay.lastServed.set l ((s.relay.lastServed.get l).set level c) } }

end Sys2Proof.Machine
end

