-- ==== Sys2Proof/Machine/ClockOps.lean ====
section
/-! DEFINITION. The timebase: one millisecond of part time, one reference cycle, the due events, doze entry
and the lock (R67, R73, R80, R92, R102, R105, R113, R121, R126, R133, R168 to R177). -/

namespace Sys2Proof.Machine

/-! ## Doze (R170 to R176) -/

/-- Conditions 2 to 5 of R170: no exchange, no turnover, no print data, no display change. -/
def State.quiet (s : State) : Bool :=
  s.bridge.exchange == .idle
    && allResources.all (fun r => (s.entry r).standing != .turnover)
    && s.printer.fifo.isEmpty && s.display.target.isNone

/-- The entry test of R172: the same, and the receive buffers of all three links empty. -/
def State.mayDoze (s : State) : Bool :=
  s.quiet && (s.port .p).rxBuffer.isEmpty && (s.port .a).rxBuffer.isEmpty && (s.port .r).rxBuffer.isEmpty

/-- At doze entry a scan that has not been taken stays due only where it falls in DOZE too: from that event on
scans fall at the multiples of 32 ms (R80, R173; log entry 32). -/
def KeyUnit.dozeScan (now : BitVec 32) (k : KeyUnit) : KeyUnit :=
  { k with scanDue := k.scanDue && now.toNat % Config.scanSlowMs == 0 }

/-- The part enters DOZE (R173): the fast clock stops, or runs on LOCKED for a character in transmission. -/
def enterDoze (s : State) : State :=
  mapGrants Grant.dozeHold
    { s with
      keys := s.keys.dozeScan s.clock.partTime
      clock := { s.clock with
        regime := .doze
        dozeEntry := some s.clock.partTime
        wakeCause := none
        fastClock := if s.printer.inTransmission.isSome then s.clock.fastClock else .off } }

/-- The DOZE reply has completed: doze pending ends, and the part enters DOZE or abandons it (R172). -/
def dozeReplyCompleted (s : State) : State :=
  if s.clock.dozePending then
    let s := { s with clock := { s.clock with dozePending := false } }
    if s.mayDoze then enterDoze s
    else notifyLink .p (.dozeEnded .abandoned s.clock.partTime s.clock.partTime) s
  else s

/-- DOZE_ENDED to the three links, in their order (R175, step 3). -/
def notifyDozeEnded (c : WakeCause) (entered : BitVec 32) (s : State) : State :=
  let told : NoticeBody := .dozeEnded (.woken c) entered s.clock.partTime
  notifyLink .r told (notifyLink .a told (notifyLink .p told s))

/-- A pending takeover is carried out (R62, R175, step 2). -/
def runPendingTakeover (s : State) : State :=
  if s.custody.pendingTakeover then
    attentionTakeover { s with custody := { s.custody with pendingTakeover := false } }
  else s

/-- The lock: the fast clock is LOCKED and the regime becomes RUN; after a doze its holds resume, a pending
takeover is carried out, and DOZE_ENDED is sent (R175). After a part reset there is none of these (R177). -/
def lockEvent (s : State) : State :=
  let woken := s.clock.wakeCause
  let entered := s.clock.dozeEntry
  let s := { s with clock := { s.clock with fastClock := .locked, regime := .run } }
  let s := runPendingTakeover (mapGrants Grant.dozeResume s)
  let s := match woken, entered with
    | some c, some t => notifyDozeEnded c t s
    | _, _ => s
  { s with clock := { s.clock with wakeCause := none, dozeEntry := none } }

/-- The lock, when it is due: the 80th cycle has come (R169). -/
def lockIfDue (s : State) : State :=
  match s.clock.fastClock with
  | .locking n => if Config.lockCycles ≤ n then lockEvent s else s
  | _ => s

/-! ## The frame stall (R7) -/

/-- The stall timer of a frame being collected expires (R7). -/
def frameStall (l : Link) (s : State) : State :=
  match (s.port l).receiver with
  | .inFrame _ t =>
    if t.due then
      setCondition l .frameStall (setCondition l .inputTruncated
        (s.setPort l { s.port l with receiver := .discarding, lastRx := .truncated }))
    else s
  | _ => s

/-! ## One millisecond of part time (R168) -/

/-- One millisecond of a grant's timers: the quarter timer while GRANTED in RUN (R67), the held timer of a
hold by HOLD in RUN and WAKING (R73). -/
def Grant.tick (regime : Regime) (g : Grant) : Grant :=
  match g.hold with
  | none => if regime = .run then { g with quarterTimer := g.quarterTimer.tick g.quarterLength } else g
  | some (.byHold n t len p) => if regime = .doze then g else { g with hold := some (.byHold n (t.tick len) len p) }
  | some (.byDoze _) => g

/-- One millisecond of a port's stall timer, which runs in every regime (R7). -/
def Port.tick (p : Port) : Port :=
  match p.receiver with
  | .inFrame bs t => { p with receiver := .inFrame bs (t.tick Config.frameStallMs) }
  | _ => p

/-- One millisecond of the hold timer (R92), and whether a scan falls in it (R80): at the multiples of 4 ms
in RUN and of 32 ms otherwise. -/
def KeyUnit.tick (regime : Regime) (now : BitVec 32) (k : KeyUnit) : KeyUnit :=
  { k with
    holdTimer := k.holdTimer.map (Timer.tick k.matching.holdTime)
    scanDue := now.toNat % (if regime = .run then Config.scanRunMs else Config.scanSlowMs) == 0 }

/-- One millisecond of the forced-switch timer (R102) and the blink timer (R105). -/
def DisplaySwitch.tick (d : DisplaySwitch) : DisplaySwitch :=
  { d with
    forcedTimer := d.forcedTimer.map (Timer.tick Config.forcedSwitchMs)
    blinkTimer := d.blinkTimer.map fun t =>
      t.tick (if t.elapsed < Config.blinkHalfMs then Config.blinkHalfMs else Config.blinkMs) }

/-- One millisecond of the printer's stall timer, which runs within a turnover alone (R113). -/
def PrinterPort.tick (p : PrinterPort) : PrinterPort :=
  { p with stallTimer := p.stallTimer.map (Timer.tick Config.printerStallMs) }

/-- One millisecond of the timeout timer (R121) and of the field reset (R126). -/
def Bridge.tick (b : Bridge) : Bridge :=
  { b with
    exchange := match b.exchange with
      | .awaiting x t => .awaiting x (t.tick x.timeout)
      | e => e
    fieldReset := b.fieldReset.map fun f => { f with timer := f.timer.tick f.interval } }

/-- One millisecond of the slot timer, in every regime (R133). -/
def AirSchedule.tick (a : AirSchedule) : AirSchedule := { a with slotTimer := a.slotTimer.tick a.inForce.slotLength }

/-- Part time advances by 1 ms, and with it every timer that runs in the present regime (R168). -/
def millisecond (s : State) : State :=
  let now := s.clock.partTime + 1
  let regime := s.clock.regime
  mapGrants (Grant.tick regime)
    { s with
      clock := { s.clock with partTime := now }
      ports := ⟨s.ports.p.tick, s.ports.a.tick, s.ports.r.tick⟩
      keys := s.keys.tick regime now
      display := s.display.tick
      printer := s.printer.tick
      bridge := s.bridge.tick
      air := s.air.tick }

/-! ## Due events and reference cycles -/

/-- Every due event that the sender has not taken is taken, in the order of the opcode table
(DESIGN CHOICE, log entry 5).
An event that is not due changes nothing. -/
def takeDue (s : State) : State :=
  let s := frameStall .r (frameStall .a (frameStall .p s))
  let s := quarterBoundary .printer (quarterBoundary .cless (quarterBoundary .display (quarterBoundary .keypad s)))
  let s := heldQuarter .printer (heldQuarter .cless (heldQuarter .display (heldQuarter .keypad s)))
  let s := holdTimerMatch (keyScan s.lines.matrix s)
  let s := printerStall (blinkToggle (forcedSwitch s))
  let s := slotBoundary (fieldResetExpiry (exchangeTimeout s))
  lockIfDue s

/-- The fast clock's lock count takes one cycle (R169). -/
def FastClock.cycle : FastClock → FastClock
  | .locking n => .locking (if n < Config.lockCycles then n + 1 else n)
  | f => f

/-- One cycle of the reference: what is due is taken first, then 125 is added to the accumulator, and part
time advances where the sum reaches 4096 (R168). -/
def referenceCycle (s : State) : State :=
  let s := takeDue s
  let sum := s.clock.accumulator + Config.cycleStep
  let clock := { s.clock with fastClock := s.clock.fastClock.cycle }
  if sum < Config.cycleModulus then { s with clock := { clock with accumulator := sum } }
  else millisecond { s with clock := { clock with accumulator := sum - Config.cycleModulus } }

/-- A number of reference cycles. -/
def referenceCycles : Nat → State → State
  | 0, s => s
  | n + 1, s => referenceCycles n (referenceCycle s)

/-- Reference cycles from an accumulator to the cycle in which it reaches 4096: 32 or 33 from the start of
a millisecond (R168). -/
def cyclesToTick (accumulator : Nat) : Nat :=
  (Config.cycleModulus - accumulator + (Config.cycleStep - 1)) / Config.cycleStep

/-- The rest of the present millisecond passes, to the cycle in which part time advances (R168). -/
def partTimeTick (s : State) : State := referenceCycles (cyclesToTick s.clock.accumulator) s

/-- The reference runs to the cycle in which the lock count reaches 80, and the lock is taken. It comes
about only while that cycle falls within the present millisecond (R169, R175; log entry 3). -/
def fastClockLock (s : State) : State :=
  match s.clock.fastClock with
  | .locking n =>
    if Config.lockCycles - n ≤ cyclesToTick s.clock.accumulator then
      lockIfDue (referenceCycles (Config.lockCycles - n) s)
    else s
  | _ => s

end Sys2Proof.Machine
end

