-- ==== Sys2Proof/Machine/LinkOps.lean ====
section
/-! DEFINITION. A port's transfer, byte by byte: the receiver, the outbound arbiter and the frame in flight
(R1 to R7, R12 to R14). -/

namespace Sys2Proof.Machine

/-! ## Reception (R4, R5, R7) -/

/-- The length field of a frame being collected; the bytes are those after the sync byte. -/
def lengthField (bytes : List Byte) : Nat := number2 (bytes[3]?.getD 0) (bytes[4]?.getD 0)

/-- Bytes of the whole frame after its sync byte: kind, tenant, tag, two length bytes, body, two check bytes. -/
def frameBytes (bytes : List Byte) : Nat := 5 + lengthField bytes + 2

/-- The frame whose bytes have all arrived. -/
def collectedFrame (bytes : List Byte) : Frame where
  kind := bytes[0]?.getD 0
  tenant := bytes[1]?.getD 0
  tag := bytes[2]?.getD 0
  body := (bytes.drop 5).take (lengthField bytes)

/-- Whether the received check is the computed one (R3, R5). -/
def checkMatches (bytes : List Byte) : Bool :=
  let n := 5 + lengthField bytes
  (frameCheck (bytes.take n)).toNat == number2 (bytes[n]?.getD 0) (bytes[n + 1]?.getD 0)

/-- A last-receive outcome with the receiver sent to DISCARDING (R4, R5). -/
def State.rxEnds (s : State) (l : Link) (o : RxOutcome) : State :=
  s.setPort l { s.port l with receiver := .discarding, lastRx := o }

/-- The frame is judged by its check and by the buffer's room (table of R5). A frame taken in DOZE is a wake
cause (R174). -/
def judgeFrame (l : Link) (bytes : List Byte) (s : State) : State :=
  if checkMatches bytes = false then setCondition l .inputCheck (s.rxEnds l .checkFailed)
  else if (s.port l).rxRoom = false then setCondition l .inputFull (s.rxEnds l .refusedFull)
  else
    let s := s.rxEnds l .taken
    wake (.frame l) (s.setPort l { s.port l with rxBuffer := (s.port l).rxBuffer ++ [collectedFrame bytes] })

/-- A byte of the frame is collected: at the fifth byte the length is examined, at the last the frame is
judged, and otherwise the stall timer restarts (R4, R5, R7). -/
def collectByte (l : Link) (bytes : List Byte) (s : State) : State :=
  if bytes.length = 5 ∧ Config.maxBody < lengthField bytes then
    setCondition l .inputCheck (s.rxEnds l .checkFailed)
  else if 5 ≤ bytes.length ∧ bytes.length = frameBytes bytes then judgeFrame l bytes s
  else s.setPort l { s.port l with receiver := .inFrame bytes .zero }

/-- A byte arrives at the receiver (R4). -/
def receiveByte (l : Link) (b : Byte) (s : State) : State :=
  match (s.port l).receiver with
  | .hunting => if b = syncByte then s.setPort l { s.port l with receiver := .inFrame [] .zero } else s
  | .inFrame bytes _ => collectByte l (bytes ++ [b]) s
  | .discarding => s

/-! ## The outbound arbiter (R12, R13) -/

/-- The chosen frame becomes the frame in flight, SENDING from its sync byte (R13, R14). -/
def beginFrame (l : Link) (f : Frame) (src : FrameSource) (s : State) : State :=
  s.setPort l { s.port l with inFlight := some { frame := f, source := src, phase := .sending 0 } }

/-- Case 1: the frame in flight is sent again from its sync byte. -/
def resend (l : Link) (x : InFlight) (s : State) : State :=
  s.setPort l { s.port l with inFlight := some { x with phase := .sending 0 } }

/-- Cases 2 and 4: a notice leaves the queue. -/
def sendNotice (l : Link) (n : Notice) (s : State) : State :=
  beginFrame l n.frame .notice (s.setPort l { s.port l with notices := (s.port l).notices.erase n })

/-- Case 3: the oldest reply leaves its slot. -/
def sendReply (l : Link) (f : Frame) (rest : List Frame) (s : State) : State :=
  beginFrame l f .reply (s.setPort l { s.port l with replies := rest })

/-- Case 5: the oldest key records, up to 8, leave the key FIFO as a KEY frame (R13, R86). -/
def sendKeys (l : Link) (h : Subject) (s : State) : State :=
  beginFrame l
    { kind := 0x4C, tenant := tenantByte h.tenantField, tag := 0
      body := keyBody (s.keys.fifo.take Config.keyFrameRecords) } .key
    { s with keys := { s.keys with fifo := s.keys.fifo.drop Config.keyFrameRecords } }

/-- Case 6: the result leaves the slot as a CL_RESULT frame; the exchange state stays RESULT (R13, R124). -/
def sendResult (l : Link) (h : Subject) (x : ClResult) (s : State) : State :=
  beginFrame l { kind := 0x54, tenant := tenantByte h.tenantField, tag := 0, body := x.bytes } .clResult
    { s with bridge := { s.bridge with slot := none } }

/-- The tenant field of a relay data frame: the owner's tenant on the A-link, 0 elsewhere (R13). -/
def relayTenant (l : Link) (owner : Subject) : Byte :=
  match l with
  | .a => tenantByte owner.tenantField
  | _ => 0

/-- Case 7: the oldest block of the chosen channel's queue leaves it as FORWARD or DELIVER, and the
last-served record of the link and level names the channel (R12, R13, R158). -/
def sendRelay (l : Link) (level : Fin 4) (c : Fin 32) (s : State) : State :=
  match (s.channel c).binding, s.feed l c with
  | some b, data :: _ =>
    let kind : Byte := if l = .r then 0x5D else 0x5C
    let src : FrameSource := if l = .r then .forward c else .deliver c
    beginFrame l
      { kind := kind, tenant := relayTenant l b.owner, tag := 0
        body := relayBody c (s.channel c).number data } src
      ((s.setBinding c (some (b.dropHead l))).recordServed l level c)
  | _, _ => s

/-- The outbound arbiter's choice, the first of the seven cases that applies (R12). -/
def chooseFrame (l : Link) (s : State) : State :=
  let p := s.port l
  match p.inFlight with
  | some x => resend l x s
  | none =>
    match p.notices.find? Notice.isStarted, p.replies, p.notices with
    | some n, _, _ => sendNotice l n s
    | none, f :: rest, _ => sendReply l f rest s
    | none, [], n :: _ => sendNotice l n s
    | none, [], [] =>
      match s.keySource l, s.resultSource l, s.nextChannel l with
      | some h, _, _ => sendKeys l h s
      | none, some (h, x), _ => sendResult l h x s
      | none, none, some (level, c) => sendRelay l level c s
      | none, none, none => s

/-- The byte to be shifted out begins, if it has not: from here on it is completed, even where its frame is
cancelled (R15). -/
def beginByte (l : Link) (s : State) : State :=
  let p := s.port l
  s.setPort l { p with transfer := p.transfer.map fun t => { t with shifting := p.outByte } }

/-- The outbound choice, made once as the second byte of a transfer begins; outside RUN nothing is chosen
and the transfer carries fill bytes (R1, R12). -/
def outboundChoice (l : Link) (s : State) : State :=
  match (s.port l).transfer with
  | some t =>
    if t.moved = 1 ∧ t.choiceMade = false then
      let s := s.setPort l { s.port l with transfer := some { t with choiceMade := true, shifting := none } }
      beginByte l (if s.running then chooseFrame l s else s)
    else s
  | none => s

/-! ## Completion, transfers (R1, R6, R14) -/

/-- Whether a frame in flight has had its second check byte shifted. -/
def InFlight.whole (x : InFlight) : Bool :=
  match x.phase with
  | .sending n => n == x.frame.wireLength
  | .parked => false

/-- What the completion of a frame is reported to (table of R14): a DOZE reply to the clock, a CL_RESULT to
the bridge. A relay frame's block is free with the copy gone (R151). -/
def reportCompletion (x : InFlight) (s : State) : State :=
  match x.source with
  | .reply => if x.frame.isDozeOk then dozeReplyCompleted s else s
  | .clResult => bridgeResultGone s
  | _ => s

/-- The frame in flight completes when its second check byte has been shifted (R14). -/
def frameComplete (l : Link) (s : State) : State :=
  match (s.port l).inFlight with
  | some x =>
    if x.whole then reportCompletion x (s.setPort l { s.port l with inFlight := none }) else s
  | none => s

/-- A byte of the frame in flight is shifted out. -/
def InFlight.shift (x : InFlight) : InFlight :=
  match x.phase with
  | .sending n => { x with phase := .sending (min (n + 1) x.frame.wireLength) }
  | .parked => x

/-- The stall timer of a frame being collected restarts (R7). -/
def restartStallTimer (l : Link) (s : State) : State :=
  match (s.port l).receiver with
  | .inFrame bytes _ => s.setPort l { s.port l with receiver := .inFrame bytes .zero }
  | _ => s

/-- A clock edge of a transfer: what the bytes before it have brought about comes first, then the byte it
belongs to begins if it has not, and a stall timer restarts (R1, R7, R15; log entry 8). Outside a transfer the
clock brings nothing. -/
def clockEdge (l : Link) (s : State) : State :=
  match (s.port l).transfer with
  | none => s
  | some _ => restartStallTimer l (beginByte l (outboundChoice l (frameComplete l s)))

/-- One whole byte moves in each direction of a transfer: its clock edges, then the byte out, then the
arrival (R1). Outside a transfer no byte moves. Where the byte is the second check byte of the frame in flight and
of an inbound frame as well, the inbound frame is judged here and the completion comes after it: the spec orders
two frames of different links only (R178), so that is the model's choice (DESIGN CHOICE, log entry 33). -/
def moveByte (l : Link) (b : Byte) (s : State) : State :=
  match (s.port l).transfer with
  | none => s
  | some _ =>
    let s := clockEdge l s
    let p := s.port l
    receiveByte l b (s.setPort l { p with
      transfer := p.transfer.map fun t => { t with moved := t.moved + 1, shifting := none }
      inFlight := p.inFlight.map InFlight.shift })

/-- What the clock brings (R1, R7). -/
def arrive (l : Link) (arrival : Arrival) (s : State) : State :=
  match arrival with
  | .edge => clockEdge l s
  | .byte b => moveByte l b s

/-- Whether the next byte to arrive is the second check byte of the frame being collected. -/
def Receiver.atSecondCheck : Receiver → Bool
  | .inFrame bytes _ => 5 ≤ bytes.length ∧ bytes.length + 1 = frameBytes bytes
  | _ => false

/-- Whether the byte would be a second length byte that gives a length above 256 (R4). -/
def Receiver.atLongLength (r : Receiver) (b : Byte) : Bool :=
  match r with
  | .inFrame bytes _ => bytes.length = 4 ∧ Config.maxBody < lengthField (bytes ++ [b])
  | _ => false

/-- Select becomes active: the status byte is captured as the state stands, and the receiver hunts (R1, R2, R4). -/
def transferStart (l : Link) (s : State) : State :=
  match (s.port l).transfer with
  | some _ => s
  | none =>
    s.setPort l { s.port l with
      transfer := some { status := s.statusByte l, moved := 0, choiceMade := false, shifting := none }
      receiver := .hunting }

/-- The frame in flight at the end of a transfer is PARKED if it was SENDING (R14). -/
def InFlight.park (x : InFlight) : InFlight := { x with phase := .parked }

/-- A frame still being collected as the transfer ends is TRUNCATED (R6). -/
def truncateAtEnd (l : Link) (s : State) : State :=
  match (s.port l).receiver with
  | .inFrame _ _ => setCondition l .inputTruncated (s.setPort l { s.port l with lastRx := .truncated })
  | _ => s

/-- Select becomes inactive: a frame whose second check byte has gone is complete, any other is PARKED; a
partial inbound frame is truncated; the receiver returns to HUNTING (R1, R4, R6, R14). -/
def transferEnd (l : Link) (s : State) : State :=
  match (s.port l).transfer with
  | none => s
  | some _ =>
    let s := truncateAtEnd l (frameComplete l s)
    let p := s.port l
    s.setPort l { p with
      transfer := none
      receiver := .hunting
      inFlight := p.inFlight.map InFlight.park }

end Sys2Proof.Machine
end

