-- ==== Sys2Proof/Machine/RequestOps.lean ====
section
/-! DEFINITION. The processing of the oldest frame of a receive buffer (R8 to R10), shared by every request
row, and the part reset (R22, R177). -/

namespace Sys2Proof.Machine

/-- Processing is open at a port: the regime is RUN and a reply slot is free (R8). -/
def State.mayProcess (s : State) (l : Link) : Bool :=
  s.running && decide ((s.port l).replies.length < Config.replySlots)

/-- A reply is placed after every reply already there (R8). -/
def placeReply (l : Link) (f : Frame) (s : State) : State :=
  s.setPort l { s.port l with replies := (s.port l).replies ++ [f] }

/-- The oldest frame gives up its receive-buffer place (R8). -/
def dropOldest (l : Link) (s : State) : State :=
  s.setPort l { s.port l with rxBuffer := (s.port l).rxBuffer.tail }

/-- A block's action on an admitted request: from the requester, its link and the body, the state after it
and the reply's body. -/
abbrev Handler := Link → Subject → List Byte → State → State × List Byte

/-- A refusal: the code alone, and nothing changed (R10). -/
def refuse (c : ReplyCode) (s : State) : State × List Byte := (s, replyBody c [])

/-- A frame of an assigned kind is processed: the first failing admission check decides the reply, or the
owning block acts and forms it (R8 to R10). -/
def processFrame (k : ReqKind) (handler : Handler) (l : Link) (f : Frame) (s : State) : State :=
  let s := dropOldest l s
  match admission k l f with
  | some code => placeReply l (replyFrame f (replyBody code [])) s
  | none =>
    let (s, body) := handler l (requester l f.tenant) f.body s
    placeReply l (replyFrame f body) s

/-- The oldest frame of a link's receive buffer, where processing is open. -/
def State.oldestOpen (s : State) (l : Link) : Option Frame :=
  if s.mayProcess l then (s.port l).rxBuffer.head? else none

/-- The oldest frame of the link's receive buffer is processed if the row is for it and processing is open;
otherwise it waits (R8; log entries 1 and 7). -/
def processWhere (mine : Frame → Bool) (k : ReqKind) (handler : Handler) (l : Link) (s : State) : State :=
  match s.oldestOpen l with
  | some f => if mine f then processFrame k handler l f s else s
  | none => s

/-- Whether a frame is a request of a kind. -/
def Frame.isKind (k : ReqKind) (f : Frame) : Bool := reqKindOf f.kind == some k

/-- A request row: it is for the frames of its kind. -/
def processRequest (k : ReqKind) (handler : Handler) (l : Link) (s : State) : State :=
  processWhere (Frame.isKind k) k handler l s

/-- A frame of an unassigned kind is answered with kind 0x80 (R9, check 1). -/
def processUnknown (l : Link) (s : State) : State :=
  match s.oldestOpen l with
  | some f => if reqKindOf f.kind = none then placeReply l (unknownKindReply f) (dropOldest l s) else s
  | none => s

/-- A part reset: every block takes its part-reset values, each port queues STARTED, and the input lines
keep the levels the outside gives them (R22, R145, R177). A transfer under way goes on with fill bytes. -/
def partReset (cause : ResetCause) (s : State) : State where
  clock := resetClock
  ports := ⟨resetPort cause s.ports.p.transfer, resetPort cause s.ports.a.transfer, resetPort cause s.ports.r.transfer⟩
  policy := resetPolicy
  tenants := resetTenants
  custody := resetCustody
  keys := resetKeys
  display := resetDisplay
  printer := resetPrinter
  bridge := resetBridge
  air := resetAir s.air.grants
  relay := resetRelay
  lines := s.lines
  pending := s.pending

/-- PART_RESET: an admitted one is processed in RUN whether or not a reply slot is free, and resets the
part; one that fails an admission check waits for a slot and is refused (R22). -/
def processPartReset (l : Link) (s : State) : State :=
  match (s.port l).rxBuffer with
  | [] => s
  | f :: _ =>
    if reqKindOf f.kind ≠ some .partReset ∨ s.running = false then s
    else
      match admission .partReset l f with
      | none => partReset .request s
      | some code =>
        if s.mayProcess l then placeReply l (replyFrame f (replyBody code [])) (dropOldest l s) else s

end Sys2Proof.Machine
end

