-- ==== Sys2Proof/Machine/Air.lean ====
section
/-! DEFINITION. The commands of the air schedule (R133 to R143). -/

namespace Sys2Proof.Machine

/-- A slot set read from its two bytes, most significant first (R134). -/
def slotSetOf (hi lo : Byte) : BitVec 16 := hi ++ lo

/-- Whether some slot is in two of the four sets (R134, test 2). -/
def AirMap.overlaps (m : AirMap) : Bool :=
  (m.sets.cell &&& m.sets.wlan) ||| (m.sets.cell &&& m.sets.bt) ||| (m.sets.cell &&& m.nfc)
    ||| (m.sets.wlan &&& m.sets.bt) ||| (m.sets.wlan &&& m.nfc) ||| (m.sets.bt &&& m.nfc) != 0

/-- Whether the map leaves an exchange somewhere to start: an NFC slot or an OPEN one (R134, test 3). -/
def AirMap.hasAirTime (m : AirMap) : Bool :=
  m.nfc != 0 || (m.sets.cell ||| m.sets.wlan ||| m.sets.bt ||| m.nfc) != BitVec.allOnes 16

/-- AIR_MAP: the tests of R134 in order; an accepted map becomes the pending map. -/
def airMapHandler : Handler := fun _ _ body s =>
  match body with
  | [lb, ch, cl, wh, wl, bh, bl, nh, nl, tb] =>
    if 8 ≤ tb.toNat then refuse .badRequest s
    else
      let m : AirMap :=
        { slotLength := clampTo 1 20 lb.toNat
          sets := ⟨slotSetOf ch cl, slotSetOf wh wl, slotSetOf bh bl⟩, nfc := slotSetOf nh nl
          tolerant := ⟨tb.getLsbD 0, tb.getLsbD 1, tb.getLsbD 2⟩ }
      if m.overlaps then refuse .overlap s
      else if ¬ m.hasAirTime then refuse .noAirTime s
      else
        ({ s with air := { s.air with pendingMap := some m } },
          replyBody (okOr (m.slotLength != lb.toNat)) (m.bytes ++ [byte (Config.airSlots - s.air.slot.val)]))
  | _ => refuse .badRequest s

def execAirMap (l : Link) (s : State) : Host.Outcome State Fault Refusal :=
  .next (processRequest .airMap airMapHandler l s)

/-- AIR_QUERY (R143). -/
def airQueryHandler : Handler := fun _ _ _ s =>
  (s, replyBody .ok (s.air.inForce.bytes ++ [byte s.air.slot.val, byte s.air.slotTimer.elapsed,
    flagByte s.air.pendingMap.isSome, s.air.grants.cell.code, s.air.grants.wlan.code, s.air.grants.bt.code]))

def execAirQuery (l : Link) (s : State) : Host.Outcome State Fault Refusal :=
  .next (processRequest .airQuery airQueryHandler l s)

/-- The slot timer reaches L (R133, R135). -/
def execSlotBoundary (s : State) : Host.Outcome State Fault Refusal := .next (slotBoundary s)

/-- A transmit request becomes active (R137). -/
def execTxRequestRise (f : RadioFn) (s : State) : Host.Outcome State Fault Refusal := .next (txRequestRise f s)

/-- A transmit request becomes inactive (R138). -/
def execTxRequestFall (f : RadioFn) (s : State) : Host.Outcome State Fault Refusal := .next (txRequestFall f s)

end Sys2Proof.Machine
end

