-- ==== Sys2Proof/Machine/Clock.lean ====
section
/-! DEFINITION. The commands of the clock and timebase (R168 to R175). -/

namespace Sys2Proof.Machine

/-- DOZE: the tests of R170; doze pending until the reply has left. -/
def dozeHandler : Handler := fun _ _ _ s =>
  if s.clock.dozePending then refuse .already s
  else if ¬ s.quiet then refuse .busy s
  else ({ s with clock := { s.clock with dozePending := true } }, replyBody .ok [])

def execDoze (l : Link) (s : State) : Host.Outcome State Fault Refusal :=
  .next (processRequest .doze dozeHandler l s)

/-- Part time advances by one millisecond (R168; log entry 3). -/
def execPartTimeTick (s : State) : Host.Outcome State Fault Refusal := .next (partTimeTick s)

/-- The lock count reaches 80 (R169, R175; log entry 3). -/
def execFastClockLock (s : State) : Host.Outcome State Fault Refusal := .next (fastClockLock s)

end Sys2Proof.Machine
end

