-- ==== Sys2Proof/Machine/Contactless.lean ====
section
/-! DEFINITION. The commands of the contactless bridge (R117 to R129). -/

namespace Sys2Proof.Machine

/-- An exchange becomes ARMED with the next exchange number: the grants of R139 are withdrawn, then the gate
is judged (R117, R118, R141). -/
def armExchange (who : Subject) (expected timeout : Nat) (command : List Byte) (s : State) : State :=
  let number := s.bridge.counter + 1
  judgeGate (armingJudgeAll { s with bridge := { s.bridge with
    counter := number
    exchange := .armed { owner := who, number := number, command := command, expected := expected
                         timeout := timeout, discard := false } } })

/-- CL_EXCHANGE: the tests of R117, the limits, the arming. -/
def clExchangeHandler : Handler := fun _ who body s =>
  match body with
  | eb :: tb :: command =>
    if ¬ s.holds who .cless then refuse .notHolder s
    else if (s.entry .cless).standing = .held then refuse .held s
    else if s.bridge.exchange ≠ .idle then refuse .collision s
    else
      let expected := clampTo 0 240 eb.toNat
      let timeout := clampTo 1 250 tb.toNat
      (armExchange who expected timeout command s,
        replyBody (okOr (expected != eb.toNat || timeout != tb.toNat))
          [s.bridge.counter + 1, byte expected, byte timeout])
  | _ => refuse .badRequest s

def execClExchange (l : Link) (s : State) : Host.Outcome State Fault Refusal :=
  .next (processRequest .clExchange clExchangeHandler l s)

/-- CL_SETUP: the field-reset interval, limited to 5 to 50 ms (R128). -/
def clSetupHandler : Handler := fun _ _ body s =>
  match body with
  | [b] =>
    let interval := clampTo 5 50 b.toNat
    ({ s with bridge := { s.bridge with interval := interval } },
      replyBody (okOr (interval != b.toNat)) [byte interval])
  | _ => refuse .badRequest s

def execClSetup (l : Link) (s : State) : Host.Outcome State Fault Refusal :=
  .next (processRequest .clSetup clSetupHandler l s)

/-- The WRITE transaction ends (R119). -/
def execWriteComplete (s : State) : Host.Outcome State Fault Refusal := .next (writeComplete s)

/-- CLRDY takes a level (R121). -/
def execClrdyActive (level : Bool) (s : State) : Host.Outcome State Fault Refusal := .next (clrdyLevel level s)

/-- The timeout timer reaches the exchange's timeout (R121). -/
def execExchangeTimeout (s : State) : Host.Outcome State Fault Refusal := .next (exchangeTimeout s)

/-- The ABORT transaction ends (R121, R123). -/
def execAbortComplete (s : State) : Host.Outcome State Fault Refusal := .next (abortComplete s)

/-- The READ transaction ends (R122, R123; DESIGN CHOICE, log entries 12 and 27). -/
def execReadComplete (available : Byte) (response : List Byte) (s : State) : Host.Outcome State Fault Refusal :=
  .next (readComplete available response s)

/-- The field reset's elapsed time reaches its interval (R126). -/
def execFieldResetExpiry (s : State) : Host.Outcome State Fault Refusal := .next (fieldResetExpiry s)

/-- CLFEV changes its level (R129, R130). -/
def execClfevEdge (level : Bool) (s : State) : Host.Outcome State Fault Refusal := .next (clfevEdge level s)

end Sys2Proof.Machine
end

