-- ==== Sys2Proof/Machine/Custody.lean ====
section
/-! DEFINITION. The requests on custody entries (R46 to R50, R52, R58, R59). -/

namespace Sys2Proof.Machine

/-! ## CLAIM -/

/-- What a claim that passed the tests of R46 asks for: `limited` says that its granularity was replaced. -/
structure ClaimTerms where
  who : Subject
  resource : Resource
  gran : Gran
  limited : Bool
  wait : Bool
  returnFlag : Bool
  priority : Nat
  preempt : Bool
  deriving DecidableEq, Repr

/-- The waiting entry of an accepted claim (R44). -/
def ClaimTerms.waiter (c : ClaimTerms) (order : BitVec 32) : Waiter :=
  { subject := c.who, priority := c.priority, order := order, gran := c.gran, returnFlag := c.returnFlag
    origin := .claim }

/-- The reply of a claim placed in the list: QUEUED, or CLAMPED where the granularity was replaced (R46). -/
def ClaimTerms.queuedReply (c : ClaimTerms) (position : Nat) : List Byte :=
  replyBody (if c.limited then .clamped else .queued) [resourceCode c.resource, byte position, c.gran.code]

/-- A claim on a FREE entry (R48): granted at once, but for DISPLAY claimed by PAY, which needs the panel
moved first. -/
def claimFree (c : ClaimTerms) (s : State) : State × List Byte :=
  let (order, s) := takeArrival s
  if c.resource = .display ∧ c.who = .pay then
    (enterTurnover .display .revoked (s.setWaiting .display [c.waiter order]), c.queuedReply 1)
  else
    (startGrant c.resource c.who c.priority order c.returnFlag c.gran s,
      replyBody (okOr c.limited) [resourceCode c.resource, 0, c.gran.code])

/-- A claim that joins the list (R50), the DISPLAY head being reported if that entry is in TURNOVER (R54). -/
def claimQueue (c : ClaimTerms) (s : State) : State × List Byte :=
  let (order, s) := takeArrival s
  let ws := placeWaiter (c.waiter order) (s.entry c.resource).waiting
  (changeWaiting c.resource ws s, c.queuedReply (positionOf c.who ws))

/-- The list after a preemption: the claimant placed, then the old holder if its return flag and the
room allow (R49, steps 1 and 2). -/
def preemptedList (claimant : Waiter) (g : Grant) (ws : List Waiter) : List Waiter :=
  let placed := placeWaiter claimant ws
  if g.returnFlag ∧ placed.length < Config.listPlaces then
    placeWaiter { subject := g.holder, priority := g.priority, order := g.order, gran := g.gran
                  returnFlag := g.returnFlag, origin := .ret } placed
  else placed

/-- A claim that preempts the holder (R49). -/
def claimPreempt (c : ClaimTerms) (g : Grant) (s : State) : State × List Byte :=
  let (order, s) := takeArrival s
  let ws := preemptedList (c.waiter order) g (s.entry c.resource).waiting
  (revokeGrant c.resource .preempted (positionOf g.holder ws) (s.setWaiting c.resource ws),
    c.queuedReply (positionOf c.who ws))

/-- Whether a NOWAIT claim is BUSY: the entry has a holder, or a waiting entry has at least the claimant's
priority (R50). -/
def ClaimTerms.isBusy (c : ClaimTerms) (e : CustodyEntry) : Bool :=
  e.grant.isSome || e.waiting.any fun w => decide (c.priority ≤ w.priority)

/-- Whether a claim preempts the grant (R49). -/
def ClaimTerms.preempts (c : ClaimTerms) (g : Grant) : Bool := c.preempt && decide (g.priority < c.priority)

/-- A claim to which R47 does not apply, on an entry that is not FREE (R49, R50). -/
def claimTaken (c : ClaimTerms) (s : State) : State × List Byte :=
  let e := s.entry c.resource
  let full := Config.listPlaces ≤ e.waiting.length
  match e.grant with
  | some g =>
    if c.preempts g then (if full then refuse .listFull s else claimPreempt c g s)
    else if ¬ c.wait then refuse .busy s
    else if full then refuse .listFull s
    else claimQueue c s
  | none =>
    if ¬ c.wait ∧ c.isBusy e then refuse .busy s
    else if full then refuse .listFull s
    else claimQueue c s

/-- A claim that passed the tests of R46 is decided by the first of R47 to R50 that applies. -/
def decideClaim (c : ClaimTerms) (s : State) : State × List Byte :=
  let e := s.entry c.resource
  if s.holds c.who c.resource then refuse .already s
  else
    match findWaiter c.who e.waiting with
    | some w =>
      (s, replyBody .queued [resourceCode c.resource, byte (positionOf c.who e.waiting), w.gran.code])
    | none => if e.state = .free then claimFree c s else claimTaken c s

/-- CLAIM: the tests of R46, then the decision. -/
def claimHandler : Handler := fun _ who body s =>
  match body with
  | [rb, gb, mb, fb] =>
    match resourceOf rb, granOf gb, flagOf mb, flagOf fb with
    | some r, some g, some wait, some returnFlag =>
      let e := s.policyOf who r
      if ¬ s.mayAct who then refuse .tenantInactive s
      else if ¬ e.allow then refuse .notPermitted s
      else
        decideClaim { who := who, resource := r, gran := e.grans.grantable g, limited := !e.grans.has g, wait := wait
                      returnFlag := returnFlag, priority := e.priority, preempt := e.preempt } s
    | _, _, _, _ => refuse .badRequest s
  | _ => refuse .badRequest s

def execClaim (l : Link) (s : State) : Host.Outcome State Fault Refusal :=
  .next (processRequest .claim claimHandler l s)

/-! ## RELEASE and WITHDRAW -/

/-- RELEASE (R52). -/
def releaseHandler : Handler := fun _ who body s =>
  match body with
  | [rb] =>
    match resourceOf rb with
    | none => refuse .badRequest s
    | some r =>
      if s.holds who r then (enterTurnover r .released s, replyBody .ok [rb]) else refuse .notHolder s
  | _ => refuse .badRequest s

def execRelease (l : Link) (s : State) : Host.Outcome State Fault Refusal :=
  .next (processRequest .release releaseHandler l s)

/-- WITHDRAW (R58). -/
def withdrawHandler : Handler := fun _ who body s =>
  match body with
  | [rb] =>
    match resourceOf rb with
    | none => refuse .badRequest s
    | some r =>
      if (findWaiter who (s.entry r).waiting).isSome then
        (changeWaiting r (dropWaiter who (s.entry r).waiting) s, replyBody .ok [rb])
      else refuse .notHolder s
  | _ => refuse .badRequest s

def execWithdraw (l : Link) (s : State) : Host.Outcome State Fault Refusal :=
  .next (processRequest .withdraw withdrawHandler l s)

/-! ## CUSTODY_QUERY (R59) -/

/-- A subject's code as a reader sees it: APP/1 to APP/15 do not see the codes of other APP subjects. -/
def shownCode (reader who : Subject) : Byte :=
  match reader with
  | .app t => if t ≠ 0 ∧ who.isApp ∧ who ≠ reader then hiddenCode else who.code
  | _ => who.code

/-- The fields hold, held quarters and phase at hold entry. A doze hold is never in force when a request is
processed (R76); log entry 17. -/
def holdBytes : Option HoldRecord → List Byte
  | some (.byHold n _ _ p) => [1, byte n, byte p]
  | _ => [0, 0, 0]

/-- The fields from holder to phase at hold entry (table of R59). -/
def grantBytes (reader : Subject) : Option Grant → List Byte
  | none => nobodyCode :: 0 :: List.replicate 11 0
  | some g =>
    [shownCode reader g.holder, byte g.priority, g.gran.code, pendingCode g.pendingGran, signedByte g.balance,
      byte g.phase, byte g.owed, flagByte g.renewed] ++ bytes2 g.quarterTimer.elapsed ++ holdBytes g.hold

/-- One waiting entry (table of R59). -/
def waiterBytes (reader : Subject) (w : Waiter) : List Byte :=
  [shownCode reader w.subject, byte w.priority, w.gran.code, w.origin.code]

/-- The data of the reply, for an entry as it stands (table of R59). -/
def custodyBytes (reader : Subject) (r : Resource) (e : CustodyEntry) : List Byte :=
  resourceCode r :: e.standing.code :: (grantBytes reader e.grant
    ++ byte e.waiting.length :: e.waiting.flatMap (waiterBytes reader))

/-- CUSTODY_QUERY (R59). -/
def custodyQueryHandler : Handler := fun _ reader body s =>
  match body with
  | [rb] =>
    match resourceOf rb with
    | none => refuse .badRequest s
    | some r => (s, replyBody .ok (custodyBytes reader r (s.entry r)))
  | _ => refuse .badRequest s

def execCustodyQuery (l : Link) (s : State) : Host.Outcome State Fault Refusal :=
  .next (processRequest .custodyQuery custodyQueryHandler l s)

end Sys2Proof.Machine
end

