-- ==== Sys2Proof/Machine/Keys.lean ====
section
/-! DEFINITION. The commands of the key unit (R80, R92, R94, R96). -/

namespace Sys2Proof.Machine

def WakeMode.code : WakeMode → Byte
  | .none => 0
  | .any => 1
  | .matching => 2

def wakeModeOf (b : Byte) : Option WakeMode :=
  if b = 0 then some .none else if b = 1 then some .any else if b = 2 then some .matching else none

/-- KEY_SETUP (R96). -/
def keySetupHandler : Handler := fun _ _ body s =>
  match body with
  | [db, wb, eb] =>
    match wakeModeOf wb, flagOf eb with
    | some mode, some echo =>
      let d := clampTo 1 4 db.toNat
      ({ s with keys := { s.keys with settings := { debounce := d, wake := mode, echo := echo } } },
        replyBody (okOr (d != db.toNat)) [byte d, wb, eb])
    | _, _ => refuse .badRequest s
  | _ => refuse .badRequest s

def execKeySetup (l : Link) (s : State) : Host.Outcome State Fault Refusal :=
  .next (processRequest .keySetup keySetupHandler l s)

def MatchMode.code : MatchMode → Byte
  | .off => 0
  | .sequence => 1
  | .hold => 2

def matchModeOf (b : Byte) : Option MatchMode :=
  if b = 0 then some .off else if b = 1 then some .sequence else if b = 2 then some .hold else none

/-- The match settings in a MATCH_SETUP's layout (R94). -/
def MatchSettings.bytes (m : MatchSettings) : List Byte :=
  m.mode.code :: (bytes2 m.gapLimit ++ [byte m.holdCode] ++ bytes2 m.holdTime ++ [byte m.sequence.length]
    ++ m.sequence.map byte)

/-- Tests 1 and 3 to 5 of R94, on a body whose mode is known. -/
def matchBodyOk (mode : MatchMode) (hc n : Byte) (entries : List Byte) : Bool :=
  n.toNat ≤ 6 && entries.length == n.toNat && entries.all (fun e => decide (e.toNat ≤ 24))
    && decide (1 ≤ hc.toNat ∧ hc.toNat ≤ 24) && (mode != .sequence || decide (1 ≤ n.toNat))

/-- MATCH_SETUP: all five tests answer BAD_REQUEST; a body that passes replaces every match setting and the
matcher starts afresh (R94). -/
def matchSetupHandler : Handler := fun _ _ body s =>
  match body with
  | mb :: gh :: gl :: hc :: hh :: hl :: n :: entries =>
    match matchModeOf mb with
    | none => refuse .badRequest s
    | some mode =>
      if ¬ matchBodyOk mode hc n entries then refuse .badRequest s
      else
        let gap := number2 gh gl
        let time := number2 hh hl
        let new : MatchSettings :=
          { mode := mode, gapLimit := clampTo 100 5000 gap, holdCode := hc.toNat
            holdTime := clampTo 500 10000 time, sequence := entries.map BitVec.toNat }
        (resetMatcher { s with keys := { s.keys with matching := new } },
          replyBody (okOr (new.gapLimit != gap || new.holdTime != time)) new.bytes)
  | _ => refuse .badRequest s

def execMatchSetup (l : Link) (s : State) : Host.Outcome State Fault Refusal :=
  .next (processRequest .matchSetup matchSetupHandler l s)

/-- A scan event (R80 to R95). -/
def execKeyScan (sample : BitVec 24) (s : State) : Host.Outcome State Fault Refusal := .next (keyScan sample s)

/-- The hold timer reaches the hold time (R92, R93). -/
def execHoldTimerMatch (s : State) : Host.Outcome State Fault Refusal := .next (holdTimerMatch s)

end Sys2Proof.Machine
end

