-- ==== Sys2Proof/Machine/Lease.lean ====
section
/-! DEFINITION. The commands of the lease: renewal, granularity, hold and resume, and the two quarters
(R67 to R74). -/

namespace Sys2Proof.Machine

/-- The grant a requester holds on a resource, GRANTED or HELD. -/
def State.grantOf (s : State) (who : Subject) (r : Resource) : Option Grant :=
  (s.entry r).grant.filter fun g => g.holder == who

/-- RENEW (R71). -/
def renewHandler : Handler := fun _ who body s =>
  match body with
  | [rb] =>
    match resourceOf rb with
    | none => refuse .badRequest s
    | some r =>
      match s.grantOf who r with
      | none => refuse .notHolder s
      | some g =>
        if g.hold.isSome then refuse .held s
        else
          let n := g.renew
          (s.setGrant r n, replyBody (okOr g.renewLimited)
            [rb, signedByte n.balance, byte n.phase, byte n.owed, n.gran.code])
  | _ => refuse .badRequest s

def execRenew (l : Link) (s : State) : Host.Outcome State Fault Refusal :=
  .next (processRequest .renew renewHandler l s)

/-- A grant after SET_GRAIN (R69): the granularity in force, at once at phase 0, or the pending one. -/
def Grant.setGrain (want : Gran) (g : Grant) : Grant :=
  if want = g.gran then { g with pendingGran := none }
  else if g.phase = 0 then { g with gran := want, pendingGran := none }
  else { g with pendingGran := some want }

/-- SET_GRAIN (R69). -/
def setGrainHandler : Handler := fun _ who body s =>
  match body with
  | [rb, gb] =>
    match resourceOf rb, granOf gb with
    | some r, some want =>
      match s.grantOf who r with
      | none => refuse .notHolder s
      | some g =>
        if ¬ (s.policyOf who r).grans.has want then refuse .notPermitted s
        else
          let n := g.setGrain want
          (s.setGrant r n, replyBody (if n.pendingGran.isSome then .pending else .ok)
            [rb, n.gran.code, pendingCode n.pendingGran])
    | _, _ => refuse .badRequest s
  | _ => refuse .badRequest s

def execSetGrain (l : Link) (s : State) : Host.Outcome State Fault Refusal :=
  .next (processRequest .setGrain setGrainHandler l s)

/-- A grant as a HOLD begins (R72): its quarter timer stands, and so does a boundary not yet taken (R78). -/
def Grant.beginHold (q : Nat) (g : Grant) : Grant :=
  { g with quarterTimer := g.quarterTimer.stand, hold := some (.byHold 0 .zero q g.phase) }

/-- HOLD (R72). -/
def holdHandler : Handler := fun _ who body s =>
  match body with
  | [rb] =>
    match resourceOf rb with
    | none => refuse .badRequest s
    | some r =>
      match s.grantOf who r with
      | none => refuse .notHolder s
      | some g =>
        let e := s.policyOf who r
        if e.holdLimit = 0 then refuse .notPermitted s
        else if ¬ (g.renewed ∧ g.owed = 0) then refuse .renewFirst s
        else if g.hold.isSome then refuse .already s
        else (s.setGrant r (g.beginHold e.quarterLength), replyBody .ok [rb, byte e.holdLimit])
  | _ => refuse .badRequest s

def execHold (l : Link) (s : State) : Host.Outcome State Fault Refusal :=
  .next (processRequest .hold holdHandler l s)

/-- RESUME (R74). -/
def resumeHandler : Handler := fun _ who body s =>
  match body with
  | [rb] =>
    match resourceOf rb with
    | none => refuse .badRequest s
    | some r =>
      match s.grantOf who r with
      | none => refuse .notHolder s
      | some g =>
        if g.hold.isNone then refuse .notHeld s
        else
          let n := g.resume
          (s.setGrant r n, replyBody .ok [rb, signedByte n.balance, byte n.owed, n.gran.code])
  | _ => refuse .badRequest s

def execResume (l : Link) (s : State) : Host.Outcome State Fault Refusal :=
  .next (processRequest .resume resumeHandler l s)

/-- A quarter boundary of the resource's grant (R67, R68). -/
def execQuarterBoundary (r : Resource) (s : State) : Host.Outcome State Fault Refusal := .next (quarterBoundary r s)

/-- A held quarter of the resource's grant (R73). -/
def execHeldQuarter (r : Resource) (s : State) : Host.Outcome State Fault Refusal := .next (heldQuarter r s)

end Sys2Proof.Machine
end

