-- ==== Sys2Proof/Machine/LinkRequests.lean ====
section
/-! DEFINITION. The requests common to the links, RESTART and the part resets (R9, R18 to R22). -/

namespace Sys2Proof.Machine

/-- A frame of an unassigned request kind is processed (R9, check 1). -/
def execUnknownKind (l : Link) (s : State) : Host.Outcome State Fault Refusal := .next (processUnknown l s)

/-- TIME: part time in four bytes (R20). -/
def timeHandler : Handler := fun _ _ _ s => (s, replyBody .ok (bytes4 s.clock.partTime))

def execTime (l : Link) (s : State) : Host.Outcome State Fault Refusal :=
  .next (processRequest .time timeHandler l s)

/-! ## Conditions (R18, R19) -/

/-- A condition mask read from its two bytes: none where an unused mask bit is set (R18, R19). -/
def maskOf (hi lo : Byte) : Option (BitVec 10) :=
  if number2 hi lo < 1024 then some (BitVec.ofNat 10 (number2 hi lo)) else none

/-- A condition mask in its two bytes (1.10). -/
def maskBytes (m : BitVec 10) : List Byte := bytes2 m.toNat

/-- Whether a cleared RADIO_OVERRUN re-enters the P-link's set: a radio function still carries its mark
(R18, R140). -/
def State.overrunStands (s : State) : Bool := allRadio.any s.overrunMark

/-- What is left of a link's condition set after a clear set (R18). -/
def State.conditionsAfter (s : State) (l : Link) (clear : BitVec 10) : BitVec 10 :=
  let old := (s.port l).conditions
  let left := old &&& ~~~clear
  if l = .p ∧ hasCondition (old &&& clear) .radioOverrun ∧ s.overrunStands then
    left ||| Condition.radioOverrun.bit
  else left

/-- CONDITIONS: the set as it stood is the reply, and the members named in the clear set leave it (R18). -/
def conditionsHandler : Handler := fun l _ body s =>
  match body with
  | [hi, lo] =>
    match maskOf hi lo with
    | none => refuse .badRequest s
    | some clear =>
      (s.setPort l { s.port l with conditions := s.conditionsAfter l clear },
        replyBody .ok (maskBytes (s.port l).conditions))
  | _ => refuse .badRequest s

def execConditions (l : Link) (s : State) : Host.Outcome State Fault Refusal :=
  .next (processRequest .conditions conditionsHandler l s)

/-- CONDITIONS_ENABLE: the enable set is replaced (R19). -/
def conditionsEnableHandler : Handler := fun l _ body s =>
  match body with
  | [hi, lo] =>
    match maskOf hi lo with
    | none => refuse .badRequest s
    | some new => (s.setPort l { s.port l with enables := new }, replyBody .ok (maskBytes new))
  | _ => refuse .badRequest s

def execConditionsEnable (l : Link) (s : State) : Host.Outcome State Fault Refusal :=
  .next (processRequest .conditionsEnable conditionsEnableHandler l s)

/-! ## RESTART (R21, R64, R145, R163, R164) -/

/-- The port clears its link: the replies in its slots are discarded, its frame in flight is cancelled, and
its notice queue and condition set are emptied (R21). Discarding the reply of an accepted DOZE counts as
its cancellation (R171). -/
def restartLink (l : Link) (s : State) : State :=
  let s := if (s.port l).replies.any Frame.isDozeOk then { s with clock := { s.clock with dozePending := false } } else s
  cancelInFlight l (s.setPort l { s.port l with replies := [], notices := [], conditions := 0 })

/-- The restarted domain's standing on one resource ends: its waiting entries are removed and its grant is
ended, with no notice to it (R64). -/
def restartEntry (l : Link) (s : State) (r : Resource) : State :=
  let ws := (s.entry r).waiting.filter fun w => !w.subject.isOf l
  let held := match s.holder r with
    | some h => h.isOf l
    | none => false
  if held then enterTurnover r .revoked (s.setWaiting r ws)
  else if ws ≠ (s.entry r).waiting then changeWaiting r ws s
  else s

/-- What RESTART does to custody: the four resources in resource-number order; from the R-link, nothing
(R64). -/
def restartCustody (l : Link) (s : State) : State :=
  match l with
  | .r => s
  | _ => allResources.foldl (restartEntry l) s

/-- What RESTART does to the relay, in ascending channel number (R163, R164). -/
def restartRelay (l : Link) (before s : State) : State :=
  match l with
  | .r => allChannels.foldl (resetChannel before) s
  | _ => allChannels.foldl (restartChannel l) s

/-- What RESTART does to the air schedule: nothing but from the R-link (R145). -/
def restartAir (l : Link) (s : State) : State :=
  match l with
  | .r => lowerRadioGrants s
  | _ => s

/-- RESTART: the port's clearing first, the other blocks then, the reply last (R21). -/
def restartHandler : Handler := fun l _ _ s =>
  (restartAir l (restartRelay l s (restartCustody l (restartLink l s))), replyBody .ok [])

def execRestart (l : Link) (s : State) : Host.Outcome State Fault Refusal :=
  .next (processRequest .restart restartHandler l s)

/-! ## Part resets (R22, R177) -/

/-- PART_RESET (R22). -/
def execPartReset (l : Link) (s : State) : Host.Outcome State Fault Refusal := .next (processPartReset l s)

/-- The reset pin: a part reset with cause PIN (R22, R177). -/
def execPinReset (s : State) : Host.Outcome State Fault Refusal := .next (partReset .pin s)

/-- Power-up: a part reset with cause POWER (R22, R177). -/
def execPowerUp (s : State) : Host.Outcome State Fault Refusal := .next (partReset .power s)

end Sys2Proof.Machine
end

