-- ==== Sys2Proof/Machine/Links.lean ====
section
/-! DEFINITION. The commands of a link's transfers and frames (R1 to R7, R12 to R14). -/

namespace Sys2Proof.Machine

/-- Select of a link becomes active (R1, R2). -/
def execTransferStart (l : Link) (s : State) : Host.Outcome State Fault Refusal := .next (transferStart l s)

/-- The second byte of a transfer begins: the outbound arbiter chooses (R12, R13). -/
def execOutboundChoice (l : Link) (s : State) : Host.Outcome State Fault Refusal := .next (outboundChoice l s)

/-- The second check byte of the frame in flight has been shifted (R14). -/
def execFrameComplete (l : Link) (s : State) : Host.Outcome State Fault Refusal := .next (frameComplete l s)

/-- The byte that arrives is a frame's second check byte: the frame is judged (R5). Any other arrival is
ARRIVING_BYTE's, and this command then does nothing (log entry 8). -/
def execFrameReceived (l : Link) (b : Byte) (s : State) : Host.Outcome State Fault Refusal :=
  .next (if (s.port l).receiver.atSecondCheck then moveByte l b s else s)

/-- The byte that arrives is a second length byte that gives a length above 256: the frame is abandoned
(R4). Any other arrival is ARRIVING_BYTE's (log entry 8). -/
def execFrameLengthAbandoned (l : Link) (b : Byte) (s : State) : Host.Outcome State Fault Refusal :=
  .next (if (s.port l).receiver.atLongLength b then moveByte l b s else s)

/-- Select of a link becomes inactive (R1, R6, R14). -/
def execTransferEnd (l : Link) (s : State) : Host.Outcome State Fault Refusal := .next (transferEnd l s)

/-- The stall timer of a frame being collected expires (R7). -/
def execFrameStall (l : Link) (s : State) : Host.Outcome State Fault Refusal := .next (frameStall l s)

/-- A byte arrives in a transfer, whole or by one of its clock edges (R1, R4, R7). -/
def execArrivingByte (l : Link) (arrival : Arrival) (s : State) : Host.Outcome State Fault Refusal :=
  .next (arrive l arrival s)

end Sys2Proof.Machine
end

