-- ==== Sys2Proof/Machine/Panel.lean ====
section
/-! DEFINITION. The commands of the display switch, the lamp and the printer port (R101 to R113). -/

namespace Sys2Proof.Machine

/-- A rising edge of FSYNC (R101). -/
def execFsyncEdge (s : State) : Host.Outcome State Fault Refusal := .next (fsyncEdge s)

/-- The forced-switch timer reaches 100 ms (R102). -/
def execForcedSwitch (s : State) : Host.Outcome State Fault Refusal := .next (forcedSwitch s)

/-- The blink timer reaches 500 or 1000 ms (R105). -/
def execBlinkTimer (s : State) : Host.Outcome State Fault Refusal := .next (blinkToggle s)

/-- Free space of the printer FIFO (R106). -/
def PrinterPort.space (p : PrinterPort) : Nat := Config.printerPlaces - p.fifo.length

/-- PRINT: the tests of R107, the bytes appended whole and the report ARMED; a character may then begin
(R106). The reply gives the free space after the append. -/
def printHandler : Handler := fun _ who body s =>
  if ¬ s.holds who .printer then refuse .notHolder s
  else if (s.entry .printer).standing = .held then refuse .held s
  else if s.printer.space < body.length then refuse .full s
  else
    let appended := { s.printer with fifo := s.printer.fifo ++ body, armed := true }
    (beginCharacter { s with printer := appended }, replyBody .ok (bytes2 appended.space))

def execPrint (l : Link) (s : State) : Host.Outcome State Fault Refusal :=
  .next (processRequest .print printHandler l s)

/-- PRINT_FLUSH: the FIFO is discarded and the report CLEAR; a drain under way moves on (R109). -/
def printFlushHandler : Handler := fun _ who _ s =>
  if s.holds who .printer ∨ who = .pay then
    (runPrinter { s with printer := { s.printer with fifo := [], armed := false } },
      replyBody .ok (bytes2 s.printer.fifo.length))
  else refuse .notHolder s

def execPrintFlush (l : Link) (s : State) : Host.Outcome State Fault Refusal :=
  .next (processRequest .printFlush printFlushHandler l s)

/-- PRINT_SETUP: the separator is the body (R110). -/
def printSetupHandler : Handler := fun _ _ body s =>
  ({ s with printer := { s.printer with separator := body } }, replyBody .ok body)

def execPrintSetup (l : Link) (s : State) : Host.Outcome State Fault Refusal :=
  .next (processRequest .printSetup printSetupHandler l s)

/-- PRDY takes a level (R106). -/
def execPrdyActive (level : Bool) (s : State) : Host.Outcome State Fault Refusal := .next (prdyLevel level s)

/-- The stop bit of the character in transmission has been sent (R106, R108, R112). -/
def execCharacterComplete (s : State) : Host.Outcome State Fault Refusal := .next (characterComplete s)

/-- The printer stall timer reaches 5000 ms (R113). -/
def execPrinterStall (s : State) : Host.Outcome State Fault Refusal := .next (printerStall s)

end Sys2Proof.Machine
end

