-- ==== Sys2Proof/Machine/Policy.lean ====
section
/-! DEFINITION. The requests on policy entries and tenant records (R29, R30, R36, R37). -/

namespace Sys2Proof.Machine

/-- Whether a write offends the fixed fields (R27): RAD's entries whole, and allow and preempt of PAY's
KEYPAD and DISPLAY entries at yes. -/
def writesFixed (who : Subject) (r : Resource) (allow preempt : Bool) : Bool :=
  match who with
  | .rad => true
  | .pay => (r == .keypad || r == .display) && !(allow && preempt)
  | .app _ => false

/-- POLICY_SET: the tests of R29 in order, the entry with its limited values, and the effects on the
subject's grant or waiting entry (R29, R31 to R35). -/
def policySetHandler : Handler := fun _ _ body s =>
  match body with
  | [sc, rc, ab, pb, eb, qh, ql, gb, hb] =>
    match subjectOf sc, resourceOf rc, flagOf ab, flagOf eb, granSetOf gb with
    | some who, some r, some allow, some preempt, some grans =>
      if writesFixed who r allow preempt then refuse .fixed s
      else
        let q := number2 qh ql
        let new : PolicyEntry :=
          { allow := allow, priority := clampTo 0 7 pb.toNat, preempt := preempt
            quarterLength := clampTo 5 15000 q, grans := grans, holdLimit := hb.toNat }
        let limited := new.priority != pb.toNat || new.quarterLength != q
        (policyEffects who r (s.policyOf who r) new { s with policy := s.policy.write who r new },
          replyBody (okOr limited) (sc :: rc :: new.bytes))
    | _, _, _, _, _ => refuse .badRequest s
  | _ => refuse .badRequest s

def execPolicySet (l : Link) (s : State) : Host.Outcome State Fault Refusal :=
  .next (processRequest .policySet policySetHandler l s)

/-- Whether a reader may read what belongs to a subject: PAY and APP/0 may read everything, another tenant
its own (R30, R37). -/
def mayRead (reader target : Subject) : Bool := reader == .pay || reader == .app 0 || reader == target

/-- POLICY_GET (R30). -/
def policyGetHandler : Handler := fun _ reader body s =>
  match body with
  | [sc, rc] =>
    match subjectOf sc, resourceOf rc with
    | some who, some r =>
      if mayRead reader who then (s, replyBody .ok (sc :: rc :: (s.policyOf who r).bytes))
      else refuse .notPermitted s
    | _, _ => refuse .badRequest s
  | _ => refuse .badRequest s

def execPolicyGet (l : Link) (s : State) : Host.Outcome State Fault Refusal :=
  .next (processRequest .policyGet policyGetHandler l s)

/-! ## Tenant records -/

/-- The state a TENANT_SET names, 0xFF leaving it unchanged; none for any other byte (R36, test 2). -/
def tenantStateAfter (b : Byte) (old : TenantState) : Option TenantState :=
  if b = 255 then some old else tenantStateOf b

/-- The allowance a TENANT_SET applies: 0xFF leaves it, 9 to 254 become 8 (R36). -/
def allowanceAfter (b : Byte) (old : Nat) : Nat := if b = 255 then old else min b.toNat Config.maxAllowance

/-- What a change of a tenant's state does: leaving ACTIVE ends its standing on all four resources (R38);
becoming RETIRED unbinds its channels in ascending number (R39). -/
def tenantEffects (t : Fin 16) (old new : TenantState) (s : State) : State :=
  let s := if old = .active ∧ new ≠ .active then endAllStanding (.app t) s else s
  if old ≠ .retired ∧ new = .retired then allChannels.foldl (retireChannel t) s else s

/-- Tests 4 to 6 of R36: who may ask for what. -/
def tenantSetRefusal (who : Subject) (old : TenantState) (sb ab : Byte) : Option ReplyCode :=
  if who = .pay then none
  else if who ≠ .app 0 then some .notPermitted
  else if old = .frozen then some .fixed
  else if sb = TenantState.frozen.code ∨ ab ≠ 255 then some .notPermitted
  else none

/-- TENANT_SET: the tests of R36 in order, the record written, its effects (R36 to R40). -/
def tenantSetHandler : Handler := fun _ who body s =>
  match body with
  | [tb, sb, ab] =>
    match tenantOf tb with
    | none => refuse .badRequest s
    | some t =>
      let old := s.tenant t
      match tenantStateAfter sb old.state with
      | none => refuse .badRequest s
      | some new =>
        if t = 0 then refuse .fixed s
        else
          match tenantSetRefusal who old.state sb ab with
          | some code => refuse code s
          | none =>
            let allowance := allowanceAfter ab old.allowance
            (tenantEffects t old.state new
                { s with tenants := s.tenants.set t { state := new, allowance := allowance } },
              replyBody (okOr (ab != 255 && Config.maxAllowance < ab.toNat)) [tb, new.code, byte allowance])
  | _ => refuse .badRequest s

def execTenantSet (l : Link) (s : State) : Host.Outcome State Fault Refusal :=
  .next (processRequest .tenantSet tenantSetHandler l s)

/-- TENANT_GET (R37). -/
def tenantGetHandler : Handler := fun _ reader body s =>
  match body with
  | [tb] =>
    match tenantOf tb with
    | none => refuse .badRequest s
    | some t =>
      if mayRead reader (.app t) then
        (s, replyBody .ok
          (if t = 0 then [tb, TenantState.active.code, 0, 0]
           else [tb, (s.tenant t).state.code, byte (s.tenant t).allowance, byte (s.tenantCount t)]))
      else refuse .notPermitted s
  | _ => refuse .badRequest s

def execTenantGet (l : Link) (s : State) : Host.Outcome State Fault Refusal :=
  .next (processRequest .tenantGet tenantGetHandler l s)

end Sys2Proof.Machine
end

