-- ==== Sys2Proof/Machine/RelayRequests.lean ====
section
/-! DEFINITION. The requests on the radio relay (R152 to R161). -/

namespace Sys2Proof.Machine

/-! ## CH_BIND -/

/-- Whether class and owner tenant agree with a channel number (R148; R152, test 1). -/
def classFits (c : Fin 32) (cls : ChanClass) (owner : Fin 16) : Bool :=
  match cls with
  | .payment => decide (c.val < 4) && owner == 0
  | .control => decide (4 ≤ c.val) && owner == 0
  | .tenant => decide (4 ≤ c.val) && owner != 0

/-- The owner of a binding (R148). -/
def channelOwner (cls : ChanClass) (owner : Fin 16) : Subject :=
  match cls with
  | .payment => .pay
  | .control => .app 0
  | .tenant => .app owner

/-- Who binds and unbinds a channel: PAY channels 0 to 3, APP/0 channels 4 to 31 (R148). -/
def channelBinder (c : Fin 32) : Subject := if c.val < 4 then .pay else .app 0

/-- The refusal of a CH_BIND by tests 2 to 5 of R152, if any. -/
def bindRefusal (who : Subject) (c : Fin 32) (cls : ChanClass) (owner : Fin 16) (s : State) : Option ReplyCode :=
  if who ≠ channelBinder c then some .notPermitted
  else if cls = .tenant ∧ (s.tenant owner).state ≠ .active then some .tenantInactive
  else if cls = .tenant ∧ (s.tenant owner).allowance ≤ s.tenantCount owner then some .notPermitted
  else if (s.channel c).binding.isSome then some .already
  else none

/-- A bind is carried out: the binding number advances, the record is BOUND with empty queues, and CH_OPEN
goes to the R-link (R153). -/
def bindChannel (c : Fin 32) (b : Binding) (s : State) : State :=
  let number := (s.channel c).number + 1
  notifyLink .r (.chOpen c number b.cls b.level) (s.setChannel c { number := number, binding := some b })

/-- CH_BIND: the tests of R152, the limits before test 6, the bind. -/
def chBindHandler : Handler := fun _ who body s =>
  match body with
  | [cb, tb, kb, lb, rb, mb] =>
    match channelOf cb, tenantOf tb, classOf kb with
    | some c, some owner, some cls =>
      if ¬ classFits c cls owner then refuse .badRequest s
      else
        match bindRefusal who c cls owner s with
        | some code => refuse code s
        | none =>
          let reserve := clampTo 0 8 rb.toNat
          let b : Binding :=
            { owner := channelOwner cls owner, cls := cls, level := clampTo 0 cls.maxLevel lb.toNat
              reserve := reserve, ceiling := clampTo reserve 32 mb.toNat, outbound := [], inbound := [] }
          if Config.maxReserveSum < s.reserveSum + reserve ∨ s.sharedFree < reserve then refuse .noReserve s
          else
            (bindChannel c b s,
              replyBody (okOr (b.level != lb.toNat || b.reserve != rb.toNat || b.ceiling != mb.toNat))
                [cb, tb, kb, byte b.level, byte b.reserve, byte b.ceiling, (s.channel c).number + 1])
    | _, _, _ => refuse .badRequest s
  | _ => refuse .badRequest s

def execChBind (l : Link) (s : State) : Host.Outcome State Fault Refusal :=
  .next (processRequest .chBind chBindHandler l s)

/-! ## CH_UNBIND -/

/-- CH_UNBIND: the tests of R154, the unbind, CH_CLOSED to the R-link and to an owner that is not the
requester, and the count of blocks freed. -/
def chUnbindHandler : Handler := fun _ who body s =>
  match body with
  | [cb] =>
    match channelOf cb with
    | none => refuse .badRequest s
    | some c =>
      if who ≠ channelBinder c then refuse .notPermitted s
      else
        match (s.channel c).binding with
        | none => refuse .notBound s
        | some b =>
          let closed := notifyClosedRad c .unbind (unbindChannel c s)
          (if b.owner = who then closed else notifyClosedOwner b.owner c .unbind closed,
            replyBody .ok [cb, byte (s.used c)])
  | _ => refuse .badRequest s

def execChUnbind (l : Link) (s : State) : Host.Outcome State Fault Refusal :=
  .next (processRequest .chUnbind chUnbindHandler l s)

/-! ## CH_QUERY -/

/-- Whether a reader may read a channel: PAY, APP/0 and RAD every channel, APP/1 to APP/15 those they own
(R160). -/
def State.mayReadChannel (s : State) (reader : Subject) (c : Fin 32) : Bool :=
  match reader with
  | .app t => t == 0 || (match (s.channel c).binding with | some b => b.owner == reader | none => false)
  | _ => true

/-- An owner's code as a link sees it: on the R-link the domain only (R160). -/
def ownerCode (l : Link) (owner : Subject) : Byte := if l = .r ∧ owner.isApp then hiddenCode else owner.code

/-- The eleven bytes of a channel (table of R160). -/
def State.channelBytes (s : State) (l : Link) (c : Fin 32) : List Byte :=
  match (s.channel c).binding with
  | none => [channelByte c, 0, nobodyCode, 0, 0, 0, 0, 0, 0, 0, (s.channel c).number]
  | some b =>
    [channelByte c, 1, ownerCode l b.owner, b.cls.code, byte b.level, byte b.reserve, byte b.ceiling,
      byte (s.used c), byte b.inbound.length, byte b.outbound.length, (s.channel c).number]

/-- The body that asks for the summary (R160, R161). -/
def summaryBody : List Byte := [255]

/-- CH_QUERY of one channel (R160). -/
def chQueryHandler : Handler := fun l reader body s =>
  match body with
  | [cb] =>
    match channelOf cb with
    | none => refuse .badRequest s
    | some c =>
      if s.mayReadChannel reader c then (s, replyBody .ok (s.channelBytes l c)) else refuse .notOwner s
  | _ => refuse .badRequest s

/-- The row CH_QUERY is for every frame of the kind but the summary's. -/
def execChQuery (l : Link) (s : State) : Host.Outcome State Fault Refusal :=
  .next (processWhere (fun f => f.isKind .chQuery && f.body != summaryBody) .chQuery chQueryHandler l s)

/-- The map of the bound channels a reader may read; bit i stands for channel i (R161). -/
def State.boundMap (s : State) (reader : Subject) : BitVec 32 :=
  allChannels.foldl (fun m c =>
    if (s.channel c).binding.isSome && s.mayReadChannel reader c then m ||| BitVec.twoPow 32 c.val else m) 0

/-- Whether a reader is shown the pool figures: an app tenant is not (R161). -/
def seesPool : Subject → Bool
  | .app t => t == 0
  | _ => true

/-- CH_QUERY with body 0xFF: the pool figures and the map (R161). -/
def chQuerySummaryHandler : Handler := fun _ reader _ s =>
  (s, replyBody .ok
    ((if seesPool reader then [byte s.freeBlocks, byte s.reservedFree, byte s.sharedFree, byte s.reserveSum]
      else [0, 0, 0, 0]) ++ bytes4 (s.boundMap reader)))

def execChQuerySummary (l : Link) (s : State) : Host.Outcome State Fault Refusal :=
  .next (processWhere (fun f => f.isKind .chQuery && f.body == summaryBody) .chQuery chQuerySummaryHandler l s)

/-! ## SEND and DATA -/

/-- SEND: the tests of R156; the data joins the outbound queue. -/
def sendHandler : Handler := fun _ who body s =>
  match body with
  | cb :: payload =>
    match channelOf cb with
    | none => refuse .badRequest s
    | some c =>
      match (s.channel c).binding with
      | none => refuse .notBound s
      | some b =>
        if b.owner ≠ who then refuse .notOwner s
        else if s.isFrozen b.owner then refuse .tenantInactive s
        else if ¬ s.canAllocate c b then refuse .full s
        else
          (s.setBinding c (some { b with outbound := b.outbound ++ [payload] }),
            replyBody .ok [cb, byte (s.used c + 1)])
  | _ => refuse .badRequest s

def execSend (l : Link) (s : State) : Host.Outcome State Fault Refusal :=
  .next (processRequest .send sendHandler l s)

/-- DATA: the tests of R157; the data joins the inbound queue. -/
def dataHandler : Handler := fun _ _ body s =>
  match body with
  | cb :: nb :: payload =>
    match channelOf cb with
    | none => refuse .badRequest s
    | some c =>
      match (s.channel c).binding with
      | none => refuse .notBound s
      | some b =>
        if (s.channel c).number ≠ nb then refuse .notBound s
        else if s.isFrozen b.owner then refuse .tenantInactive s
        else if ¬ s.canAllocate c b then refuse .full s
        else
          (s.setBinding c (some { b with inbound := b.inbound ++ [payload] }),
            replyBody .ok [cb, byte (s.used c + 1)])
  | _ => refuse .badRequest s

def execData (l : Link) (s : State) : Host.Outcome State Fault Refusal :=
  .next (processRequest .data dataHandler l s)

end Sys2Proof.Machine
end

