-- ==== Sys2Proof/Machine/Dispatch.lean ====
section
/-! DEFINITION. One arm for each command: the direct call of its meaning. -/

namespace Sys2Proof.Machine

/-- The effect of one command on everything but the queue. -/
def exec (i : Instr) (s : State) : Host.Outcome State Fault Refusal :=
  match i with
  | .transferStart l => Sys2Proof.Machine.execTransferStart l s
  | .outboundChoice l => Sys2Proof.Machine.execOutboundChoice l s
  | .frameComplete l => Sys2Proof.Machine.execFrameComplete l s
  | .frameReceived l b => Sys2Proof.Machine.execFrameReceived l b s
  | .frameLengthAbandoned l b => Sys2Proof.Machine.execFrameLengthAbandoned l b s
  | .transferEnd l => Sys2Proof.Machine.execTransferEnd l s
  | .frameStall l => Sys2Proof.Machine.execFrameStall l s
  | .unknownKind l => Sys2Proof.Machine.execUnknownKind l s
  | .time l => Sys2Proof.Machine.execTime l s
  | .conditions l => Sys2Proof.Machine.execConditions l s
  | .conditionsEnable l => Sys2Proof.Machine.execConditionsEnable l s
  | .restart l => Sys2Proof.Machine.execRestart l s
  | .partReset l => Sys2Proof.Machine.execPartReset l s
  | .pinReset => Sys2Proof.Machine.execPinReset s
  | .powerUp => Sys2Proof.Machine.execPowerUp s
  | .policySet l => Sys2Proof.Machine.execPolicySet l s
  | .policyGet l => Sys2Proof.Machine.execPolicyGet l s
  | .tenantSet l => Sys2Proof.Machine.execTenantSet l s
  | .tenantGet l => Sys2Proof.Machine.execTenantGet l s
  | .claim l => Sys2Proof.Machine.execClaim l s
  | .release l => Sys2Proof.Machine.execRelease l s
  | .withdraw l => Sys2Proof.Machine.execWithdraw l s
  | .custodyQuery l => Sys2Proof.Machine.execCustodyQuery l s
  | .renew l => Sys2Proof.Machine.execRenew l s
  | .setGrain l => Sys2Proof.Machine.execSetGrain l s
  | .hold l => Sys2Proof.Machine.execHold l s
  | .resume l => Sys2Proof.Machine.execResume l s
  | .quarterBoundary r => Sys2Proof.Machine.execQuarterBoundary r s
  | .heldQuarter r => Sys2Proof.Machine.execHeldQuarter r s
  | .keySetup l => Sys2Proof.Machine.execKeySetup l s
  | .matchSetup l => Sys2Proof.Machine.execMatchSetup l s
  | .keyScan sample => Sys2Proof.Machine.execKeyScan sample s
  | .holdTimerMatch => Sys2Proof.Machine.execHoldTimerMatch s
  | .fsyncEdge => Sys2Proof.Machine.execFsyncEdge s
  | .forcedSwitch => Sys2Proof.Machine.execForcedSwitch s
  | .blinkTimer => Sys2Proof.Machine.execBlinkTimer s
  | .print l => Sys2Proof.Machine.execPrint l s
  | .printFlush l => Sys2Proof.Machine.execPrintFlush l s
  | .printSetup l => Sys2Proof.Machine.execPrintSetup l s
  | .prdyActive level => Sys2Proof.Machine.execPrdyActive level s
  | .characterComplete => Sys2Proof.Machine.execCharacterComplete s
  | .printerStall => Sys2Proof.Machine.execPrinterStall s
  | .clExchange l => Sys2Proof.Machine.execClExchange l s
  | .clSetup l => Sys2Proof.Machine.execClSetup l s
  | .writeComplete => Sys2Proof.Machine.execWriteComplete s
  | .clrdyActive level => Sys2Proof.Machine.execClrdyActive level s
  | .exchangeTimeout => Sys2Proof.Machine.execExchangeTimeout s
  | .abortComplete => Sys2Proof.Machine.execAbortComplete s
  | .readComplete available response => Sys2Proof.Machine.execReadComplete available response s
  | .fieldResetExpiry => Sys2Proof.Machine.execFieldResetExpiry s
  | .clfevEdge level => Sys2Proof.Machine.execClfevEdge level s
  | .airMap l => Sys2Proof.Machine.execAirMap l s
  | .airQuery l => Sys2Proof.Machine.execAirQuery l s
  | .slotBoundary => Sys2Proof.Machine.execSlotBoundary s
  | .txRequestRise f => Sys2Proof.Machine.execTxRequestRise f s
  | .txRequestFall f => Sys2Proof.Machine.execTxRequestFall f s
  | .chBind l => Sys2Proof.Machine.execChBind l s
  | .chUnbind l => Sys2Proof.Machine.execChUnbind l s
  | .chQuery l => Sys2Proof.Machine.execChQuery l s
  | .chQuerySummary l => Sys2Proof.Machine.execChQuerySummary l s
  | .send l => Sys2Proof.Machine.execSend l s
  | .data l => Sys2Proof.Machine.execData l s
  | .doze l => Sys2Proof.Machine.execDoze l s
  | .partTimeTick => Sys2Proof.Machine.execPartTimeTick s
  | .fastClockLock => Sys2Proof.Machine.execFastClockLock s
  | .arrivingByte l arrival => Sys2Proof.Machine.execArrivingByte l arrival s

end Sys2Proof.Machine
end

