-- ==== Sys2Proof/Machine/Step.lean ====
section
/-! DEFINITION. One step: the command at the front of the queue, or one reference cycle when none waits. -/

namespace Sys2Proof.Machine

/-- The command at the front of the queue is taken, and runs with the queue's rest. On an empty queue one
cycle of the reference crystal passes (DESIGN CHOICE, log entry 2). -/
def step (s : State) : Host.Outcome State Fault Refusal :=
  match s.pending with
  | c :: rest => exec c { s with pending := rest }
  | [] => .next (referenceCycle s)

/-- The state with the command that a word spells put at the front of its queue; unchanged where the word
spells none, as every word does (log entry 19). -/
def State.withFetchWord (s : State) (nbits w : Nat) : State :=
  match decodeTableWord nbits w with
  | some c => { s with pending := c :: s.pending }
  | none => s

end Sys2Proof.Machine
end

