-- ==== Sys2Proof/Safety.lean ====
section
/-! DEFINITION. What counts as a safe run; the words the statements about requests share; what an attention
takeover leaves and tells; the blocks each command may change; and the laws the spec says the part keeps, one
for each kind of state: queues, custody, standing, leases, keys, panel, card, air, relay and clock. -/

namespace Sys2Proof.Machine

/-- A step is safe when the part goes on: it answers a next state. -/
def Goes (o : Host.Outcome State Fault Refusal) : Prop := ∃ t, o = .next t

/-- Commands taken one after another, up to the first that does not answer a next state. -/
def execAll : List Instr → State → Host.Outcome State Fault Refusal
  | [], s => .next s
  | c :: cs, s =>
    match exec c s with
    | .next t => execAll cs t
    | .fault e => .fault e
    | .refused e => .refused e

/-! ## Requests -/

/-- Processing is open at a link, and `f` is the oldest frame of its receive buffer (R8). -/
abbrev Waiting (l : Link) (f : Frame) (s : State) : Prop :=
  s.clock.regime = .run ∧ (s.port l).replies.length < 4 ∧ (s.port l).rxBuffer.head? = some f

/-- `f` is the oldest frame of link `l`, a request of kind `k` that processing is open for and that passes
all five admission checks (R8, R9). -/
abbrev Admitted (k : ReqKind) (l : Link) (f : Frame) (s : State) : Prop :=
  Waiting l f s ∧ f.kind = k.code ∧ (if l = .a then f.tenant.toNat < 16 else f.tenant = 0)
    ∧ k.permitted l f.tenant = true ∧ k.lengthOk f.body.length = true

/-- The request's frame gives up its place and its reply enters a slot after every reply already there
(R8, R10); `t` is what the owning block made of the state. -/
def replied (l : Link) (f : Frame) (c : ReplyCode) (data : List Byte) (t : State) : State :=
  placeReply l (replyFrame f (replyBody c data)) t

/-- The request is answered with the code alone and changes nothing else (R9, R10). -/
def refused (l : Link) (f : Frame) (c : ReplyCode) (s : State) : State := replied l f c [] (dropOldest l s)

/-- The request is answered with data and changes nothing else. -/
def reported (l : Link) (f : Frame) (data : List Byte) (s : State) : State := replied l f .ok data (dropOldest l s)

/-- The row that processes a request of kind `k` in frame `f` (CH_QUERY has two, R160 and R161). -/
def requestRow (k : ReqKind) (f : Frame) (l : Link) : Instr :=
  match k with
  | .time => .time l
  | .conditions => .conditions l
  | .conditionsEnable => .conditionsEnable l
  | .restart => .restart l
  | .partReset => .partReset l
  | .policySet => .policySet l
  | .policyGet => .policyGet l
  | .tenantSet => .tenantSet l
  | .tenantGet => .tenantGet l
  | .claim => .claim l
  | .release => .release l
  | .withdraw => .withdraw l
  | .custodyQuery => .custodyQuery l
  | .renew => .renew l
  | .setGrain => .setGrain l
  | .hold => .hold l
  | .resume => .resume l
  | .keySetup => .keySetup l
  | .matchSetup => .matchSetup l
  | .print => .print l
  | .printSetup => .printSetup l
  | .printFlush => .printFlush l
  | .clExchange => .clExchange l
  | .clSetup => .clSetup l
  | .airMap => .airMap l
  | .airQuery => .airQuery l
  | .chBind => .chBind l
  | .chUnbind => .chUnbind l
  | .chQuery => if f.body = summaryBody then .chQuerySummary l else .chQuery l
  | .send => .send l
  | .data => .data l
  | .doze => .doze l

/-- The conditions of R172's entry test, that is 2 to 5 of R170 and three empty receive buffers. -/
abbrev EntryTest (s : State) : Prop :=
  s.bridge.exchange = .idle ∧ (∀ r ∈ allResources, (s.entry r).standing ≠ .turnover) ∧ s.printer.fifo = []
    ∧ s.display.target = none ∧ (∀ l ∈ [Link.p, Link.a, Link.r], (s.port l).rxBuffer = [])

/-- A resource's entry with every subject exchanged by `m`. -/
abbrev Renamed (m : Subject → Subject) (e : CustodyEntry) : CustodyEntry where
  state := match e.state with
    | .owned g => .owned { g with holder := m g.holder }
    | other => other
  waiting := e.waiting.map fun w => { w with subject := m w.subject }

/-! ## Timers and the attention takeover -/

/-- No event of a timer waits to be taken, and no scan falls in this millisecond (log entry 4). -/
def NothingDue (s : State) : Prop :=
  (∀ (l : Link) (bs : List Byte) (t : Timer), (s.port l).receiver = .inFrame bs t → t.due = false)
    ∧ (∀ (r : Resource) (g : Grant), (s.entry r).grant = some g → g.quarterTimer.due = false
        ∧ ∀ n t len p, g.hold = some (.byHold n t len p) → t.due = false)
    ∧ isDue s.keys.holdTimer = false ∧ s.keys.scanDue = false
    ∧ isDue s.display.forcedTimer = false ∧ isDue s.display.blinkTimer = false
    ∧ isDue s.printer.stallTimer = false
    ∧ (∀ (x : Exchange) (t : Timer), s.bridge.exchange = .awaiting x t → t.due = false)
    ∧ (∀ f : FieldReset, s.bridge.fieldReset = some f → f.timer.due = false)
    ∧ s.air.slotTimer.due = false

/-- What an attention takeover leaves of custody (R60): PAY holds KEYPAD, and holds DISPLAY or waits for the
panel alone at the head; what PAY did not hold before is at priority 8, with no other subject in the list. -/
def TakenOver (s t : State) : Prop :=
  t.holder .keypad = some .pay
    ∧ (s.holder .keypad = some .pay → (t.entry .keypad).waiting = (s.entry .keypad).waiting)
    ∧ (s.holder .keypad ≠ some .pay →
        (t.entry .keypad).waiting = [] ∧ ∃ g, (t.entry .keypad).grant = some g ∧ g.priority = 8)
    ∧ (s.holder .display = some .pay →
        t.holder .display = some .pay ∧ (t.entry .display).waiting = (s.entry .display).waiting)
    ∧ (s.holder .display ≠ some .pay → s.display.mux = .app →
        (t.entry .display).standing = .turnover
          ∧ ∃ w, (t.entry .display).waiting = [w] ∧ w.subject = .pay ∧ w.priority = 8)
    ∧ (s.holder .display ≠ some .pay → s.display.mux = .pay →
        (t.entry .display).waiting = []
          ∧ ∃ g, (t.entry .display).grant = some g ∧ g.holder = .pay ∧ g.priority = 8)

/-- Those a takeover of a resource tells on the A-link (R60, R61): its holder, then its APP waiters head first
(the order among them is the model's choice, log entry 29). -/
def takenFrom (s : State) (r : Resource) : List Notice :=
  if s.holder r = some .pay then []
  else
    ((s.holder r).toList.map fun h => { tenant := h.tenantField, body := .revoke r .attention 0 })
      ++ (((s.entry r).waiting.filter fun w => w.subject.isApp).map fun w =>
        { tenant := w.subject.tenantField, body := .withdrawn r .attention })

/-- The GRANT a takeover brings PAY in its own event (R56, R60): none where PAY holds the resource already, and
none for DISPLAY while the panel is on APP. -/
def grantedToPay (s : State) (r : Resource) : List Notice :=
  if s.holder r = some .pay ∨ (r = .display ∧ s.display.mux = .app) then []
  else
    let want := ((findWaiter .pay (s.entry r).waiting).map (·.gran)).getD .full
    [{ tenant := 0, body := .grant r .attention ((s.policyOf .pay r).grans.grantable want) }]

/-- The notices of a takeover on each link (R61), from the state before it and the state after it. -/
def takeoverNotices (s t : State) (l : Link) : List Notice :=
  let told : Notice := { tenant := 0, body := .attention (t.entry .keypad).standing (t.entry .display).standing }
  match l with
  | .p => grantedToPay s .keypad ++ grantedToPay s .display ++ [told]
  | .a => takenFrom s .keypad ++ takenFrom s .display ++ [told]
  | .r => []

/-! ## Blocks, and what a command may change -/

/-- The blocks of the part. -/
inductive Block where
  | clock
  | port (l : Link)
  | policy
  | tenants
  | custody
  | keys
  | display
  | printer
  | bridge
  | air
  | relay
  | lines
  deriving DecidableEq, Repr

/-- A block stands alike in two states. -/
def Block.same (s t : State) : Block → Prop
  | .clock => s.clock = t.clock
  | .port l => s.port l = t.port l
  | .policy => s.policy = t.policy
  | .tenants => s.tenants = t.tenants
  | .custody => s.custody = t.custody
  | .keys => s.keys = t.keys
  | .display => s.display = t.display
  | .printer => s.printer = t.printer
  | .bridge => s.bridge = t.bridge
  | .air => s.air = t.air
  | .relay => s.relay = t.relay
  | .lines => s.lines = t.lines

/-- The three ports: a notice to a subject can go to any link. -/
def portBlocks : List Block := [.port .p, .port .a, .port .r]

/-- The blocks that the ending of a grant and the grant after it can reach (R51 to R56, R88, R100, R111, R125). -/
def turnoverBlocks : List Block := portBlocks ++ [.custody, .keys, .display, .printer, .bridge, .air]

/-- The blocks that the bytes of a transfer can reach: its own port, the sources a frame leaves (R13), and
what the completion of a frame brings about (R14, R172, R173). -/
def transferBlocks (l : Link) : List Block := [.port l, .port .p, .clock, .custody, .keys, .bridge]

/-- The blocks each command may change. -/
def reach : Instr → List Block
  | .transferStart l | .frameStall l | .unknownKind l | .time l | .conditions l | .conditionsEnable l
  | .policyGet l | .tenantGet l | .custodyQuery l | .airQuery l | .chQuery l | .chQuerySummary l => [.port l]
  | .outboundChoice l => [.port l, .keys, .bridge, .relay]
  | .frameComplete l | .transferEnd l => transferBlocks l
  | .frameReceived l _ | .frameLengthAbandoned l _ | .arrivingByte l _ => transferBlocks l ++ [.relay]
  | .restart .r => portBlocks ++ [.clock, .bridge, .air, .relay]
  | .restart _ => turnoverBlocks ++ [.clock, .relay]
  | .partReset _ | .pinReset | .powerUp =>
    turnoverBlocks ++ [.clock, .policy, .tenants, .relay]
  | .policySet _ => .policy :: turnoverBlocks
  | .tenantSet _ => .tenants :: .relay :: turnoverBlocks
  | .claim _ | .release _ | .quarterBoundary _ => turnoverBlocks
  | .withdraw _ => portBlocks ++ [.custody, .display]
  | .renew l | .setGrain l | .hold l | .resume l => [.port l, .custody]
  | .heldQuarter _ => portBlocks ++ [.custody]
  | .keySetup l | .matchSetup l => [.port l, .keys]
  | .keyScan _ => portBlocks ++ [.lines, .clock, .custody, .keys, .display]
  | .holdTimerMatch => portBlocks ++ [.clock, .custody, .keys, .display]
  | .fsyncEdge | .forcedSwitch => portBlocks ++ [.custody, .display]
  | .blinkTimer => [.display]
  | .print l | .printSetup l => [.port l, .printer]
  | .printFlush _ => portBlocks ++ [.custody, .printer]
  | .prdyActive _ => [.lines, .printer]
  | .characterComplete => portBlocks ++ [.clock, .custody, .printer]
  | .printerStall => portBlocks ++ [.custody, .printer]
  | .clExchange l => [.port l, .port .p, .bridge, .air]
  | .clSetup l => [.port l, .bridge]
  | .writeComplete | .exchangeTimeout => [.bridge]
  | .clrdyActive _ => [.lines, .bridge]
  | .abortComplete | .readComplete _ _ => [.bridge, .air]
  | .fieldResetExpiry => portBlocks ++ [.custody, .bridge]
  | .clfevEdge _ => portBlocks ++ [.clock, .lines]
  | .airMap l => [.port l, .air]
  | .slotBoundary => [.port .p, .bridge, .air]
  | .txRequestRise _ => [.air]
  | .txRequestFall _ => [.bridge, .air]
  | .chBind l => [.port l, .port .r, .relay]
  | .chUnbind _ => portBlocks ++ [.relay]
  | .send l | .data l => [.port l, .relay]
  | .doze l => [.port l, .clock]
  | .partTimeTick | .fastClockLock => turnoverBlocks ++ [.clock]

/-! ## The laws -/

/-- The queues of the links, the key FIFO and the printer FIFO are within their places (R5, R8, R11, R85, R106). -/
def QueueLaw (s : State) : Prop :=
  (∀ l : Link, (s.port l).rxBuffer.length ≤ 2 ∧ (s.port l).replies.length ≤ 4 ∧ (s.port l).notices.length ≤ 16)
    ∧ s.keys.fifo.length ≤ 32 ∧ s.printer.fifo.length ≤ 4096

/-- One waiting entry may stand ahead of another: higher priority, or the same and no later arrival (R44). -/
def Waiter.mayLead (w v : Waiter) : Prop :=
  v.priority < w.priority ∨ (w.priority = v.priority ∧ w.order.toNat ≤ v.order.toNat)

/-- A waiting list is in order, holds at most 6 entries, no subject twice and never RAD (R44). -/
def WaitingList (ws : List Waiter) : Prop :=
  ws.length ≤ 6 ∧ ws.Pairwise Waiter.mayLead ∧ (ws.map (·.subject)).Nodup ∧ ∀ w ∈ ws, w.subject ≠ .rad

/-- A custody entry (R42, R44): in FREE the list is empty; a holder is never RAD and never in the list. -/
def CustodyEntry.lawful (e : CustodyEntry) : Prop :=
  WaitingList e.waiting ∧ (e.state = .free → e.waiting = [])
    ∧ ∀ g, e.grant = some g → g.holder ≠ .rad ∧ ∀ w ∈ e.waiting, w.subject ≠ g.holder

/-- Every custody entry is lawful, and KEYPAD is never seen in TURNOVER (R42, R44, R53). -/
def CustodyLaw (s : State) : Prop :=
  (∀ r : Resource, (s.entry r).lawful) ∧ (s.entry .keypad).standing ≠ .turnover

/-- A subject may stand on a resource: its entry allows it and, for an APP subject, its tenant is ACTIVE (R56). -/
def State.mayStand (s : State) (who : Subject) (r : Resource) : Prop :=
  (s.policyOf who r).allow = true ∧ s.mayAct who = true

/-- Every holder and every waiter may stand where it stands (R38, R42, R56), and the fixed fields of PAY's
KEYPAD and DISPLAY entries hold (R27). -/
def StandingLaw (s : State) : Prop :=
  (∀ r : Resource, (∀ g, (s.entry r).grant = some g → s.mayStand g.holder r)
      ∧ ∀ w ∈ (s.entry r).waiting, s.mayStand w.subject r)
    ∧ ∀ r : Resource, r = .keypad ∨ r = .display →
      (s.policyOf .pay r).allow = true ∧ (s.policyOf .pay r).preempt = true

/-- A lease within the values of the table of 4.1: the phase is a multiple of the weight in force, and a
pending granularity waits only at a phase that is not 0. -/
def Grant.lawful (g : Grant) : Prop :=
  g.phase < 4 ∧ g.phase % g.gran.weight = 0 ∧ -23 ≤ g.balance ∧ g.balance ≤ 16 ∧ g.owed ≤ 4
    ∧ (g.pendingGran.isSome → g.phase ≠ 0) ∧ ∀ h, g.hold = some h → h.phaseAtEntry < 4

/-- Every lease is lawful (R66 to R74). -/
def LeaseLaw (s : State) : Prop := ∀ r : Resource, ∀ g, (s.entry r).grant = some g → g.lawful

/-- The keys (R82, R85, R88, R90): at most two keys in the down set; records wait, and a KEY frame is in
flight, only for a KEYPAD holder, on its link; while PAY holds KEYPAD the matcher is at rest. -/
def KeyLaw (s : State) : Prop :=
  downCount s.keys.keys ≤ 2
    ∧ (s.keys.fifo ≠ [] → (s.holder .keypad).isSome)
    ∧ (∀ l : Link, s.inFlightFrom l .key = true → (s.holder .keypad).map Subject.link = some l)
    ∧ (s.holder .keypad = some .pay →
        s.keys.position = 0 ∧ s.keys.previousPress = none ∧ s.keys.holdTimer = none)

/-- The display switch (R54, R99, R100): in TURNOVER a change to the source the head needs is pending;
otherwise nothing is pending, and the mux selects PAY exactly while PAY holds DISPLAY. -/
def DisplayLaw (s : State) : Prop :=
  match (s.entry .display).state with
  | .turnover _ =>
    s.display.target = some (requiredSource (s.entry .display).waiting)
      ∧ s.display.required = some (requiredSource (s.entry .display).waiting)
      ∧ requiredSource (s.entry .display).waiting ≠ s.display.mux ∧ s.display.forcedTimer.isSome
  | .owned g =>
    s.display.target = none ∧ s.display.required = none ∧ s.display.forcedTimer = none
      ∧ (s.display.mux = .pay ↔ g.holder = .pay)
  | .free =>
    s.display.target = none ∧ s.display.required = none ∧ s.display.forcedTimer = none
      ∧ s.display.mux = .app

/-- The lamp shows what the mux source and the KEYPAD holder make it, and blinks on its own timer (R104, R105). -/
def LampLaw (s : State) : Prop :=
  s.display.lamp = lampFor s.display.mux (s.holder .keypad)
    ∧ (s.display.blinkTimer.isSome ↔ s.display.lamp = .blink)

/-- The exchange record, in every state that carries one. -/
def Bridge.record (b : Bridge) : Option Exchange :=
  match b.exchange with
  | .armed x | .sending x | .awaiting x _ | .aborting x | .receiving x => some x
  | _ => none

/-- The bridge and CLESS (R123 to R127): a result is its holder's, in the slot or in flight on the holder's
link; an exchange without the discard mark is the holder's; while CLESS is in TURNOVER either a marked
exchange is in flight or a field reset for the turnover runs with the bridge IDLE, and neither at any other
time; no exchange is in flight while CLRST is active. -/
def CardLaw (s : State) : Prop :=
  (∀ x, s.bridge.slot = some x → s.bridge.exchange = .result ∧ s.holder .cless = some x.owner)
    ∧ (∀ l : Link, s.inFlightFrom l .clResult = true →
        s.bridge.exchange = .result ∧ s.bridge.slot = none ∧ (s.holder .cless).map Subject.link = some l)
    ∧ (s.bridge.exchange = .result → (s.holder .cless).isSome)
    ∧ (∀ x, s.bridge.record = some x →
        if x.discard then (s.entry .cless).standing = .turnover ∧ s.bridge.isInFlight = true
        else s.holder .cless = some x.owner)
    ∧ (∀ f, s.bridge.fieldReset = some f →
        s.bridge.isInFlight = false
          ∧ (f.forTurnover = true → (s.entry .cless).standing = .turnover ∧ s.bridge.exchange = .idle))
    ∧ ((s.entry .cless).standing = .turnover →
        (∃ x, s.bridge.record = some x ∧ x.discard = true)
          ∨ (∃ f, s.bridge.fieldReset = some f ∧ f.forTurnover = true))

/-- The printer port and PRINTER (R111 to R113): a turnover phase, with its stall timer, exactly while
PRINTER is in TURNOVER; a separator copy only in the SEPARATOR phase, and then no data byte. -/
def PrinterLaw (s : State) : Prop :=
  (s.printer.phase ≠ .none ↔ (s.entry .printer).standing = .turnover)
    ∧ (s.printer.stallTimer.isSome ↔ s.printer.phase ≠ .none)
    ∧ (s.printer.phase ≠ .separator → s.printer.separatorCopy = [])
    ∧ (s.printer.phase = .separator → s.printer.fifo = [])
    ∧ (s.printer.fifo ≠ [] → (s.entry .printer).state ≠ .free)

/-- No grant of a function that is not tolerant is high while an exchange is in flight (R142). -/
def AirLaw (s : State) : Prop :=
  s.bridge.isInFlight = true →
    ∀ f : RadioFn, s.air.inForce.tolerant.get f = false → s.air.grants.get f ≠ .granted

/-- A bound channel within the values of R147 and R148. -/
def Binding.lawful (c : Fin 32) (b : Binding) : Prop :=
  b.owner ≠ .rad ∧ (b.owner = .pay ↔ c.val < 4) ∧ b.reserve ≤ 8 ∧ b.reserve ≤ b.ceiling ∧ b.ceiling ≤ 32

/-- The relay (R149): a relay frame in flight belongs to a bound channel and is on the link that channel
feeds; no channel uses more than its ceiling; the blocks in use with those reserved but unused are at most
96; and the reserves sum to at most 64. -/
def PoolLaw (s : State) : Prop :=
  (∀ c b, (s.channel c).binding = some b → b.lawful c ∧ s.bindingUsed c b ≤ b.ceiling)
    ∧ (∀ l c, s.inFlightFrom l (.forward c) = true → l = .r ∧ (s.channel c).binding.isSome)
    ∧ (∀ l c, s.inFlightFrom l (.deliver c) = true →
        ∃ b, (s.channel c).binding = some b ∧ b.owner.link = l)
    ∧ s.blocksInUse + s.reservedFree ≤ 96
    ∧ s.reserveSum ≤ 64

/-- The regime follows the fast clock, and a doze is pending only in RUN (R169, R171, R173). -/
def ClockLaw (s : State) : Prop :=
  (match s.clock.regime with
    | .run => s.clock.fastClock = .locked
    | .waking => ∃ n, s.clock.fastClock = .locking n
    | .doze => s.clock.fastClock = .off ∨ (s.clock.fastClock = .locked ∧ s.printer.inTransmission.isSome))
    ∧ (s.clock.dozePending = true → s.clock.regime = .run) ∧ s.clock.accumulator < 4096

end Sys2Proof.Machine
end

