-- ==== Sys2Proof/Certificates/Slice0/Obligations.lean ====
section
/-! DEFINITION. The statements about the part, for the provers: the queue and what each command may change,
the links, the requests, custody and leases, keys, panel, card, air, relay and clock, and the laws every
step keeps. A clause that says a command changes nothing where its trigger does not hold is the model's choice
(log entry 1), and so is a timer's `due` mark, which stands for an event that has not been taken (log entry 4). -/

open Sys2Proof Sys2Proof.Machine

/-! ## The queue, and what a command may change -/

/-- A step takes the command at the front of the queue and runs it with the queue's rest. The queue, and that it is
taken front first, are the model's own (DESIGN CHOICE, log entry 19); the spec says what each step of the part
holds, whole and indivisible. -/
def Obligations.FrontCommandRuns : Prop :=
  ∀ (c : Instr) (s : State), step { s with pending := c :: s.pending } = exec c s

/-- Every command, in every state, answers a next state; it leaves the queue of waiting commands, and every block
outside its reach, as they stood. That each command answers a next state in every state is the model's own
deduction, the spec naming nothing that stops the part (DEDUCED, log entry 24; where its event cannot take place,
DESIGN CHOICE, log entry 1). The queue, which no command touches, is the model's own (DESIGN CHOICE, log entry
19). The reach of a command is read from the rules that give its effect. -/
def Obligations.CommandsKeepWithinTheirReach : Prop :=
  ∀ (c : Instr) (s : State), ∃ t, exec c s = .next t ∧ t.pending = s.pending
    ∧ ∀ b : Block, b ∉ reach c → b.same s t

/-! ## Clock and timebase (chapter 10) -/

/-- R168: one reference cycle, which is what a step on an empty queue is (log entry 2), adds 125 to the accumulator;
where the sum reaches 4096, that is taken off and part time advances by 1 ms. PART_TIME_TICK lets the rest of
the millisecond pass (log entry 3), so that part time advances by exactly 1 ms and the accumulator stays under
125; relay, policy, tenants and lines stand. Where no event waits to be taken and the lock count does not pass
80 on the way, it does what `millisecond` does, over the 32 or 33 cycles it takes, and nothing else. -/
def Obligations.TimebaseAdvances : Prop :=
  (∀ s : State, s.pending = [] →
      ∃ t, step s = .next t
        ∧ (s.clock.accumulator + 125 < 4096 →
            t.clock.accumulator = s.clock.accumulator + 125 ∧ t.clock.partTime = s.clock.partTime)
        ∧ (4096 ≤ s.clock.accumulator + 125 →
            t.clock.accumulator = s.clock.accumulator + 125 - 4096 ∧ t.clock.partTime = s.clock.partTime + 1))
    ∧ (∀ s : State, s.clock.accumulator < 4096 →
      ∃ t, exec .partTimeTick s = .next t ∧ t.clock.partTime = s.clock.partTime + 1
        ∧ t.clock.accumulator < 125 ∧ t.relay = s.relay ∧ t.policy = s.policy ∧ t.tenants = s.tenants
        ∧ t.lines = s.lines)
    ∧ (∀ (s : State) (cycles : Nat), NothingDue s → s.clock.accumulator < 4096 →
      cycles = (4096 - s.clock.accumulator + 124) / 125 →
      (∀ n, s.clock.fastClock = .locking n → n + cycles ≤ 80) →
      exec .partTimeTick s = .next (millisecond { s with clock := { s.clock with
        accumulator := s.clock.accumulator + 125 * cycles - 4096
        fastClock := match s.clock.fastClock with
          | .locking n => .locking (n + cycles)
          | other => other } }))

/-- R7, R67, R73, R80, R92, R102, R105, R113, R121, R126, R133: what one millisecond of part time does. A timer
advances by 1, or is due where that reaches its limit (log entry 4); quarter timers run in RUN alone, held
timers in RUN and WAKING alone, every other running timer in every regime; a scan falls at the multiples of 4 ms
in RUN and of 32 ms otherwise; and nothing else changes. -/
def Obligations.MillisecondRunsItsTimers : Prop :=
  (∀ (limit : Nat) (t : Timer),
      (t.elapsed + 1 < limit → t.tick limit = { elapsed := t.elapsed + 1, due := false })
        ∧ (limit ≤ t.elapsed + 1 → t.tick limit = { t with due := true }))
    ∧ ∀ s : State, ∃ t, t = millisecond s
      ∧ t.clock = { s.clock with partTime := s.clock.partTime + 1 }
      ∧ (∀ r : Resource, (t.entry r).waiting = (s.entry r).waiting ∧ (t.entry r).standing = (s.entry r).standing)
      ∧ (∀ (r : Resource) (g : Grant), (s.entry r).grant = some g →
          (t.entry r).grant = some (match g.hold with
            | none => if s.clock.regime = .run then
                { g with quarterTimer := g.quarterTimer.tick g.quarterLength } else g
            | some (.byHold n held len p) => if s.clock.regime = .doze then g else
                { g with hold := some (.byHold n (held.tick len) len p) }
            | some (.byDoze _) => g))
      ∧ (∀ l : Link, t.port l = { s.port l with receiver := match (s.port l).receiver with
            | .inFrame bs stall => .inFrame bs (stall.tick 20)
            | other => other })
      ∧ t.keys = { s.keys with
          holdTimer := s.keys.holdTimer.map (Timer.tick s.keys.matching.holdTime)
          scanDue := decide ((s.clock.partTime + 1).toNat % (if s.clock.regime = .run then 4 else 32) = 0) }
      ∧ t.display = { s.display with
          forcedTimer := s.display.forcedTimer.map (Timer.tick 100)
          blinkTimer := s.display.blinkTimer.map fun b => b.tick (if b.elapsed < 500 then 500 else 1000) }
      ∧ t.printer = { s.printer with stallTimer := s.printer.stallTimer.map (Timer.tick 5000) }
      ∧ t.bridge = { s.bridge with
          exchange := (match s.bridge.exchange with
            | .awaiting x w => .awaiting x (w.tick x.timeout)
            | other => other)
          fieldReset := s.bridge.fieldReset.map fun f => { f with timer := f.timer.tick f.interval } }
      ∧ t.air = { s.air with slotTimer := s.air.slotTimer.tick s.air.inForce.slotLength }
      ∧ t.custody.arrivals = s.custody.arrivals ∧ t.custody.pendingTakeover = s.custody.pendingTakeover
      ∧ t.policy = s.policy ∧ t.tenants = s.tenants ∧ t.relay = s.relay ∧ t.lines = s.lines

/-- R169, R175 and R76: the lock, where its 80th cycle falls within the present millisecond (log entry 3), ends
WAKING in RUN with the fast clock LOCKED, no takeover pending, and wake cause and doze entry time absent;
elsewhere the command changes nothing. At a lock that is due, with no takeover pending, each grant under a DOZE
hold record resumes, every other grant stands, the three DOZE_ENDED notices are sent where a doze was ended, and
nothing but clock, custody and ports changes. R62: a pending takeover is carried out at the lock, before its
DOZE_ENDED notices, as R60 gives; the order of the notices to several waiters of one resource, head first, is the
model's choice (DESIGN CHOICE, log entry 29). -/
def Obligations.LockEndsTheDoze : Prop :=
  ((∀ (s : State) (n : Nat), s.clock.regime = .waking → s.clock.fastClock = .locking n →
        s.clock.accumulator < 4096 → 80 - n ≤ cyclesToTick s.clock.accumulator →
        ∃ t, exec .fastClockLock s = .next t ∧ t.clock.regime = .run ∧ t.clock.fastClock = .locked
          ∧ t.clock.wakeCause = none ∧ t.clock.dozeEntry = none ∧ t.custody.pendingTakeover = false)
      ∧ (∀ s : State, s.clock.fastClock = .off ∨ s.clock.fastClock = .locked → exec .fastClockLock s = .next s)
      ∧ (∀ (s : State) (n : Nat), s.clock.fastClock = .locking n →
          cyclesToTick s.clock.accumulator < 80 - n → exec .fastClockLock s = .next s))
    ∧ (∀ (s : State) (n : Nat), s.clock.fastClock = .locking n → 80 ≤ n → s.custody.pendingTakeover = false →
      ∃ t, exec .fastClockLock s = .next t
        ∧ (∀ (r : Resource) (g : Grant), (s.entry r).grant = some g →
            (t.entry r).grant = some
              (match g.hold with
              | some (.byDoze p) =>
                { g with
                  owed := if p = 0 then 0 else 4
                  phase := 0
                  gran := g.pendingGran.getD g.gran
                  pendingGran := none
                  renewed := false
                  hold := none }
              | _ => g))
        ∧ (∀ r : Resource, (t.entry r).waiting = (s.entry r).waiting)
        ∧ (∀ (c : WakeCause) (from_ : BitVec 32), s.clock.wakeCause = some c → s.clock.dozeEntry = some from_ →
            ∀ l : Link, (s.port l).notices.length < 16 →
              (t.port l).notices =
                (s.port l).notices ++ [{ tenant := 0, body := .dozeEnded (.woken c) from_ s.clock.partTime }])
        ∧ (s.clock.wakeCause = none → t.ports = s.ports)
        ∧ t.clock = { s.clock with fastClock := .locked, regime := .run, wakeCause := none, dozeEntry := none }
        ∧ ∀ b : Block, b ∉ Block.clock :: Block.custody :: portBlocks → b.same s t)
    ∧ (∀ (s : State) (n : Nat), s.clock.fastClock = .locking n → 80 ≤ n → s.custody.pendingTakeover = true →
      CustodyLaw s →
      ∃ t, exec .fastClockLock s = .next t ∧ t.custody.pendingTakeover = false ∧ TakenOver s t
        ∧ t.clock = { s.clock with fastClock := .locked, regime := .run, wakeCause := none, dozeEntry := none }
        ∧ ∀ (l : Link) (told : List Notice),
            told = takeoverNotices s t l ++ (match s.clock.wakeCause, s.clock.dozeEntry with
              | some c, some from_ => [{ tenant := 0, body := .dozeEnded (.woken c) from_ s.clock.partTime }]
              | _, _ => []) →
            ((s.port l).notices ++ told).length ≤ 16 → (t.port l).notices = (s.port l).notices ++ told)

/-- R170, R172, R173 and R75: DOZE is refused ALREADY while a doze is pending and BUSY where the part is not quiet,
and is answered OK otherwise, with a doze pending and nothing else changed. When the DOZE reply has been shifted
whole, a part that passes the entry test dozes, its GRANTED entries HELD under DOZE records and its holds by
HOLD kept; a part that fails it stays in its regime and sends DOZE_ENDED ABANDONED on the P-link. What a due
and untaken event becomes at doze entry is DEDUCED: a timer that stops loses its due mark (log entry 21), and a
scan stays due only where part time is a multiple of 32 (R80; log entry 32). -/
def Obligations.DozeIsEnteredOrAbandoned : Prop :=
  (∀ (l : Link) (f : Frame) (s : State), Admitted .doze l f s →
      (s.clock.dozePending = true → exec (.doze l) s = .next (refused l f .already s))
        ∧ (s.clock.dozePending = false →
            (s.bridge.exchange ≠ .idle ∨ (∃ r, (s.entry r).standing = .turnover) ∨ s.printer.fifo ≠ []
              ∨ s.display.target ≠ none) →
            exec (.doze l) s = .next (refused l f .busy s))
        ∧ (s.clock.dozePending = false → s.bridge.exchange = .idle → (∀ r, (s.entry r).standing ≠ .turnover) →
            s.printer.fifo = [] → s.display.target = none →
            exec (.doze l) s = .next (replied l f .ok []
              { dropOldest l s with clock := { s.clock with dozePending := true } })))
    ∧ (∀ (l : Link) (x : InFlight) (s : State), (s.port l).inFlight = some x → x.source = .reply →
      x.phase = .sending x.frame.wireLength → x.frame.isDozeOk = true → s.clock.dozePending = true →
      (EntryTest s → ∃ t, exec (.frameComplete l) s = .next t
          ∧ t.clock = { s.clock with
              dozePending := false, regime := .doze, dozeEntry := some s.clock.partTime, wakeCause := none
              fastClock := if s.printer.inTransmission.isSome then s.clock.fastClock else .off }
          ∧ (∀ (r : Resource) (g : Grant), (s.entry r).grant = some g →
              ∃ g', (t.entry r).grant = some g'
                ∧ (g.hold = none → g' = { g with
                    quarterTimer := { g.quarterTimer with due := false }, hold := some (.byDoze g.phase) })
                ∧ (∀ n held len p, g.hold = some (.byHold n held len p) →
                    g' = { g with hold := some (.byHold n { held with due := false } len p) }))
          ∧ t.keys = { s.keys with scanDue := s.keys.scanDue && decide (s.clock.partTime.toNat % 32 = 0) }
          ∧ (t.port l).inFlight = none ∧ ∀ k : Link, (t.port k).notices = (s.port k).notices)
        ∧ (¬ EntryTest s → ∃ t, exec (.frameComplete l) s = .next t
          ∧ t.clock = { s.clock with dozePending := false } ∧ t.custody = s.custody ∧ (t.port l).inFlight = none
          ∧ ((s.port .p).notices.length < 16 → (t.port .p).notices = (s.port .p).notices
              ++ [{ tenant := 0, body := .dozeEnded .abandoned s.clock.partTime s.clock.partTime }])))

/-! ## Links (chapter 1) -/

/-- R1, R2, R4, R17: select becoming active begins a transfer with the status byte captured and the receiver
HUNTING, and changes nothing else; within a transfer there is no such event. In the status byte RX_ROOM,
OUT_PENDING, LAST_RX, CONDITIONS and REGIME stand in their bits and bit 0 is 0, an outbound source being pending
exactly as R17 lists. The attention line is active exactly where something is pending or an enabled condition is
set (R17). -/
def Obligations.TransferBeginsWithItsStatusByte : Prop :=
  (∀ (l : Link) (s : State),
      ((s.port l).transfer = none → exec (.transferStart l) s = .next (s.setPort l { s.port l with
          transfer := some { status := s.statusByte l, moved := 0, choiceMade := false, shifting := none }
          receiver := .hunting }))
        ∧ ((s.port l).transfer ≠ none → exec (.transferStart l) s = .next s))
    ∧ (∀ (l : Link) (s : State),
      (s.statusByte l).getLsbD 7 = decide ((s.port l).rxBuffer.length < 2)
        ∧ ((s.statusByte l).getLsbD 6 = true ↔
            (s.port l).inFlight ≠ none ∨ (s.port l).replies ≠ [] ∨ (s.port l).notices ≠ []
              ∨ (s.keys.fifo ≠ [] ∧ (s.holder .keypad).map Subject.link = some l)
              ∨ (s.bridge.slot ≠ none ∧ (s.holder .cless).map Subject.link = some l)
              ∨ ∃ c : Fin 32, s.feed l c ≠ [])
        ∧ (s.statusByte l).extractLsb' 4 2 = (match (s.port l).lastRx with
            | .taken => 0 | .checkFailed => 1 | .refusedFull => 2 | .truncated => 3)
        ∧ (s.statusByte l).getLsbD 3 = ((s.port l).conditions &&& (s.port l).enables != 0)
        ∧ (s.statusByte l).extractLsb' 1 2 = (match s.clock.regime with | .run => 0 | .doze => 1 | .waking => 2)
        ∧ (s.statusByte l).getLsbD 0 = false)
    ∧ (∀ (l : Link) (s : State), s.attention l = true ↔
        (s.port l).inFlight ≠ none ∨ (s.port l).replies ≠ [] ∨ (s.port l).notices ≠ []
          ∨ (s.keys.fifo ≠ [] ∧ (s.holder .keypad).map Subject.link = some l)
          ∨ (s.bridge.slot ≠ none ∧ (s.holder .cless).map Subject.link = some l)
          ∨ (∃ c : Fin 32, s.feed l c ≠ []) ∨ (s.port l).conditions &&& (s.port l).enables ≠ 0)

/-- R4: what a whole byte of a transfer does to the receiver, the frame under collection ending neither at this byte
nor by its length; the receive buffer and the last-receive outcome stand. R1, R3: the port shifts out, most
significant bit first, the status byte, then the bytes of the frame that is SENDING, then fill bytes 0x00; a
whole byte advances a frame that is not whole by one. R7, R15: a clock edge begins the byte and restarts the
stall timer, and nothing else where no choice or completion comes first; a byte that has begun is shifted to its
end, though its frame is cancelled. That a frame whose last byte moves is still
held after it, its completion being an event of its own that comes after what the byte brings inbound, is the
model's choice (DESIGN CHOICE, log entries 8 and 33). -/
def Obligations.ArrivingByteMovesTheReceiver : Prop :=
  ∀ (l : Link) (b : Byte) (s : State),
    ((s.port l).transfer = none → exec (.arrivingByte l (.byte b)) s = .next s)
      ∧ ((s.port l).transfer ≠ none →
        (match (s.port l).receiver with
          | .inFrame bs _ =>
            ¬ ((bs ++ [b]).length = 5 ∧ 256 < lengthField (bs ++ [b]))
              ∧ ¬ (5 ≤ (bs ++ [b]).length ∧ (bs ++ [b]).length = 7 + lengthField (bs ++ [b]))
          | _ => True) →
        ∃ t, exec (.arrivingByte l (.byte b)) s = .next t
          ∧ (t.port l).receiver = (match (s.port l).receiver with
              | .hunting => if b = 0xA5 then .inFrame [] { elapsed := 0, due := false } else .hunting
              | .inFrame bs _ => .inFrame (bs ++ [b]) { elapsed := 0, due := false }
              | .discarding => .discarding)
          ∧ (t.port l).rxBuffer = (s.port l).rxBuffer ∧ (t.port l).lastRx = (s.port l).lastRx
          ∧ (t.port l).transfer.map (·.moved) = (s.port l).transfer.map (·.moved + 1))
      ∧ ((s.port l).transfer = none → exec (.arrivingByte l .edge) s = .next s ∧ s.dataOut l = [])
      ∧ ∀ t0 : Transfer, (s.port l).transfer = some t0 →
        (∀ out : Byte, (s.port l).outByte = some out →
            s.dataOut l = (List.range 8).map fun i => out.getLsbD (7 - i))
        ∧ (∀ out : Byte, t0.shifting = some out → (s.port l).outByte = some out
            ∧ ((cancelInFlight l s).port l).inFlight = none ∧ ((cancelInFlight l s).port l).outByte = some out)
        ∧ (t0.shifting = none → t0.moved = 0 → (s.port l).outByte = some t0.status)
        ∧ (t0.shifting = none → t0.moved ≠ 0 →
            (∀ x n, (s.port l).inFlight = some x → x.phase = .sending n →
              (∀ out, x.frame.wire[n]? = some out → (s.port l).outByte = some out)
              ∧ (x.frame.wireLength ≤ n → (s.port l).outByte = some 0))
            ∧ ((∀ x n, (s.port l).inFlight = some x → x.phase ≠ .sending n) → (s.port l).outByte = some 0))
        ∧ (∀ x n, ¬ (t0.moved = 1 ∧ t0.choiceMade = false) → (s.port l).inFlight = some x →
            x.phase = .sending n → n < x.frame.wireLength →
            ∃ t, exec (.arrivingByte l (.byte b)) s = .next t
              ∧ (t.port l).inFlight = some { x with phase := .sending (n + 1) }
              ∧ (t.port l).transfer = some { t0 with moved := t0.moved + 1, shifting := none })
        ∧ (¬ (t0.moved = 1 ∧ t0.choiceMade = false) →
            (∀ x, (s.port l).inFlight = some x → x.phase ≠ .sending x.frame.wireLength) →
            exec (.arrivingByte l .edge) s = .next (s.setPort l { s.port l with
              transfer := some { t0 with shifting := (s.port l).outByte }
              receiver := match (s.port l).receiver with
                | .inFrame bs _ => .inFrame bs { elapsed := 0, due := false }
                | other => other }))

/-- R5 and R174: the second check byte of a frame brings its judgement: a wrong check discards it with CHECK_FAILED
and INPUT_CHECK, a full buffer with REFUSED_FULL and INPUT_FULL, and otherwise it joins the buffer with TAKEN,
which in DOZE is a wake cause. R4 and R7: a length above 256 abandons the frame with CHECK_FAILED and
INPUT_CHECK; the stall timer's expiry discards it with TRUNCATED, INPUT_TRUNCATED and FRAME_STALL. Each leaves
the receiver DISCARDING. That the rows of a judged and of an abandoned frame are the arrival of their byte, so
that ARRIVING_BYTE answers the same state, is the model's choice (DESIGN CHOICE, log entry 8). -/
def Obligations.FramesAreJudgedOrAbandoned : Prop :=
  (∀ (l : Link) (b : Byte) (bs : List Byte) (st : Timer) (s : State),
      (s.port l).transfer ≠ none → (s.port l).receiver = .inFrame bs st →
      5 ≤ bs.length → bs.length + 1 = 7 + lengthField bs →
      ∃ t, exec (.frameReceived l b) s = .next t ∧ exec (.arrivingByte l (.byte b)) s = .next t
        ∧ (t.port l).receiver = .discarding
        ∧ (checkMatches (bs ++ [b]) = false →
            (t.port l).lastRx = .checkFailed ∧ (t.port l).rxBuffer = (s.port l).rxBuffer
              ∧ hasCondition (t.port l).conditions .inputCheck = true)
        ∧ (checkMatches (bs ++ [b]) = true → 2 ≤ (s.port l).rxBuffer.length →
            (t.port l).lastRx = .refusedFull ∧ (t.port l).rxBuffer = (s.port l).rxBuffer
              ∧ hasCondition (t.port l).conditions .inputFull = true)
        ∧ (checkMatches (bs ++ [b]) = true → (s.port l).rxBuffer.length < 2 →
            (t.port l).lastRx = .taken
              ∧ (t.port l).rxBuffer = (s.port l).rxBuffer ++ [collectedFrame (bs ++ [b])]
              ∧ (s.clock.regime = .doze → t.clock.regime = .waking ∧ t.clock.wakeCause = some (.frame l)
                  ∧ t.clock.fastClock = .locking 0)))
    ∧ ((∀ (l : Link) (b : Byte) (bs : List Byte) (st : Timer) (s : State),
        (s.port l).transfer ≠ none → (s.port l).receiver = .inFrame bs st → bs.length = 4 →
        256 < lengthField (bs ++ [b]) →
        ∃ t, exec (.frameLengthAbandoned l b) s = .next t ∧ exec (.arrivingByte l (.byte b)) s = .next t
          ∧ (t.port l).receiver = .discarding ∧ (t.port l).lastRx = .checkFailed
          ∧ (t.port l).rxBuffer = (s.port l).rxBuffer ∧ hasCondition (t.port l).conditions .inputCheck = true)
      ∧ (∀ (l : Link) (bs : List Byte) (st : Timer) (s : State),
        (s.port l).receiver = .inFrame bs st →
        (st.due = true → exec (.frameStall l) s = .next (s.setPort l { s.port l with
            receiver := .discarding, lastRx := .truncated
            conditions := (s.port l).conditions ||| 0x001 ||| 0x008 }))
          ∧ (st.due = false → exec (.frameStall l) s = .next s)))

/-- R1, R4, R6, R14: the end of a transfer leaves the receiver HUNTING; a frame still being collected is TRUNCATED
with its condition; the frame in flight is gone if it was whole and PARKED otherwise. R14 and R151: a frame in
flight that is whole completes: the copy is gone, the bridge leaves RESULT after a CL_RESULT, a relay frame's
channel uses one block less, and any other frame but a DOZE reply changes nothing more; a frame that is not
whole does not complete. -/
def Obligations.FramesInFlightCompleteOrPark : Prop :=
  (∀ (l : Link) (s : State),
      ((s.port l).transfer = none → exec (.transferEnd l) s = .next s)
        ∧ ((s.port l).transfer ≠ none →
          ∃ t, exec (.transferEnd l) s = .next t ∧ (t.port l).transfer = none ∧ (t.port l).receiver = .hunting
            ∧ (t.port l).rxBuffer = (s.port l).rxBuffer ∧ (t.port l).replies = (s.port l).replies
            ∧ (∀ bs st, (s.port l).receiver = .inFrame bs st →
                (t.port l).lastRx = .truncated ∧ hasCondition (t.port l).conditions .inputTruncated = true)
            ∧ ((∀ bs st, (s.port l).receiver ≠ .inFrame bs st) → (t.port l).lastRx = (s.port l).lastRx)
            ∧ (∀ x, (s.port l).inFlight = some x → (t.port l).inFlight =
                if x.phase = .sending x.frame.wireLength then none else some { x with phase := .parked })))
    ∧ (∀ (l : Link) (x : InFlight) (s : State), (s.port l).inFlight = some x →
      (x.phase ≠ .sending x.frame.wireLength → exec (.frameComplete l) s = .next s)
        ∧ (x.phase = .sending x.frame.wireLength →
          (x.source = .notice ∨ x.source = .key ∨ (x.source = .reply ∧ x.frame.isDozeOk = false) →
              exec (.frameComplete l) s = .next (s.setPort l { s.port l with inFlight := none }))
            ∧ (x.source = .clResult → s.bridge.exchange = .result →
              exec (.frameComplete l) s = .next
                { s.setPort l { s.port l with inFlight := none } with
                  bridge := { s.bridge with exchange := .idle, slot := none } })
            ∧ (∀ c : Fin 32, (x.source = .forward c ∧ l = .r)
                  ∨ (x.source = .deliver c ∧ ∃ o, (s.channel c).binding = some o ∧ o.owner.link = l) →
              (s.channel c).binding ≠ none →
              ∃ t, exec (.frameComplete l) s = .next t ∧ (t.port l).inFlight = none
                ∧ s.used c = t.used c + 1 ∧ t.relay = s.relay)))

/-- R12 and R13: in RUN, as the second byte of a transfer begins, the first source that has something gives the
transfer its frame, which leaves its source; outside RUN nothing is chosen; and a transfer chooses once. The
byte that begins there is the frame's sync byte, or a fill byte where there is no frame (R1, R3). -/
def Obligations.ArbiterServesInItsOrder : Prop :=
  ∀ (l : Link) (t0 : Transfer) (s : State), (s.port l).transfer = some t0 →
    (¬ (t0.moved = 1 ∧ t0.choiceMade = false) → exec (.outboundChoice l) s = .next s)
      ∧ (t0.moved = 1 → t0.choiceMade = false →
        ∃ t, exec (.outboundChoice l) s = .next t
          ∧ (∃ out : Byte, (t.port l).transfer = some { t0 with choiceMade := true, shifting := some out }
              ∧ (s.clock.regime = .run → out = if (t.port l).inFlight = none then 0 else 0xA5)
              ∧ (s.clock.regime ≠ .run → (∀ x n, (s.port l).inFlight = some x → x.phase ≠ .sending n) → out = 0))
          ∧ (s.clock.regime ≠ .run → (t.port l).inFlight = (s.port l).inFlight
              ∧ (t.port l).replies = (s.port l).replies ∧ (t.port l).notices = (s.port l).notices
              ∧ t.keys = s.keys ∧ t.bridge = s.bridge ∧ t.relay = s.relay)
          ∧ (s.clock.regime = .run →
            (∀ x, (s.port l).inFlight = some x → (t.port l).inFlight = some { x with phase := .sending 0 }
                ∧ (t.port l).replies = (s.port l).replies ∧ (t.port l).notices = (s.port l).notices)
            ∧ ((s.port l).inFlight = none →
              (∀ n, (s.port l).notices.find? Notice.isStarted = some n →
                (t.port l).inFlight = some { frame := n.frame, source := .notice, phase := .sending 0 }
                  ∧ (t.port l).notices = (s.port l).notices.erase n ∧ (t.port l).replies = (s.port l).replies)
              ∧ ((s.port l).notices.find? Notice.isStarted = none →
                (∀ f rest, (s.port l).replies = f :: rest →
                  (t.port l).inFlight = some { frame := f, source := .reply, phase := .sending 0 }
                    ∧ (t.port l).replies = rest ∧ (t.port l).notices = (s.port l).notices)
                ∧ ((s.port l).replies = [] →
                  (∀ n rest, (s.port l).notices = n :: rest →
                    (t.port l).inFlight = some { frame := n.frame, source := .notice, phase := .sending 0 }
                      ∧ (t.port l).notices = rest)
                  ∧ ((s.port l).notices = [] →
                    (∀ h, s.keySource l = some h →
                      (t.port l).inFlight = some
                          { frame := { kind := 0x4C, tenant := tenantByte h.tenantField, tag := 0
                                       body := keyBody (s.keys.fifo.take 8) }
                            source := .key, phase := .sending 0 }
                        ∧ t.keys.fifo = s.keys.fifo.drop 8)
                    ∧ (s.keySource l = none →
                      (∀ h x, s.resultSource l = some (h, x) →
                        (t.port l).inFlight = some
                            { frame := { kind := 0x54, tenant := tenantByte h.tenantField, tag := 0
                                         body := x.bytes }
                              source := .clResult, phase := .sending 0 }
                          ∧ t.bridge = { s.bridge with slot := none })
                      ∧ (s.resultSource l = none → s.relaySource l = false → (t.port l).inFlight = none
                          ∧ t.keys = s.keys ∧ t.bridge = s.bridge ∧ t.relay = s.relay))))))))

/-- R12, R13, R158, R159: when only relay data waits for a link, the arbiter serves a channel of the highest level
present, the first in turn after the one that link last served at that level; its oldest block becomes the frame
in flight and the record names it. -/
def Obligations.RelayTurnIsFair : Prop :=
  ∀ (l : Link) (t0 : Transfer) (s : State), (s.port l).transfer = some t0 → t0.moved = 1 →
    t0.choiceMade = false → s.clock.regime = .run → (s.port l).inFlight = none → (s.port l).replies = [] →
    (s.port l).notices = [] → s.keySource l = none → s.resultSource l = none → s.relaySource l = true →
    (∀ c, s.channelLevel c < 4) →
    ∃ (t : State) (c : Fin 32) (o : Binding) (d : List Byte) (rest : List (List Byte)) (level : Fin 4),
      exec (.outboundChoice l) s = .next t ∧ (s.channel c).binding = some o ∧ o.level = level.val
        ∧ s.feed l c = d :: rest ∧ t.feed l c = rest
        ∧ (t.port l).inFlight = some
            { frame := { kind := if l = .r then 0x5D else 0x5C
                         tenant := if l = .a then tenantByte o.owner.tenantField else 0, tag := 0
                         body := channelByte c :: (s.channel c).number :: d }
              source := if l = .r then .forward c else .deliver c, phase := .sending 0 }
        ∧ (∀ c', s.feed l c' ≠ [] → s.channelLevel c' ≤ level.val)
        ∧ (∀ c', s.feed l c' ≠ [] → s.channelLevel c' = level.val →
            (c - ((s.relay.lastServed.get l)[level] + 1)).val ≤ (c' - ((s.relay.lastServed.get l)[level] + 1)).val)
        ∧ (t.relay.lastServed.get l)[level] = c
        ∧ (∀ k level', (k, level') ≠ (l, level) →
            (t.relay.lastServed.get k)[level'] = (s.relay.lastServed.get k)[level'])

/-- R3, R4, R5: the bytes of any frame with a body of up to 256 bytes, arriving one after another within a transfer
whose receiver hunts and whose buffer has room, are taken as that frame: what the port would send for it, and
what it reads, agree in every field and every body byte. -/
def Obligations.WireFrameIsTakenWhole : Prop :=
  ∀ (l : Link) (f : Frame) (s : State), (s.port l).transfer ≠ none → (s.port l).receiver = .hunting →
    (s.port l).rxBuffer.length < 2 → f.body.length ≤ 256 →
    ∃ t, execAll (f.wire.map fun b => Instr.arrivingByte l (.byte b)) s = .next t
      ∧ (t.port l).rxBuffer = (s.port l).rxBuffer ++ [f] ∧ (t.port l).lastRx = .taken
      ∧ (t.port l).receiver = .discarding

/-! ## Requests on every link (R8 to R10, R18 to R22) -/

/-- R8, R9 and R10, for every request kind: the first failing admission check decides the refusal (tenant field,
permission, body length, in that order), and a refused request changes nothing but its place and its slot; a
frame of no assigned kind is answered with kind 0x80, BAD_REQUEST and the kind byte. No request but PART_RESET
is processed outside RUN, while all four reply slots are occupied, or from an empty receive buffer. -/
def Obligations.AdmissionRefusesInOrder : Prop :=
  ((∀ (k : ReqKind) (l : Link) (f : Frame) (s : State), Waiting l f s → f.kind = k.code →
        (¬ (if l = .a then f.tenant.toNat < 16 else f.tenant = 0) →
          exec (requestRow k f l) s = .next (refused l f .badRequest s))
        ∧ ((if l = .a then f.tenant.toNat < 16 else f.tenant = 0) → k.permitted l f.tenant = false →
          exec (requestRow k f l) s = .next (refused l f .notPermitted s))
        ∧ ((if l = .a then f.tenant.toNat < 16 else f.tenant = 0) → k.permitted l f.tenant = true →
          k.lengthOk f.body.length = false → exec (requestRow k f l) s = .next (refused l f .badRequest s)))
      ∧ ∀ (l : Link) (f : Frame) (s : State), Waiting l f s → (∀ k : ReqKind, f.kind ≠ k.code) →
          exec (.unknownKind l) s = .next (placeReply l
            { kind := 0x80, tenant := f.tenant, tag := f.tag, body := [0x10, f.kind] } (dropOldest l s)))
    ∧ (∀ (k : ReqKind) (l : Link) (f : Frame) (s : State), k ≠ .partReset →
      s.clock.regime ≠ .run ∨ 4 ≤ (s.port l).replies.length ∨ (s.port l).rxBuffer = [] →
      exec (requestRow k f l) s = .next s ∧ exec (.unknownKind l) s = .next s)

/-- R20: TIME, with its empty body, is taken on every link and from every A-link tenant, and answered OK with part
time as it stands, in four bytes. -/
def Obligations.TimeAnswersPartTime : Prop :=
  ∀ (l : Link) (f : Frame) (s : State), Waiting l f s → f.kind = 0x01 → f.body = [] →
    (if l = .a then f.tenant.toNat < 16 else f.tenant = 0) →
    exec (.time l) s = .next (reported l f
      [s.clock.partTime.extractLsb' 24 8, s.clock.partTime.extractLsb' 16 8, s.clock.partTime.extractLsb' 8 8,
        s.clock.partTime.extractLsb' 0 8] s)

/-- R18: CONDITIONS answers the set as it stood and clears the members named; RADIO_OVERRUN, cleared on the P-link
while a function carries its mark, stands again. R19: CONDITIONS_ENABLE replaces the enable set and leaves the
condition set. A mask with an unused bit is refused. -/
def Obligations.ConditionSetsAreReadAndReplaced : Prop :=
  (∀ (l : Link) (f : Frame) (hi lo : Byte) (s : State), Admitted .conditions l f s → f.body = [hi, lo] →
      (1024 ≤ number2 hi lo → exec (.conditions l) s = .next (refused l f .badRequest s))
        ∧ (number2 hi lo < 1024 → exec (.conditions l) s = .next (replied l f .ok
            (bytes2 (s.port l).conditions.toNat)
            (let u := dropOldest l s
             let clear := BitVec.ofNat 10 (number2 hi lo)
             let left := (s.port l).conditions &&& ~~~clear
             u.setPort l { u.port l with conditions :=
              if l = .p ∧ (s.port l).conditions &&& clear &&& 0x080 ≠ 0
                  ∧ (s.air.grants.cell = .overrun ∨ s.air.grants.wlan = .overrun ∨ s.air.grants.bt = .overrun) then left ||| 0x080
              else left }))))
    ∧ (∀ (l : Link) (f : Frame) (hi lo : Byte) (s : State), Admitted .conditionsEnable l f s → f.body = [hi, lo] →
      (1024 ≤ number2 hi lo → exec (.conditionsEnable l) s = .next (refused l f .badRequest s))
        ∧ (number2 hi lo < 1024 → exec (.conditionsEnable l) s = .next (replied l f .ok [hi, lo]
            (let u := dropOldest l s
             u.setPort l { u.port l with enables := BitVec.ofNat 10 (number2 hi lo) }))))

/-- R21, R64, R163: after a RESTART of the P-link or the A-link, its port holds the RESTART's reply alone, no notice,
no condition and no frame in flight, its domain holds and waits for nothing, its channels are unbound with their
numbers kept, CH_CLOSED RESTART of each going to the R-link in ascending number, the other domain's channels
stand, and policy, tenants, settings, air map and arrivals are kept. R21, R145, R164: after a RESTART of the
R-link, its port is cleared likewise, custody stands, every channel keeps its binding with both queues empty and
no block used, CH_RESET with the blocks it used going to its owner's link, and every radio function that was
GRANTED or OVERRUN is WAITING. R171: a doze is no longer pending where the port discards the DOZE reply. -/
def Obligations.RestartEndsOrResetsADomain : Prop :=
  (∀ (l : Link) (f : Frame) (s : State), Admitted .restart l f s →
      ∃ t, exec (.restart l) s = .next t
        ∧ (((∃ x ∈ (s.port l).replies, x.isDozeOk = true)
            ∨ ∃ x, (s.port l).inFlight = some x ∧ x.source = .reply ∧ x.frame.isDozeOk = true) →
          t.clock = { s.clock with dozePending := false })
        ∧ ((∀ x ∈ (s.port l).replies, x.isDozeOk = false) →
          (∀ x, (s.port l).inFlight = some x → x.source = .reply → x.frame.isDozeOk = false) →
          t.clock = s.clock))
    ∧ (∀ (l : Link) (f : Frame) (s : State), Admitted .restart l f s → l ≠ .r →
      ∃ t, exec (.restart l) s = .next t
        ∧ (t.port l).notices = [] ∧ (t.port l).conditions = 0
        ∧ (CustodyLaw s → ∀ closed : List Notice,
            closed = ((List.finRange 32).filter fun c => (s.channel c).binding.isSome
                && decide ((l = .p ∧ c.val < 4) ∨ (l = .a ∧ 4 ≤ c.val))).map (fun c =>
              ({ tenant := 0, body := .chClosed c (s.channel c).number .restart } : Notice)) →
            ((s.port .r).notices ++ closed).length ≤ 16 → (t.port .r).notices = (s.port .r).notices ++ closed)
        ∧ (t.port l).replies = [replyFrame f [0x00]] ∧ (t.port l).rxBuffer = (s.port l).rxBuffer.tail
        ∧ (t.port l).inFlight = none ∧ (t.port l).enables = (s.port l).enables
        ∧ (t.port l).receiver = (s.port l).receiver ∧ (t.port l).lastRx = (s.port l).lastRx
        ∧ (∀ r : Resource, (∀ g, (t.entry r).grant = some g → g.holder.link ≠ l)
            ∧ ∀ w ∈ (t.entry r).waiting, w.subject.link ≠ l ∧ w ∈ (s.entry r).waiting)
        ∧ (∀ c : Fin 32, (t.channel c).number = (s.channel c).number
            ∧ (t.channel c).binding =
                if (l = .p ∧ c.val < 4) ∨ (l = .a ∧ 4 ≤ c.val) then none else (s.channel c).binding)
        ∧ t.custody.arrivals = s.custody.arrivals ∧ t.custody.pendingTakeover = s.custody.pendingTakeover
        ∧ t.policy = s.policy ∧ t.tenants = s.tenants ∧ t.keys.settings = s.keys.settings
        ∧ t.keys.matching = s.keys.matching ∧ t.printer.separator = s.printer.separator
        ∧ t.bridge.interval = s.bridge.interval ∧ t.bridge.counter = s.bridge.counter
        ∧ t.air.inForce = s.air.inForce ∧ t.air.pendingMap = s.air.pendingMap)
    ∧ (∀ (f : Frame) (s : State), Admitted .restart .r f s →
      ∃ t, exec (.restart .r) s = .next t
        ∧ (t.port .r).replies = [replyFrame f [0x00]] ∧ (t.port .r).inFlight = none
        ∧ ((∀ c b, (s.channel c).binding = some b → b.owner ≠ .rad) →
            (t.port .r).notices = [] ∧ (t.port .r).conditions = 0)
        ∧ (∀ (k : Link) (told : List Notice), k ≠ .r →
            told = (List.finRange 32).flatMap (fun c =>
              ((s.channel c).binding.toList.filter fun b => b.owner.link = k).map fun b =>
                ({ tenant := b.owner.tenantField, body := .chReset c (s.channel c).number (s.used c) } : Notice)) →
            ((s.port k).notices ++ told).length ≤ 16 → (t.port k).notices = (s.port k).notices ++ told)
        ∧ t.custody = s.custody ∧ t.keys = s.keys ∧ t.display = s.display ∧ t.printer = s.printer
        ∧ (∀ c : Fin 32, (t.channel c).number = (s.channel c).number
            ∧ (t.channel c).binding =
                (s.channel c).binding.map (fun b => { b with outbound := [], inbound := [] })
            ∧ t.used c = 0)
        ∧ (∀ fn : RadioFn, t.air.grants.get fn = match s.air.grants.get fn with
            | .granted | .overrun => .waiting
            | g => g)
        ∧ t.air.inForce = s.air.inForce ∧ t.air.pendingMap = s.air.pendingMap ∧ t.air.slot = s.air.slot)

/-- R22, R42, R97, R115, R131, R145, R165, R177: the reset pin, power-up and an admitted PART_RESET, which needs no
reply slot, leave every block at its part-reset value, each port with its STARTED notice alone, and the request
lines at their levels. What becomes of a transfer that the reset cuts is DEDUCED (log entry 15), and a reset pin
that is one event, at its release, is the model's choice (log entry 16). -/
def Obligations.PartResetFromEveryCause : Prop :=
  (∀ s : State, exec .pinReset s = .next { State.reset with
      ports := ⟨resetPort .pin s.ports.p.transfer, resetPort .pin s.ports.a.transfer,
        resetPort .pin s.ports.r.transfer⟩
      air := resetAir s.air.grants, lines := s.lines, pending := s.pending })
    ∧ (∀ s : State, exec .powerUp s = .next { State.reset with
      ports := ⟨resetPort .power s.ports.p.transfer, resetPort .power s.ports.a.transfer,
        resetPort .power s.ports.r.transfer⟩
      air := resetAir s.air.grants, lines := s.lines, pending := s.pending })
    ∧ (∀ (f : Frame) (s : State), s.clock.regime = .run → (s.port .p).rxBuffer.head? = some f →
      f.kind = 0x05 → f.tenant = 0 → f.body = [] →
      exec (.partReset .p) s = .next { State.reset with
        ports := ⟨resetPort .request s.ports.p.transfer, resetPort .request s.ports.a.transfer,
          resetPort .request s.ports.r.transfer⟩
        air := resetAir s.air.grants, lines := s.lines, pending := s.pending })

/-- R24, R28, R42, R97, R99, R115, R131, R133, R145, R165, R177 and the tables at the heads of the chapters: the
values that every block holds in State.reset and after every part reset, the radio requests apart (a request
line that is active leaves its function WAITING); and a RESTART leaves policy and tenant records as they stand. -/
def Obligations.ResetValuesOfEveryBlock : Prop :=
  (∀ s t : State, t = State.reset ∨ exec .pinReset s = .next t ∨ exec .powerUp s = .next t
      ∨ (s.clock.regime = .run ∧ exec (.partReset .p) s = .next t
        ∧ ∃ f, (s.port .p).rxBuffer.head? = some f ∧ f.kind = 0x05 ∧ f.tenant = 0 ∧ f.body = []) →
    t.clock = { accumulator := 0, partTime := 0, fastClock := .locking 0, regime := .waking, dozePending := false
                wakeCause := none, dozeEntry := none }
    ∧ (∀ l : Link, (t.port l).rxBuffer = [] ∧ (t.port l).replies = [] ∧ (t.port l).inFlight = none
        ∧ (t.port l).lastRx = .taken ∧ (t.port l).conditions = 0 ∧ (t.port l).enables = 0x3FF
        ∧ ∃ cause, (t.port l).notices = [{ tenant := 0, body := .started cause }])
    ∧ (∀ r : Resource,
        t.policyOf .pay r = { allow := true, priority := 6, preempt := true, quarterLength := 250
                              grans := ⟨true, true, false⟩, holdLimit := 40 }
        ∧ t.policyOf (.app 0) r = { allow := true, priority := 2, preempt := false, quarterLength := 250
                                    grans := ⟨true, true, true⟩, holdLimit := 40 }
        ∧ (∀ n : Fin 16, n ≠ 0 → t.policyOf (.app n) r =
            { allow := false, priority := 1, preempt := false, quarterLength := 250
              grans := ⟨true, false, false⟩, holdLimit := 0 })
        ∧ t.policyOf .rad r = { allow := false, priority := 0, preempt := false, quarterLength := 250
                                grans := ⟨true, false, false⟩, holdLimit := 0 })
    ∧ t.tenant 0 = { state := .active, allowance := 0 }
    ∧ (∀ n : Fin 16, n ≠ 0 → t.tenant n = { state := .retired, allowance := 0 })
    ∧ (∀ r : Resource, t.entry r = { state := .free, waiting := [] })
    ∧ t.custody.arrivals = 0 ∧ t.custody.pendingTakeover = false
    ∧ (∀ i : Fin 24, t.keys.keys[i] = { standing := .up, count := 0 })
    ∧ t.keys.fifo = [] ∧ t.keys.lossPending = false ∧ t.keys.position = 0 ∧ t.keys.previousPress = none
    ∧ t.keys.holdTimer = none ∧ t.keys.settings = { debounce := 2, wake := .any, echo := false }
    ∧ t.keys.matching = { mode := .off, gapLimit := 1000, holdCode := 1, holdTime := 2000, sequence := [] }
    ∧ t.display = { mux := .app, required := none, target := none, forcedTimer := none, lamp := .dark
                    blinkTimer := none }
    ∧ t.printer = { fifo := [], inTransmission := none, separator := [], phase := .none, separatorCopy := []
                    stallTimer := none, armed := false }
    ∧ t.bridge = { exchange := .idle, slot := none, counter := 0, interval := 10, fieldReset := some
                    { timer := { elapsed := 0, due := false }, interval := 10, forTurnover := false } }
    ∧ t.air.inForce = { slotLength := 5, sets := ⟨0, 0, 0⟩, nfc := 0, tolerant := ⟨false, false, false⟩ }
    ∧ t.air.pendingMap = none ∧ t.air.slot = 0 ∧ t.air.slotTimer.elapsed = 0
    ∧ (∀ fn : RadioFn, t.air.grants.get fn = .idle ∨ t.air.grants.get fn = .waiting)
    ∧ (∀ c : Fin 32, t.channel c = { number := 0, binding := none })
    ∧ (∀ (l : Link) (level : Fin 4), (t.relay.lastServed.get l)[level] = 31))
    ∧ ∀ (l : Link) (s t : State), exec (.restart l) s = .next t → t.policy = s.policy ∧ t.tenants = s.tenants

/-! ## Policy and tenants (chapter 2) -/

/-- R27 and R29: a POLICY_SET whose five tests pass writes the entry with its limited values, carries out its
effects and repeats the fields as applied; one that names RAD, or takes allow or preempt from PAY's KEYPAD or
DISPLAY entry, is refused FIXED; any other failing test is refused BAD_REQUEST. -/
def Obligations.PolicySetWritesLimitedValues : Prop :=
  ∀ (l : Link) (f : Frame) (sc rc ab pb eb qh ql gb hb : Byte) (s : State), Admitted .policySet l f s →
    f.body = [sc, rc, ab, pb, eb, qh, ql, gb, hb] →
    (subjectOf sc = none ∨ 4 ≤ rc.toNat ∨ 2 ≤ ab.toNat ∨ 2 ≤ eb.toNat ∨ gb = 0 ∨ 8 ≤ gb.toNat →
        exec (.policySet l) s = .next (refused l f .badRequest s))
      ∧ ∀ (who : Subject) (r : Resource), subjectOf sc = some who → resourceOf rc = some r → ab.toNat < 2 →
        eb.toNat < 2 → gb ≠ 0 → gb.toNat < 8 →
        (who = .rad ∨ (who = .pay ∧ (r = .keypad ∨ r = .display) ∧ (ab = 0 ∨ eb = 0)) →
          exec (.policySet l) s = .next (refused l f .fixed s))
        ∧ (who ≠ .rad → ¬ (who = .pay ∧ (r = .keypad ∨ r = .display) ∧ (ab = 0 ∨ eb = 0)) →
          ∀ new : PolicyEntry,
          new = { allow := ab = 1, priority := min 7 pb.toNat, preempt := eb = 1
                  quarterLength := max 5 (min 15000 (number2 qh ql))
                  grans := ⟨gb.getLsbD 0, gb.getLsbD 1, gb.getLsbD 2⟩, holdLimit := hb.toNat } →
          ∃ t, exec (.policySet l) s = .next (replied l f
              (if new.priority = pb.toNat ∧ new.quarterLength = number2 qh ql then .ok else .clamped)
              (sc :: rc :: new.bytes) t)
            ∧ t = policyEffects who r (s.policyOf who r) new
                { dropOldest l s with policy := s.policy.write who r new }
            ∧ t.policyOf who r = new
            ∧ ∀ (who' : Subject) (r' : Resource), (who', r') ≠ (who, r) → t.policyOf who' r' = s.policyOf who' r')

/-- R31 to R35 on a holder: a write that withdraws allow ends the grant with REVOKE POLICY; any other moves a
granularity no longer allowed to FULL or the coarsest, drops a pending one no longer allowed and leaves
granularity and phase where the granularity in force stays allowed, ends a hold whose limit is reached, with
HOLD_ENDED, and gives the grant the new priority unless it stands at 8. On a waiter: a write that withdraws
allow tells it WITHDRAWN POLICY and removes its entry; a new priority enters its entry, unless that stands at 8,
and the list is put back in order, every entry keeping its arrival order; any other write changes nothing.
That entries of the same priority and arrival order stay in the order in which they stood is the model's choice
(DESIGN CHOICE, log entry 35). -/
def Obligations.PolicyWriteActsOnTheHolder : Prop :=
  (∀ (who : Subject) (r : Resource) (old new : PolicyEntry) (g : Grant) (s : State),
    (s.entry r).state = .owned g → g.holder = who →
    (old.allow = true → new.allow = false →
        policyEffects who r old new s =
          enterTurnover r .revoked (notifySubject who (.revoke r .policy 0) s))
      ∧ (¬ (old.allow = true ∧ new.allow = false) → findWaiter who (s.entry r).waiting = none →
        ∃ g' : Grant, (policyEffects who r old new s).entry r = { s.entry r with state := .owned g' }
          ∧ g'.holder = g.holder ∧ g'.balance = g.balance ∧ g'.quarterTimer = g.quarterTimer
          ∧ g'.quarterLength = g.quarterLength ∧ g'.order = g.order ∧ g'.returnFlag = g.returnFlag
          ∧ g'.priority = (if new.priority = old.priority ∨ g.priority = 8 then g.priority else new.priority)
          ∧ (new.grans ≠ old.grans → new.grans.has g.gran = false → g'.phase = 0 ∧ g'.pendingGran = none
              ∧ g'.gran = if new.grans.full then .full else if new.grans.half then .half else .quarter)
          ∧ (let pending := if new.grans = old.grans then g.pendingGran else g.pendingGran.filter new.grans.has
             let ends : Prop := new.holdLimit < old.holdLimit
               ∧ ∃ n held len p, g.hold = some (.byHold n held len p) ∧ new.holdLimit ≤ n
             (new.grans = old.grans ∨ new.grans.has g.gran = true →
               (¬ ends → g'.gran = g.gran ∧ g'.phase = g.phase ∧ g'.pendingGran = pending)
               ∧ (ends → g'.gran = pending.getD g.gran ∧ g'.phase = 0 ∧ g'.pendingGran = none))
             ∧ (¬ ends → g'.hold = g.hold ∧ g'.owed = g.owed ∧ g'.renewed = g.renewed
                 ∧ (policyEffects who r old new s).ports = s.ports))
          ∧ (∀ n held len p, g.hold = some (.byHold n held len p) → new.holdLimit < old.holdLimit →
              new.holdLimit ≤ n → g'.hold = none ∧ g'.owed = (if p = 0 then 0 else 4) ∧ g'.phase = 0
                ∧ g'.renewed = false
                ∧ ((s.port who.link).notices.length < 16 →
                  ((policyEffects who r old new s).port who.link).notices = (s.port who.link).notices
                    ++ [{ tenant := who.tenantField
                          body := .holdEnded r g.balance (if p = 0 then 0 else 4) }]))
          ∧ ∀ r' : Resource, r' ≠ r → (policyEffects who r old new s).entry r' = s.entry r'))
    ∧ (∀ (who : Subject) (r : Resource) (old new : PolicyEntry) (s : State), s.holder r ≠ some who →
      (∀ w, findWaiter who (s.entry r).waiting = some w →
        (old.allow = true → new.allow = false → policyEffects who r old new s =
          changeWaiting r ((s.entry r).waiting.filter fun v => v.subject != who)
            (notifySubject who (.withdrawn r .policy) s))
        ∧ (¬ (old.allow = true ∧ new.allow = false) → new.priority ≠ old.priority →
          policyEffects who r old new s =
            changeWaiting r (orderWaiters ((s.entry r).waiting.map fun v =>
              if v.subject = who then { v with priority := if v.priority = 8 then 8 else new.priority } else v)) s)
        ∧ (¬ (old.allow = true ∧ new.allow = false) → new.priority = old.priority →
          policyEffects who r old new s = s))
      ∧ (findWaiter who (s.entry r).waiting = none → policyEffects who r old new s = s))
    ∧ (∀ ws : List Waiter, (orderWaiters ws).Pairwise Waiter.mayLead ∧ (orderWaiters ws).Perm ws)

/-- R30 and R37: POLICY_GET and TENANT_GET answer PAY and APP/0 anything, another tenant its own, and refuse the
rest NOT_PERMITTED; a subject, resource or tenant that names none is refused BAD_REQUEST first. -/
def Obligations.PolicyAndTenantReads : Prop :=
  (∀ (l : Link) (f : Frame) (sc rc : Byte) (s : State), Admitted .policyGet l f s → f.body = [sc, rc] →
      (subjectOf sc = none ∨ 4 ≤ rc.toNat → exec (.policyGet l) s = .next (refused l f .badRequest s))
      ∧ ∀ (who : Subject) (r : Resource), subjectOf sc = some who → resourceOf rc = some r →
        (requester l f.tenant = .pay ∨ requester l f.tenant = .app 0 ∨ requester l f.tenant = who →
          exec (.policyGet l) s = .next (reported l f (sc :: rc :: (s.policyOf who r).bytes) s))
        ∧ (requester l f.tenant ≠ .pay → requester l f.tenant ≠ .app 0 → requester l f.tenant ≠ who →
          exec (.policyGet l) s = .next (refused l f .notPermitted s)))
    ∧ (∀ (l : Link) (f : Frame) (tb : Byte) (s : State), Admitted .tenantGet l f s → f.body = [tb] →
      (16 ≤ tb.toNat → exec (.tenantGet l) s = .next (refused l f .badRequest s))
      ∧ ∀ n : Fin 16, tb.toNat = n.val →
        (requester l f.tenant = .pay ∨ requester l f.tenant = .app 0 ∨ requester l f.tenant = .app n →
          exec (.tenantGet l) s = .next (reported l f
            (if n = 0 then [0, 0, 0, 0]
             else [tb, (s.tenant n).state.code, byte (s.tenant n).allowance, byte (s.tenantCount n)]) s))
        ∧ (requester l f.tenant ≠ .pay → requester l f.tenant ≠ .app 0 → requester l f.tenant ≠ .app n →
          exec (.tenantGet l) s = .next (refused l f .notPermitted s)))

/-- R36, R38, R39: a TENANT_SET that passes writes the record with its limited allowance; a tenant that leaves
ACTIVE then holds and waits for nothing, a tenant that becomes RETIRED owns no channel, and a tenant whose state
stays keeps all it has. The REVOKE and WITHDRAWN notices of a tenant that leaves ACTIVE, in resource-number
order, come before every GRANT of the event (R57). Requests on tenant 0, and by others than PAY and APP/0, are
refused. -/
def Obligations.TenantSetWritesTheRecord : Prop :=
  ∀ (l : Link) (f : Frame) (tb sb ab : Byte) (s : State), Admitted .tenantSet l f s → f.body = [tb, sb, ab] →
    (16 ≤ tb.toNat ∨ (3 ≤ sb.toNat ∧ sb ≠ 255) → exec (.tenantSet l) s = .next (refused l f .badRequest s))
      ∧ (tb = 0 → sb.toNat < 3 ∨ sb = 255 → exec (.tenantSet l) s = .next (refused l f .fixed s))
      ∧ ∀ n : Fin 16, tb.toNat = n.val → n ≠ 0 → (sb.toNat < 3 ∨ sb = 255) →
        (requester l f.tenant ≠ .pay → requester l f.tenant ≠ .app 0 →
          exec (.tenantSet l) s = .next (refused l f .notPermitted s))
        ∧ (requester l f.tenant = .app 0 → (s.tenant n).state = .frozen →
          exec (.tenantSet l) s = .next (refused l f .fixed s))
        ∧ (requester l f.tenant = .app 0 → (s.tenant n).state ≠ .frozen → (sb = 1 ∨ ab ≠ 255) →
          exec (.tenantSet l) s = .next (refused l f .notPermitted s))
        ∧ (requester l f.tenant = .pay
            ∨ (requester l f.tenant = .app 0 ∧ (s.tenant n).state ≠ .frozen ∧ sb ≠ 1 ∧ ab = 255) →
          ∀ st : TenantState,
          st = (if sb = 0 then .active else if sb = 1 then .frozen else if sb = 2 then .retired
            else (s.tenant n).state) →
          ∃ t : State, exec (.tenantSet l) s = .next (replied l f
              (if ab = 255 ∨ ab.toNat ≤ 8 then .ok else .clamped)
              [tb, st.code, byte (if ab = 255 then (s.tenant n).allowance else min ab.toNat 8)] t)
            ∧ t.tenant n = { state := st, allowance := if ab = 255 then (s.tenant n).allowance else min ab.toNat 8 }
            ∧ (∀ n', n' ≠ n → t.tenant n' = s.tenant n')
            ∧ (CustodyLaw s → (s.tenant n).state = .active → st ≠ .active → ∀ r : Resource,
                t.holder r ≠ some (.app n) ∧ findWaiter (.app n) (t.entry r).waiting = none)
            ∧ ((s.tenant n).state = .active → st ≠ .active → ∀ told : List Notice,
                told = [Resource.keypad, .display, .cless, .printer].flatMap (fun r =>
                  if s.holder r = some (.app n) then [{ tenant := n, body := .revoke r .policy 0 }]
                  else if (findWaiter (.app n) (s.entry r).waiting).isSome then
                    [{ tenant := n, body := .withdrawn r .policy }]
                  else []) →
                ((s.port .a).notices ++ told).length ≤ 16 →
                ∃ more, (t.port .a).notices = (s.port .a).notices ++ told ++ more
                  ∧ ∀ m ∈ more, (∃ r o g, m.body = .grant r o g) ∨ ∃ c number, m.body = .chClosed c number .retired)
            ∧ ((s.tenant n).state ≠ .retired → st = .retired → ∀ c b, (t.channel c).binding = some b →
                b.owner ≠ .app n)
            ∧ (st = (s.tenant n).state → t = { dropOldest l s with tenants := t.tenants }))

/-! ## Custody (chapter 3) -/

/-- R46 and R47, and the refusals of R49 and R50: what a CLAIM is refused for, in the order of its tests, and the
answer to a claimant that already holds or waits; each changes nothing, the arrival counter included. -/
def Obligations.ClaimsThatChangeNothing : Prop :=
  ∀ (l : Link) (f : Frame) (rb gb mb fb : Byte) (s : State), Admitted .claim l f s → f.body = [rb, gb, mb, fb] →
    (4 ≤ rb.toNat ∨ 3 ≤ gb.toNat ∨ 2 ≤ mb.toNat ∨ 2 ≤ fb.toNat →
        exec (.claim l) s = .next (refused l f .badRequest s))
      ∧ ∀ (r : Resource) (want : Gran) (who : Subject), resourceOf rb = some r → granOf gb = some want →
        mb.toNat < 2 → fb.toNat < 2 → who = requester l f.tenant →
        (s.mayAct who = false → exec (.claim l) s = .next (refused l f .tenantInactive s))
        ∧ (s.mayAct who = true → (s.policyOf who r).allow = false →
          exec (.claim l) s = .next (refused l f .notPermitted s))
        ∧ (s.mayAct who = true → (s.policyOf who r).allow = true →
          (s.holder r = some who → exec (.claim l) s = .next (refused l f .already s))
          ∧ (s.holder r ≠ some who → ∀ w, findWaiter who (s.entry r).waiting = some w →
            exec (.claim l) s = .next (replied l f .queued
              [rb, byte (positionOf who (s.entry r).waiting), w.gran.code] (dropOldest l s)))
          ∧ (s.holder r ≠ some who → findWaiter who (s.entry r).waiting = none →
            (∀ g, (s.entry r).grant = some g →
              ((s.policyOf who r).preempt = true ∧ g.priority < (s.policyOf who r).priority →
                6 ≤ (s.entry r).waiting.length → exec (.claim l) s = .next (refused l f .listFull s))
              ∧ (¬ ((s.policyOf who r).preempt = true ∧ g.priority < (s.policyOf who r).priority) →
                (mb = 0 → exec (.claim l) s = .next (refused l f .busy s))
                ∧ (mb = 1 → 6 ≤ (s.entry r).waiting.length →
                  exec (.claim l) s = .next (refused l f .listFull s))))
            ∧ ((s.entry r).standing = .turnover →
              (mb = 0 → (∃ w ∈ (s.entry r).waiting, (s.policyOf who r).priority ≤ w.priority) →
                exec (.claim l) s = .next (refused l f .busy s))
              ∧ (mb = 1 → 6 ≤ (s.entry r).waiting.length →
                exec (.claim l) s = .next (refused l f .listFull s)))))

/-- R48, R66: a claim on a FREE resource is granted at once with a fresh lease, its granularity replaced by the
coarsest allowed where it is not allowed; DISPLAY claimed by PAY is queued at position 1 instead, and the panel
is moved first. -/
def Obligations.FreeResourceIsGrantedAtOnce : Prop :=
  ∀ (l : Link) (f : Frame) (rb gb mb fb : Byte) (r : Resource) (want : Gran) (who : Subject) (s : State),
    Admitted .claim l f s → f.body = [rb, gb, mb, fb] → resourceOf rb = some r → granOf gb = some want →
    mb.toNat < 2 → fb.toNat < 2 → who = requester l f.tenant → s.mayAct who = true →
    (s.policyOf who r).allow = true → (s.entry r).state = .free → (s.entry r).waiting = [] →
    let e := s.policyOf who r
    let given := if e.grans.has want then want else e.grans.coarsest
    let g : Grant :=
      { holder := who, priority := e.priority, order := s.custody.arrivals + 1, returnFlag := fb = 1
        gran := given, phase := 0, pendingGran := none, balance := 4, owed := 0, renewed := true
        quarterTimer := { elapsed := 0, due := false }, quarterLength := e.quarterLength, hold := none }
    (¬ (r = .display ∧ who = .pay) →
      ∃ t, exec (.claim l) s = .next t ∧ t.entry r = { state := .owned g, waiting := [] }
        ∧ t.custody.arrivals = s.custody.arrivals + 1
        ∧ (∀ r' : Resource, r' ≠ r → t.entry r' = s.entry r')
        ∧ (t.port l).replies = (s.port l).replies
            ++ [replyFrame f [if e.grans.has want then 0x00 else 0x03, rb, 0, given.code]]
        ∧ (∀ k : Link, (t.port k).notices = (s.port k).notices)
        ∧ (r = .printer → t.printer = { s.printer with armed := false })
        ∧ (r = .keypad → who = .pay → t.keys.position = 0 ∧ t.keys.previousPress = none ∧ t.keys.holdTimer = none))
    ∧ (r = .display ∧ who = .pay → s.display.mux = .app →
      ∃ t, exec (.claim l) s = .next t ∧ (t.entry r).standing = .turnover
        ∧ (t.entry r).waiting = [{ subject := who, priority := e.priority, order := s.custody.arrivals + 1
                                   gran := given, returnFlag := fb = 1, origin := .claim }]
        ∧ t.display.target = some .pay
        ∧ (t.port l).replies = (s.port l).replies
            ++ [replyFrame f [if e.grans.has want then 0x01 else 0x03, rb, 1, given.code]])

/-- R49: a claim by an entry with preempt whose priority is strictly greater than the holder's ends the grant: the
claimant is placed with the next arrival order, the old holder is placed back if its return flag and the room
allow, REVOKE PREEMPTED tells it its position, and the entry's turnover begins. R50: a WAIT claim that does not
preempt, and a NOWAIT claim in TURNOVER that would become the head, join the list at the place their priority
gives, and the reply names it; the grant, if any, stands. R44: an entry joins a list in order at a place where
the list stays in order, and the old list is what is left when the new entry is taken out; that it stands behind
an entry of its own priority and arrival order is the model's choice (DESIGN CHOICE, log entry 35). -/
def Obligations.ClaimsPreemptOrQueue : Prop :=
  (∀ (l : Link) (f : Frame) (rb gb mb fb : Byte) (r : Resource) (want : Gran) (who : Subject) (g : Grant)
        (s : State),
      Admitted .claim l f s → f.body = [rb, gb, mb, fb] → resourceOf rb = some r → granOf gb = some want →
      mb.toNat < 2 → fb.toNat < 2 → who = requester l f.tenant → s.mayAct who = true →
      (s.policyOf who r).allow = true → (s.policyOf who r).preempt = true →
      (s.entry r).grant = some g → g.holder ≠ who → g.priority < (s.policyOf who r).priority →
      findWaiter who (s.entry r).waiting = none → (s.entry r).waiting.length < 6 →
      let e := s.policyOf who r
      let given := if e.grans.has want then want else e.grans.coarsest
      let placed := placeWaiter { subject := who, priority := e.priority, order := s.custody.arrivals + 1
                                  gran := given, returnFlag := fb = 1, origin := .claim } (s.entry r).waiting
      let list := if g.returnFlag = true ∧ placed.length < 6 then
          placeWaiter { subject := g.holder, priority := g.priority, order := g.order, gran := g.gran
                        returnFlag := true, origin := .ret } placed
        else placed
      let u := dropOldest l s
      exec (.claim l) s = .next (replied l f (if e.grans.has want then .queued else .clamped)
        [rb, byte (positionOf who list), given.code]
        (enterTurnover r .revoked (notifySubject g.holder (.revoke r .preempted (positionOf g.holder list))
          ({ u with custody := { u.custody with arrivals := s.custody.arrivals + 1 } }.setWaiting r list)))))
    ∧ (∀ (l : Link) (f : Frame) (rb gb mb fb : Byte) (r : Resource) (want : Gran) (who : Subject) (s : State),
      Admitted .claim l f s → f.body = [rb, gb, mb, fb] → resourceOf rb = some r → granOf gb = some want →
      mb.toNat < 2 → fb.toNat < 2 → who = requester l f.tenant → s.mayAct who = true →
      (s.policyOf who r).allow = true → s.holder r ≠ some who → findWaiter who (s.entry r).waiting = none →
      (s.entry r).waiting.length < 6 → (s.entry r).state ≠ .free →
      (∀ g, (s.entry r).grant = some g →
        mb = 1 ∧ ¬ ((s.policyOf who r).preempt = true ∧ g.priority < (s.policyOf who r).priority)) →
      (mb = 0 → ∀ w ∈ (s.entry r).waiting, w.priority < (s.policyOf who r).priority) →
      let e := s.policyOf who r
      let given := if e.grans.has want then want else e.grans.coarsest
      let list := placeWaiter { subject := who, priority := e.priority, order := s.custody.arrivals + 1
                                gran := given, returnFlag := fb = 1, origin := .claim } (s.entry r).waiting
      let u := dropOldest l s
      exec (.claim l) s = .next (replied l f (if e.grans.has want then .queued else .clamped)
        [rb, byte (positionOf who list), given.code]
        (changeWaiting r list { u with custody := { u.custody with arrivals := s.custody.arrivals + 1 } })))
    ∧ (∀ (w : Waiter) (ws : List Waiter), ws.Pairwise Waiter.mayLead →
      (placeWaiter w ws).Pairwise Waiter.mayLead
        ∧ ∃ before after, placeWaiter w ws = before ++ w :: after ∧ ws = before ++ after
          ∧ (∀ v ∈ before, w.before v = false) ∧ ∀ v ∈ after, w.mayLead v)

/-- R52 and R58: RELEASE by the holder ends the grant with ending kind RELEASED; WITHDRAW removes the requester's
waiting entry and closes the gap; both are refused NOT_HOLDER to a subject without that standing, and
BAD_REQUEST for a resource number above 3. -/
def Obligations.ReleaseAndWithdraw : Prop :=
  ∀ (l : Link) (f : Frame) (rb : Byte) (s : State), f.body = [rb] →
    (Admitted .release l f s →
      (4 ≤ rb.toNat → exec (.release l) s = .next (refused l f .badRequest s))
      ∧ ∀ r : Resource, resourceOf rb = some r →
        (s.holder r ≠ some (requester l f.tenant) → exec (.release l) s = .next (refused l f .notHolder s))
        ∧ (s.holder r = some (requester l f.tenant) →
          exec (.release l) s = .next (replied l f .ok [rb] (enterTurnover r .released (dropOldest l s)))))
    ∧ (Admitted .withdraw l f s →
      (4 ≤ rb.toNat → exec (.withdraw l) s = .next (refused l f .badRequest s))
      ∧ ∀ r : Resource, resourceOf rb = some r →
        (findWaiter (requester l f.tenant) (s.entry r).waiting = none →
          exec (.withdraw l) s = .next (refused l f .notHolder s))
        ∧ (findWaiter (requester l f.tenant) (s.entry r).waiting ≠ none →
          exec (.withdraw l) s = .next (replied l f .ok [rb]
            (changeWaiting r ((s.entry r).waiting.filter fun w => w.subject != requester l f.tenant)
              (dropOldest l s)))))

/-- R56 and R66: at completion an empty list leaves the entry FREE; otherwise the head is granted with a fresh lease
and its allowed granularity, the others move up, and GRANT names its origin. No other entry changes. -/
def Obligations.CompletionGrantsTheHead : Prop :=
  ∀ (r : Resource) (s : State),
    ((s.entry r).waiting = [] →
      (completeTurnover r s).entry r = { state := .free, waiting := [] } ∧ (completeTurnover r s).ports = s.ports)
    ∧ (∀ w rest, (s.entry r).waiting = w :: rest →
      (completeTurnover r s).entry r =
        { state := .owned
            { holder := w.subject, priority := w.priority, order := w.order, returnFlag := w.returnFlag
              gran := if (s.policyOf w.subject r).grans.has w.gran then w.gran
                else (s.policyOf w.subject r).grans.coarsest
              phase := 0, pendingGran := none, balance := 4, owed := 0, renewed := true
              quarterTimer := { elapsed := 0, due := false }
              quarterLength := (s.policyOf w.subject r).quarterLength, hold := none }
          waiting := rest }
      ∧ ((s.port w.subject.link).notices.length < 16 →
        ((completeTurnover r s).port w.subject.link).notices = (s.port w.subject.link).notices
          ++ [{ tenant := w.subject.tenantField
                body := .grant r w.origin (if (s.policyOf w.subject r).grans.has w.gran then w.gran
                  else (s.policyOf w.subject r).grans.coarsest) }]))
    ∧ (∀ r' : Resource, r' ≠ r → (completeTurnover r s).entry r' = s.entry r')
    ∧ (completeTurnover r s).custody.arrivals = s.custody.arrivals

/-- R59: CUSTODY_QUERY answers with the entry's fields in the order of its table, and changes nothing; the resource
is free of a holder, or held, and the list is given head first. What an app tenant (1 to 15) reads of an entry
is the same whichever other APP subjects hold it and wait for it. -/
def Obligations.CustodyQueryShowsWhatTheReaderMaySee : Prop :=
  (∀ (l : Link) (f : Frame) (rb : Byte) (s : State), Admitted .custodyQuery l f s → f.body = [rb] →
      (4 ≤ rb.toNat → exec (.custodyQuery l) s = .next (refused l f .badRequest s))
      ∧ ∀ r : Resource, resourceOf rb = some r →
        let reader := requester l f.tenant
        let tail := byte (s.entry r).waiting.length :: (s.entry r).waiting.flatMap fun w =>
          [shownCode reader w.subject, byte w.priority, w.gran.code, w.origin.code]
        (∀ g, (s.entry r).grant = some g → g.hold = none →
          exec (.custodyQuery l) s = .next (reported l f
            ([rb, 1, shownCode reader g.holder, byte g.priority, g.gran.code, pendingCode g.pendingGran,
              BitVec.ofInt 8 g.balance, byte g.phase, byte g.owed, if g.renewed then 1 else 0]
              ++ bytes2 g.quarterTimer.elapsed ++ [0, 0, 0] ++ tail) s))
        ∧ (∀ g n held len p, (s.entry r).grant = some g → g.hold = some (.byHold n held len p) →
          exec (.custodyQuery l) s = .next (reported l f
            ([rb, 2, shownCode reader g.holder, byte g.priority, g.gran.code, pendingCode g.pendingGran,
              BitVec.ofInt 8 g.balance, byte g.phase, byte g.owed, if g.renewed then 1 else 0]
              ++ bytes2 g.quarterTimer.elapsed ++ [1, byte n, byte p] ++ tail) s))
        ∧ ((s.entry r).grant = none →
          exec (.custodyQuery l) s = .next (reported l f
            ([rb, if (s.entry r).standing = .free then 0 else 3, 0xFE, 0] ++ List.replicate 11 0 ++ tail) s)))
    ∧ (∀ (n : Fin 16) (m : Subject → Subject) (r : Resource) (e : CustodyEntry), n ≠ 0 →
      m .pay = .pay → m .rad = .rad → m (.app n) = .app n →
      (∀ k : Fin 16, k ≠ n → ∃ k' : Fin 16, k' ≠ n ∧ m (.app k) = .app k') →
      custodyBytes (.app n) r (Renamed m e) = custodyBytes (.app n) r e)

/-! ## Leases (chapter 4) -/

/-- R71: RENEW by the holder of a GRANTED resource pays owed quarters first, credits the rest up to +16, adds the
whole weight to the phase, and at phase 0 puts a pending granularity in force; the quarter timer and all else
stand. It is refused HELD in HELD and NOT_HOLDER to others. -/
def Obligations.RenewPaysOwedQuartersFirst : Prop :=
  ∀ (l : Link) (f : Frame) (rb : Byte) (s : State), Admitted .renew l f s → f.body = [rb] →
    (4 ≤ rb.toNat → exec (.renew l) s = .next (refused l f .badRequest s))
    ∧ ∀ r : Resource, resourceOf rb = some r →
      (s.holder r ≠ some (requester l f.tenant) → exec (.renew l) s = .next (refused l f .notHolder s))
      ∧ ∀ g, (s.entry r).grant = some g → g.holder = requester l f.tenant →
        (g.hold ≠ none → exec (.renew l) s = .next (refused l f .held s))
        ∧ (g.hold = none → ∀ w : Nat, w = (match g.gran with | .full => 4 | .half => 2 | .quarter => 1) →
          let paid := min g.owed w
          let phase := (g.phase + w) % 4
          let n : Grant := { g with
            owed := g.owed - paid
            balance := min (g.balance + (w - paid : Nat)) 16
            phase := phase
            renewed := true
            gran := if phase = 0 then g.pendingGran.getD g.gran else g.gran
            pendingGran := if phase = 0 then none else g.pendingGran }
          exec (.renew l) s = .next (replied l f
            (if 16 < g.balance + (w - paid : Nat) then .clamped else .ok)
            [rb, BitVec.ofInt 8 n.balance, byte n.phase, byte n.owed, n.gran.code]
            ((dropOldest l s).setGrant r n)))

/-- R69: SET_GRAIN to the granularity in force clears a pending one; at phase 0 it changes the granularity at once;
at another phase it is pending; a granularity not allowed is refused NOT_PERMITTED. -/
def Obligations.GrainChangesAtPhaseZero : Prop :=
  ∀ (l : Link) (f : Frame) (rb gb : Byte) (s : State), Admitted .setGrain l f s → f.body = [rb, gb] →
    (4 ≤ rb.toNat ∨ 3 ≤ gb.toNat → exec (.setGrain l) s = .next (refused l f .badRequest s))
    ∧ ∀ (r : Resource) (want : Gran), resourceOf rb = some r → granOf gb = some want →
      (s.holder r ≠ some (requester l f.tenant) → exec (.setGrain l) s = .next (refused l f .notHolder s))
      ∧ ∀ g, (s.entry r).grant = some g → g.holder = requester l f.tenant →
        ((s.policyOf g.holder r).grans.has want = false →
          exec (.setGrain l) s = .next (refused l f .notPermitted s))
        ∧ ((s.policyOf g.holder r).grans.has want = true →
          (want = g.gran → exec (.setGrain l) s = .next (replied l f .ok [rb, gb, 0xFF]
            ((dropOldest l s).setGrant r { g with pendingGran := none })))
          ∧ (want ≠ g.gran → g.phase = 0 → exec (.setGrain l) s = .next (replied l f .ok [rb, gb, 0xFF]
            ((dropOldest l s).setGrant r { g with gran := want, pendingGran := none })))
          ∧ (want ≠ g.gran → g.phase ≠ 0 → exec (.setGrain l) s = .next
            (replied l f .pending [rb, g.gran.code, gb]
              ((dropOldest l s).setGrant r { g with pendingGran := some want }))))

/-- R72 and R74: HOLD stops a renewed grant that owes nothing, recording its phase; RESUME ends a hold with the
resume arithmetic; each names what it is refused for, and each leaves balance and quarter timer. A boundary that
is due and not taken as HOLD begins does not come about (R78; DEDUCED, log entry 21). -/
def Obligations.HoldAndResume : Prop :=
  (∀ (l : Link) (f : Frame) (rb : Byte) (s : State), f.body = [rb] → 4 ≤ rb.toNat →
    (Admitted .hold l f s → exec (.hold l) s = .next (refused l f .badRequest s))
      ∧ (Admitted .resume l f s → exec (.resume l) s = .next (refused l f .badRequest s)))
  ∧ ∀ (l : Link) (f : Frame) (rb : Byte) (r : Resource) (s : State), f.body = [rb] → resourceOf rb = some r →
    (Admitted .hold l f s →
      (s.holder r ≠ some (requester l f.tenant) → exec (.hold l) s = .next (refused l f .notHolder s))
      ∧ ∀ g e, (s.entry r).grant = some g → g.holder = requester l f.tenant → e = s.policyOf g.holder r →
        (e.holdLimit = 0 → exec (.hold l) s = .next (refused l f .notPermitted s))
        ∧ (e.holdLimit ≠ 0 → g.renewed = false ∨ g.owed ≠ 0 →
          exec (.hold l) s = .next (refused l f .renewFirst s))
        ∧ (e.holdLimit ≠ 0 → g.renewed = true → g.owed = 0 → g.hold ≠ none →
          exec (.hold l) s = .next (refused l f .already s))
        ∧ (e.holdLimit ≠ 0 → g.renewed = true → g.owed = 0 → g.hold = none →
          exec (.hold l) s = .next (replied l f .ok [rb, byte e.holdLimit]
            ((dropOldest l s).setGrant r { g with
              quarterTimer := { g.quarterTimer with due := false }
              hold := some (.byHold 0 { elapsed := 0, due := false } e.quarterLength g.phase) }))))
    ∧ (Admitted .resume l f s →
      (s.holder r ≠ some (requester l f.tenant) → exec (.resume l) s = .next (refused l f .notHolder s))
      ∧ ∀ g, (s.entry r).grant = some g → g.holder = requester l f.tenant →
        (g.hold = none → exec (.resume l) s = .next (refused l f .notHeld s))
        ∧ (∀ n held len p, g.hold = some (.byHold n held len p) → ∀ g', g' = { g with
              owed := if p = 0 then 0 else 4
              phase := 0
              gran := g.pendingGran.getD g.gran
              pendingGran := none
              renewed := false
              hold := none } →
          exec (.resume l) s = .next (replied l f .ok
            [rb, BitVec.ofInt 8 g.balance, byte g'.owed, g'.gran.code] ((dropOldest l s).setGrant r g'))))

/-- R67 and R68: at a quarter boundary the timer returns to 0 and the quarter length is read afresh; a balance of
−23 lapses the grant, any other falls by 1, with LAPSE_WARN where it reaches −12. No boundary comes about while
the entry is HELD, outside RUN, or before the timer is due. R73: a held quarter, due in RUN or WAKING, is
counted and the held-quarter length read afresh; held quarters that reach the hold limit resume the grant and
send HOLD_ENDED; in DOZE, and for any other entry, none is counted. -/
def Obligations.QuartersCountToTheirLimits : Prop :=
  (∀ (r : Resource) (s : State),
      ((∀ g, (s.entry r).grant = some g → g.hold ≠ none ∨ s.clock.regime ≠ .run ∨ g.quarterTimer.due = false) →
        exec (.quarterBoundary r) s = .next s)
      ∧ ∀ g, (s.entry r).grant = some g → g.hold = none → s.clock.regime = .run → g.quarterTimer.due = true →
        ∀ n : Grant, n = { g with quarterTimer := { elapsed := 0, due := false }
                                  quarterLength := (s.policyOf g.holder r).quarterLength } →
        (g.balance = -23 → exec (.quarterBoundary r) s = .next
            (enterTurnover r .revoked (notifySubject g.holder (.revoke r .lapsed 0) (s.setGrant r n))))
        ∧ (g.balance ≠ -23 → g.balance ≠ -11 →
          exec (.quarterBoundary r) s = .next (s.setGrant r { n with balance := g.balance - 1 }))
        ∧ (g.balance = -11 → exec (.quarterBoundary r) s = .next
            (notifySubject g.holder (.lapseWarn r (-12)) (s.setGrant r { n with balance := -12 }))))
    ∧ (∀ (r : Resource) (s : State),
      ((∀ g n t len p, (s.entry r).grant = some g → g.hold = some (.byHold n t len p) →
          t.due = false ∨ s.clock.regime = .doze) → exec (.heldQuarter r) s = .next s)
      ∧ ∀ g n t len p e, (s.entry r).grant = some g → g.hold = some (.byHold n t len p) → t.due = true →
        s.clock.regime ≠ .doze → e = s.policyOf g.holder r →
        (n + 1 < e.holdLimit → exec (.heldQuarter r) s = .next (s.setGrant r { g with
            hold := some (.byHold (n + 1) { elapsed := 0, due := false } e.quarterLength p) }))
        ∧ (e.holdLimit ≤ n + 1 → exec (.heldQuarter r) s = .next
            (notifySubject g.holder (.holdEnded r g.balance (if p = 0 then 0 else 4)) (s.setGrant r { g with
              owed := if p = 0 then 0 else 4
              phase := 0
              gran := g.pendingGran.getD g.gran
              pendingGran := none
              renewed := false
              hold := none }))))

/-! ## Key unit (chapter 5) -/

/-- R94 and R96: KEY_SETUP and MATCH_SETUP take their limited values and repeat them; MATCH_SETUP also starts the
matcher afresh; a value outside what they allow is refused BAD_REQUEST. Standings, counts and the key FIFO
stand. -/
def Obligations.KeySettingsAreReplaced : Prop :=
  (∀ (l : Link) (f : Frame) (db wb eb : Byte) (s : State), Admitted .keySetup l f s → f.body = [db, wb, eb] →
      (3 ≤ wb.toNat ∨ 2 ≤ eb.toNat → exec (.keySetup l) s = .next (refused l f .badRequest s))
      ∧ (wb.toNat < 3 → eb.toNat < 2 → ∀ d : Nat, d = max 1 (min 4 db.toNat) →
        exec (.keySetup l) s = .next (replied l f (if d = db.toNat then .ok else .clamped) [byte d, wb, eb]
          { dropOldest l s with keys := { s.keys with settings :=
              { debounce := d
                wake := if wb = 0 then .none else if wb = 1 then .any else .matching
                echo := eb = 1 } } })))
    ∧ (∀ (l : Link) (f : Frame) (mb gh gl hc hh hl n : Byte) (es : List Byte) (s : State),
      Admitted .matchSetup l f s → f.body = [mb, gh, gl, hc, hh, hl, n] ++ es →
      (3 ≤ mb.toNat ∨ 6 < n.toNat ∨ es.length ≠ n.toNat ∨ (∃ e ∈ es, 24 < e.toNat) ∨ hc = 0 ∨ 24 < hc.toNat
          ∨ (mb = 1 ∧ n = 0) → exec (.matchSetup l) s = .next (refused l f .badRequest s))
      ∧ (mb.toNat < 3 → n.toNat ≤ 6 → es.length = n.toNat → (∀ e ∈ es, e.toNat ≤ 24) → hc ≠ 0 → hc.toNat ≤ 24 →
        ¬ (mb = 1 ∧ n = 0) → ∀ gap time : Nat, gap = max 100 (min 5000 (number2 gh gl)) →
        time = max 500 (min 10000 (number2 hh hl)) →
        exec (.matchSetup l) s = .next (replied l f
          (if gap = number2 gh gl ∧ time = number2 hh hl then .ok else .clamped)
          ([mb] ++ bytes2 gap ++ [hc] ++ bytes2 time ++ [n] ++ es)
          { dropOldest l s with keys := { s.keys with
              matching := { mode := if mb = 0 then .off else if mb = 1 then .sequence else .hold
                            gapLimit := gap, holdCode := hc.toNat, holdTime := time
                            sequence := es.map BitVec.toNat }
              position := 0, previousPress := none, holdTimer := none } })))

/-- R81 to R83: a scan leaves each key's count and standing as its sensed level, its count and the debounce setting
say: an agreeing key's count is 0; a disagreeing one counts to at most 4 and changes only when the count reaches
the setting; a release accepted leaves the key UP; a press accepted leaves it DOWN where the down set, with this
scan's releases out of it and its presses of lower code in it, holds fewer than two keys, and BLOCKED elsewhere;
and the down set never grows past two. -/
def Obligations.ScanDebouncesEveryKey : Prop :=
  ∀ (d : Nat) (now : BitVec 32) (sample : BitVec 24) (keys : Vector KeyState 24) (i : Fin 24),
    let after := (scanMatrix d now sample keys).keys[i]
    let pressed := sample.getLsbD i.val
    (pressed = (keys[i].standing != .up) → after = { keys[i] with count := 0 })
    ∧ (pressed ≠ (keys[i].standing != .up) → min (keys[i].count + 1) 4 < d →
        after = { keys[i] with count := min (keys[i].count + 1) 4 })
    ∧ (pressed = false → keys[i].standing ≠ .up → d ≤ min (keys[i].count + 1) 4 →
        after = { standing := .up, count := 0 })
    ∧ (pressed = true → keys[i].standing = .up → d ≤ min (keys[i].count + 1) 4 →
        after.count = 0 ∧ (after.standing = .down ∨ after.standing = .blocked)
          ∧ ∀ accepted : Fin 24 → Bool,
            (∀ j : Fin 24, accepted j = true ↔
              sample.getLsbD j.val ≠ (keys[j].standing != .up) ∧ d ≤ min (keys[j].count + 1) 4) →
            (after.standing = .down ↔
              ((List.finRange 24).filter fun j =>
                  (keys[j].standing == .down || keys[j].standing == .suppressed) && !accepted j).length
                + ((List.finRange 24).filter fun j =>
                  decide (j < i) && accepted j && keys[j].standing == .up).length < 2))
    ∧ (downCount keys ≤ 2 → downCount (scanMatrix d now sample keys).keys ≤ 2)

/-- R82, R83: the records of one scan are the releases of the keys that stood DOWN, then the presses of the keys
that became DOWN, each in ascending key code, all with the scan's time stamp. R80, R84, R85: a scan event that
falls in this millisecond debounces the matrix; its records join a KEYPAD holder's FIFO while it has room, the
first of them marked where a loss is pending, and a record beyond the 32nd place leaves a loss pending with
KEYS_LOST on the holder's link; with no holder they are dropped; a key scan that does not fall here changes
nothing. R87: a press sets KEY_ACTIVITY on the A-link while PAY holds KEYPAD with echo on. R95: in DOZE a press
wakes the part under ANY, a match under MATCH. R91, R92: how the matcher takes a record in SEQUENCE and HOLD.
R93, R62: a match of the scan takes KEYPAD and DISPLAY in RUN, every key down becoming suppressed, and is kept
as one pending takeover outside it. That the takeover of a FREE KEYPAD flushes the FIFO, suppresses the keys down
and starts the matcher afresh, as a turnover does, is DEDUCED (log entry 31). That the sample is kept as a level
of the matrix is the model's choice (DESIGN CHOICE, log entry 11). -/
def Obligations.ScanRecordsReachTheFifoInOrder : Prop :=
  (∀ (d : Nat) (now : BitVec 32) (sample : BitVec 24) (keys : Vector KeyState 24),
      let w := scanMatrix d now sample keys
      w.records = ((allKeys.filter fun i =>
          keys[i].standing == .down && w.keys[i].standing == .up).map fun i =>
            { code := i.val + 1, edge := .release, stamp := now.setWidth 16, lostBefore := false })
        ++ ((allKeys.filter fun i =>
          keys[i].standing == .up && w.keys[i].standing == .down).map fun i =>
            { code := i.val + 1, edge := .press, stamp := now.setWidth 16, lostBefore := false }))
    ∧ (∀ (sample : BitVec 24) (h : Subject) (s : State),
      (s.keys.scanDue = false → exec (.keyScan sample) s = .next s)
      ∧ (s.keys.scanDue = true → s.holder .keypad = some h → s.clock.regime = .run →
          s.keys.matching.mode = .off → s.keys.lossPending = false →
          s.keys.fifo.length + (scanMatrix s.keys.settings.debounce s.clock.partTime sample s.keys.keys).records.length
            ≤ 32 →
          ∃ t, exec (.keyScan sample) s = .next t
            ∧ t.keys.keys = (scanMatrix s.keys.settings.debounce s.clock.partTime sample s.keys.keys).keys
            ∧ t.keys.fifo = s.keys.fifo
                ++ (scanMatrix s.keys.settings.debounce s.clock.partTime sample s.keys.keys).records
            ∧ t.keys.scanDue = false ∧ t.lines.matrix = sample ∧ t.custody = s.custody ∧ t.clock = s.clock)
      ∧ (s.keys.scanDue = true → s.holder .keypad = none → s.clock.regime = .run →
          s.keys.matching.mode = .off →
          ∃ t, exec (.keyScan sample) s = .next t ∧ t.keys.fifo = s.keys.fifo
            ∧ t.keys.keys = (scanMatrix s.keys.settings.debounce s.clock.partTime sample s.keys.keys).keys
            ∧ t.ports = s.ports))
    ∧ (∀ (sample : BitVec 24) (h : Subject) (s : State) (w : ScanWork) (room : Nat) (pressed : Bool),
      w = scanMatrix s.keys.settings.debounce s.clock.partTime sample s.keys.keys →
      room = 32 - s.keys.fifo.length → (pressed = true ↔ ∃ r ∈ w.records, r.edge = .press) →
      s.keys.scanDue = true → s.holder .keypad = some h → h = .pay ∨ s.keys.matching.mode = .off →
      ∃ t, exec (.keyScan sample) s = .next t
        ∧ t.keys = { s.keys with
            keys := w.keys, scanDue := false
            fifo := s.keys.fifo ++ (match w.records.take room with
              | [] => []
              | r :: rest => { r with lostBefore := s.keys.lossPending } :: rest)
            lossPending := if room < w.records.length then true
              else if w.records = [] then s.keys.lossPending else false }
        ∧ (∀ l : Link, t.port l = { s.port l with conditions := (s.port l).conditions
            ||| (if room < w.records.length ∧ l = h.link then 0x020 else 0)
            ||| (if pressed = true ∧ h = .pay ∧ s.keys.settings.echo = true ∧ l = .a then 0x040 else 0) })
        ∧ t.clock = (if s.clock.regime = .doze ∧ s.keys.settings.wake = .any ∧ pressed = true then
            { s.clock with wakeCause := some .key, regime := .waking, fastClock := .locking 0 } else s.clock)
        ∧ t.lines = { s.lines with matrix := sample } ∧ t.custody = s.custody)
    ∧ ((∀ (now : BitVec 32) (k : KeyUnit) (r : KeyRecord),
        (k.matching.mode = .sequence → r.edge = .press →
          ∀ (fits : Nat → Bool) (before p : Nat),
          (∀ n, fits n = true ↔ ∃ e, k.matching.sequence[n]? = some e ∧ (e = 0 ∨ e = r.code)) →
          before = (match k.previousPress with
            | some was => if (now - was).toNat ≤ k.matching.gapLimit then k.position else 0
            | none => 0) →
          p = (if fits before then before + 1 else if fits 0 then 1 else 0) →
          matcherStep now k r = (if p = k.matching.sequence.length then
              ({ k with position := 0, previousPress := some now }, true)
            else ({ k with position := p, previousPress := some now }, false)))
        ∧ (k.matching.mode = .hold → matcherStep now k r = ({ k with holdTimer :=
            if r.code ≠ k.matching.holdCode then k.holdTimer
            else match r.edge with
              | .press => some { elapsed := 0, due := false }
              | .release => none }, false))
        ∧ ((k.matching.mode = .off ∨ (k.matching.mode = .sequence ∧ r.edge = .release)) →
          matcherStep now k r = (k, false)))
      ∧ ∀ (sample : BitVec 24) (s : State) (m : KeyUnit × Bool),
        m = matchRecords s.clock.partTime
          (scanMatrix s.keys.settings.debounce s.clock.partTime sample s.keys.keys).records s.keys →
        s.keys.scanDue = true → s.holder .keypad ≠ some .pay →
        (m.2 = false → ∃ t, exec (.keyScan sample) s = .next t ∧ t.custody = s.custody
            ∧ t.keys.position = m.1.position ∧ t.keys.previousPress = m.1.previousPress
            ∧ t.keys.holdTimer = m.1.holdTimer)
        ∧ (m.2 = true → s.clock.regime = .run → CustodyLaw s →
          ∃ t, exec (.keyScan sample) s = .next t ∧ TakenOver s t ∧ t.keys.fifo = []
            ∧ t.keys.position = 0 ∧ t.keys.previousPress = none ∧ t.keys.holdTimer = none
            ∧ ∀ i : Fin 24, t.keys.keys[i].standing ≠ .down)
        ∧ (m.2 = true → s.clock.regime ≠ .run →
          ∃ t, exec (.keyScan sample) s = .next t ∧ t.custody = { s.custody with pendingTakeover := true }
            ∧ t.clock = (match s.clock.regime, s.keys.settings.wake with
              | .doze, .any => { s.clock with wakeCause := some .key, regime := .waking, fastClock := .locking 0 }
              | .doze, .matching =>
                { s.clock with wakeCause := some .matched, regime := .waking, fastClock := .locking 0 }
              | _, _ => s.clock)))

/-- R88, R53, R56: a KEYPAD turnover flushes the FIFO, suppresses the keys DOWN and no others, starts the matcher
afresh, cancels the old holder's KEY frame, and completes in the same event: the entry is FREE, or granted to
the former head. -/
def Obligations.KeypadTurnoverFlushes : Prop :=
  ∀ (k : EndingKind) (h : Subject) (s : State), s.holder .keypad = some h →
    ∃ t, t = enterTurnover .keypad k s ∧ t.keys.fifo = [] ∧ t.keys.lossPending = false ∧ t.keys.position = 0
      ∧ t.keys.previousPress = none ∧ t.keys.holdTimer = none
      ∧ (∀ i : Fin 24, t.keys.keys[i] = { s.keys.keys[i] with standing :=
          if s.keys.keys[i].standing = .down then .suppressed else s.keys.keys[i].standing })
      ∧ (s.inFlightFrom h.link .key = true → (t.port h.link).inFlight = none)
      ∧ (t.entry .keypad).standing ≠ .turnover
      ∧ t.holder .keypad = (s.entry .keypad).waiting.head?.map (·.subject)
      ∧ (t.entry .keypad).waiting = (s.entry .keypad).waiting.tail

/-- R60, R61, R92, R93: the hold timer that reaches the hold time in RUN brings the attention takeover: PAY holds
KEYPAD, and DISPLAY is PAY's, at once where the panel is on PAY already, or, the panel being on APP, in TURNOVER
with PAY alone in its list at priority 8; a resource PAY held already is left as it stands, and a KEYPAD that
changes hands is flushed with its keys down suppressed (for a FREE KEYPAD DEDUCED, log entry 31). Each link gets
the notices of R61 in their order, those of several waiters of one resource head first (DESIGN CHOICE, log entry
29). Outside RUN the match is kept as one pending takeover, and in DOZE, under wake mode MATCH, it wakes the part
(R62, R95). -/
def Obligations.AttentionTakesKeypadAndDisplay : Prop :=
  ∀ (timer : Timer) (s : State), s.keys.holdTimer = some timer →
    (timer.due = false → exec .holdTimerMatch s = .next s)
    ∧ (timer.due = true → s.clock.regime = .run → CustodyLaw s →
        ∃ t, exec .holdTimerMatch s = .next t ∧ t.keys.holdTimer = none ∧ TakenOver s t
          ∧ (s.holder .keypad = some .pay → t.entry .keypad = s.entry .keypad)
          ∧ (s.holder .display = some .pay → t.entry .display = s.entry .display)
          ∧ t.entry .cless = s.entry .cless ∧ t.entry .printer = s.entry .printer
          ∧ (s.holder .keypad ≠ some .pay → t.keys.fifo = [] ∧ ∀ i : Fin 24, t.keys.keys[i] =
              { s.keys.keys[i] with standing :=
                  if s.keys.keys[i].standing = .down then .suppressed else s.keys.keys[i].standing })
          ∧ ∀ l : Link, ((s.port l).notices ++ takeoverNotices s t l).length ≤ 16 →
              (t.port l).notices = (s.port l).notices ++ takeoverNotices s t l)
    ∧ (timer.due = true → s.clock.regime = .waking →
        exec .holdTimerMatch s = .next { s with
          keys := { s.keys with holdTimer := none }, custody := { s.custody with pendingTakeover := true } })
    ∧ (timer.due = true → s.clock.regime = .doze → exec .holdTimerMatch s = .next { s with
          keys := { s.keys with holdTimer := none }, custody := { s.custody with pendingTakeover := true }
          clock := if s.keys.settings.wake = .matching then
              { s.clock with wakeCause := some .matched, regime := .waking, fastClock := .locking 0 }
            else s.clock })

/-! ## Display switch, lamp and printer port (chapter 6) -/

/-- R54 and R100: at a report of the DISPLAY head in TURNOVER, a source the mux already selects completes the
turnover with nothing pending; another source becomes the pending target, the forced-switch timer starting at 0
where none was pending and running on where one was. R101 and R102: a frame-sync edge, or the forced switch at
100 ms, makes the pending target the mux source, clears target, required source and timer, and completes the
DISPLAY turnover; the forced switch sets SYNC_MISSING on the P-link. With no target pending, or no timer due,
nothing changes. R104: a switch makes the lamp DARK on APP, and on PAY STEADY while PAY holds KEYPAD and BLINK
otherwise, a new BLINK beginning at 0. R105: SECLMP is lit for the first 500 ms of each second of BLINK: at 500 the blink timer goes
on and at 1000 it returns to 0; a timer that is not due, or stopped, does nothing. -/
def Obligations.PanelAndLampEvents : Prop :=
  (∀ (k : EndingKind) (s : State), (s.entry .display).state = .turnover k →
      ∀ need : Source, need = (match (s.entry .display).waiting with
        | w :: _ => if w.subject = .pay then .pay else .app
        | [] => .app) →
      (need = s.display.mux → reportDisplayHead s = completeTurnover .display { s with display := { s.display with
          required := none, target := none, forcedTimer := none } })
      ∧ (need ≠ s.display.mux → s.display.target = none → reportDisplayHead s = { s with display := { s.display with
          required := some need, target := some need, forcedTimer := some { elapsed := 0, due := false } } })
      ∧ (need ≠ s.display.mux → s.display.target = some need → reportDisplayHead s = { s with display :=
          { s.display with required := some need } }))
    ∧ (∀ s : State,
      (s.display.target = none → exec .fsyncEdge s = .next s ∧ exec .forcedSwitch s = .next s)
      ∧ (isDue s.display.forcedTimer = false → exec .forcedSwitch s = .next s)
      ∧ ∀ target : Source, s.display.target = some target →
        (∃ t, exec .fsyncEdge s = .next t ∧ t.display.mux = target ∧ t.display.target = none
            ∧ t.display.required = none ∧ t.display.forcedTimer = none
            ∧ t.display.lamp = (if target = .app then .dark
                else if s.holder .keypad = some .pay then .steady else .blink)
            ∧ t.display.blinkTimer = (if target = .app ∨ s.holder .keypad = some .pay then none
                else if s.display.lamp = .blink then s.display.blinkTimer
                else some { elapsed := 0, due := false })
            ∧ t.holder .display = (s.entry .display).waiting.head?.map (·.subject)
            ∧ (t.entry .display).standing ≠ .turnover
            ∧ hasCondition (t.port .p).conditions .syncMissing = hasCondition (s.port .p).conditions .syncMissing)
        ∧ (isDue s.display.forcedTimer = true → ∃ t, exec .forcedSwitch s = .next t ∧ t.display.mux = target
            ∧ t.display.target = none ∧ t.display.required = none ∧ t.display.forcedTimer = none
            ∧ t.display.lamp = (if target = .app then .dark
                else if s.holder .keypad = some .pay then .steady else .blink)
            ∧ t.display.blinkTimer = (if target = .app ∨ s.holder .keypad = some .pay then none
                else if s.display.lamp = .blink then s.display.blinkTimer
                else some { elapsed := 0, due := false })
            ∧ t.holder .display = (s.entry .display).waiting.head?.map (·.subject)
            ∧ (t.entry .display).standing ≠ .turnover ∧ hasCondition (t.port .p).conditions .syncMissing = true))
    ∧ (∀ s : State, s.display.blinkTimer = none → exec .blinkTimer s = .next s)
    ∧ (∀ (s : State) (t0 : Timer), s.display.lamp = .blink → s.display.blinkTimer = some t0 →
      (t0.due = false → exec .blinkTimer s = .next s)
      ∧ (t0.due = true → t0.elapsed = 499 → ∃ t, exec .blinkTimer s = .next t
          ∧ t = { s with display := { s.display with blinkTimer := some { elapsed := 500, due := false } } }
          ∧ s.seclmp = true ∧ t.seclmp = false)
      ∧ (t0.due = true → t0.elapsed = 999 → ∃ t, exec .blinkTimer s = .next t
          ∧ t = { s with display := { s.display with blinkTimer := some { elapsed := 0, due := false } } }
          ∧ s.seclmp = false ∧ t.seclmp = true))

/-- R107, R109, R110: PRINT by the holder appends its body whole and arms the report, or is refused NOT_HOLDER, HELD
or FULL with nothing appended; PRINT_FLUSH by the holder or PAY discards the FIFO and answers how much;
PRINT_SETUP replaces the separator. R106, R108: PRDY takes its level, and becoming active lets the oldest
waiting byte begin; a character that completes within a grant lets the next begin, and the one that leaves the
FIFO empty, with the report armed, sends PRINT_DRAINED. PTXD is idle with no character in transmission, and
otherwise carries start bit, eight data bits least significant first, and stop bit. That the row PRDY_ACTIVE
carries a level is the model's choice (DESIGN CHOICE, log entry 9), and that no character begins while the fast
clock is not LOCKED is DEDUCED from R169 (log entry 26). -/
def Obligations.PrintDataReachesTheTransmitter : Prop :=
  ((∀ (l : Link) (f : Frame) (s : State), Admitted .print l f s →
        (s.holder .printer ≠ some (requester l f.tenant) → exec (.print l) s = .next (refused l f .notHolder s))
        ∧ (s.holder .printer = some (requester l f.tenant) →
          ((s.entry .printer).standing = .held → exec (.print l) s = .next (refused l f .held s))
          ∧ ((s.entry .printer).standing = .granted → 4096 - s.printer.fifo.length < f.body.length →
            exec (.print l) s = .next (refused l f .full s))
          ∧ ((s.entry .printer).standing = .granted → s.printer.fifo.length + f.body.length ≤ 4096 →
            exec (.print l) s = .next (replied l f .ok (bytes2 (4096 - (s.printer.fifo.length + f.body.length)))
              (beginCharacter { dropOldest l s with printer := { s.printer with
                fifo := s.printer.fifo ++ f.body, armed := true } })))))
      ∧ (∀ (l : Link) (f : Frame) (s : State), Admitted .printFlush l f s →
        (s.holder .printer ≠ some (requester l f.tenant) → requester l f.tenant ≠ .pay →
          exec (.printFlush l) s = .next (refused l f .notHolder s))
        ∧ (s.holder .printer = some (requester l f.tenant) ∨ requester l f.tenant = .pay →
          ∃ t, exec (.printFlush l) s = .next (replied l f .ok (bytes2 s.printer.fifo.length) t)
            ∧ t.printer.fifo = [] ∧ t.printer.armed = false ∧ t.printer.separator = s.printer.separator
            ∧ (s.printer.phase = .none → t = { dropOldest l s with printer := { s.printer with
                fifo := [], armed := false } })))
      ∧ (∀ (l : Link) (f : Frame) (s : State), Admitted .printSetup l f s →
        exec (.printSetup l) s = .next (replied l f .ok f.body
          { dropOldest l s with printer := { s.printer with separator := f.body } })))
    ∧ ((∀ (level : Bool) (s : State), (level = false ∨ s.printer.inTransmission ≠ none ∨ s.fastLocked = false) →
        exec (.prdyActive level) s = .next { s with lines := { s.lines with prdy := level } })
      ∧ (∀ s : State, s.printer.inTransmission = none → s.fastLocked = true → s.printer.phase ≠ .separator →
        exec (.prdyActive true) s = .next (match s.printer.fifo with
          | [] => { s with lines := { s.lines with prdy := true } }
          | b :: rest => { s with
              lines := { s.lines with prdy := true }
              printer := { s.printer with inTransmission := some b, fifo := rest } }))
      ∧ (∀ s : State, s.printer.inTransmission = none → exec .characterComplete s = .next s)
      ∧ (∀ (b : Byte) (h : Subject) (s : State), s.printer.inTransmission = some b → s.printer.phase = .none →
        s.clock.regime = .run → s.fastLocked = true → s.holder .printer = some h →
        (s.printer.fifo = [] → s.printer.armed = true → exec .characterComplete s = .next
          (notifySubject h .printDrained { s with printer := { s.printer with
            inTransmission := none, armed := false } }))
        ∧ (s.printer.fifo = [] → s.printer.armed = false → exec .characterComplete s = .next
          { s with printer := { s.printer with inTransmission := none } })
        ∧ (∀ c rest, s.printer.fifo = c :: rest → exec .characterComplete s = .next (if s.lines.prdy then
            { s with printer := { s.printer with inTransmission := some c, fifo := rest } }
          else { s with printer := { s.printer with inTransmission := none } }))))
    ∧ (∀ s : State, (s.printer.inTransmission = none → s.ptxd = [.idle])
      ∧ ∀ b : Byte, s.printer.inTransmission = some b →
        s.ptxd = .start :: ((List.range 8).map fun i => .data (b.getLsbD i)) ++ [.stop])

/-- R111 to R113: a PRINTER turnover keeps the FIFO after RELEASED and discards it after REVOKED, with the report
CLEAR and the stall timer at 0; in DRAIN each character that completes restarts the timer and lets the next byte
begin; once FIFO and transmitter are empty the separator goes out, and after it, or at the stall, the turnover
is complete; the stall discards what is left and sets PRINTER_STALL. R106, R109: PRDY becoming active lets the
next byte of FIFO or separator begin; PRINT_FLUSH ends a DRAIN with no character in transmission, leaves one with
a character, and leaves a separator, the stall timer running on. No character begins while the fast clock is not
LOCKED (R169; DEDUCED, log entry 26). -/
def Obligations.PrinterTurnoverSendsTheSeparator : Prop :=
  (∀ (k : EndingKind) (b : Byte) (s : State), s.printer.inTransmission = some b →
      enterTurnover .printer k s =
        { s.setEntry .printer { s.entry .printer with state := .turnover k } with
          printer := { s.printer with
            armed := false
            stallTimer := some { elapsed := 0, due := false }
            phase := .drain
            fifo := match k with | .released => s.printer.fifo | .revoked => [] } })
    ∧ (∀ (k : EndingKind) (s : State), s.printer.inTransmission = none →
      (k = .revoked ∨ s.printer.fifo = []) →
      (s.printer.separator = [] → (enterTurnover .printer k s).printer.phase = .none
          ∧ (enterTurnover .printer k s).holder .printer = (s.entry .printer).waiting.head?.map (·.subject))
      ∧ (s.printer.separator ≠ [] → (enterTurnover .printer k s).printer.phase = .separator
          ∧ ((enterTurnover .printer k s).entry .printer).standing = .turnover
          ∧ (enterTurnover .printer k s).printer.inTransmission.toList
              ++ (enterTurnover .printer k s).printer.separatorCopy = s.printer.separator))
    ∧ (∀ (b : Byte) (s : State), s.printer.inTransmission = some b → s.printer.phase = .separator →
      s.clock.regime = .run → s.fastLocked = true → s.holder .printer = none →
      (∀ c rest, s.printer.separatorCopy = c :: rest → s.lines.prdy = true →
        exec .characterComplete s = .next { s with printer := { s.printer with
          inTransmission := some c, separatorCopy := rest, stallTimer := some { elapsed := 0, due := false } } })
      ∧ (s.printer.separatorCopy = [] → ∃ t, exec .characterComplete s = .next t ∧ t.printer.phase = .none
          ∧ t.printer.stallTimer = none
          ∧ t.holder .printer = (s.entry .printer).waiting.head?.map (·.subject)))
    ∧ (∀ (c : Byte) (rest : List Byte) (s : State), s.printer.inTransmission = none →
      s.printer.fifo = c :: rest → ∀ begins : Bool, begins = (s.lines.prdy && s.fastLocked) →
      enterTurnover .printer .released s =
        { s.setEntry .printer { s.entry .printer with state := .turnover .released } with
          printer := { s.printer with
            armed := false
            stallTimer := some { elapsed := 0, due := false }
            phase := .drain
            inTransmission := if begins then some c else none
            fifo := if begins then rest else c :: rest } })
    ∧ (∀ (b : Byte) (s : State), s.printer.inTransmission = some b → s.printer.phase = .drain →
      s.clock.regime ≠ .doze → s.holder .printer = none →
      (∀ c rest, s.printer.fifo = c :: rest → ∀ begins : Bool, begins = (s.lines.prdy && s.fastLocked) →
        exec .characterComplete s = .next { s with printer := { s.printer with
          inTransmission := if begins then some c else none
          fifo := if begins then rest else c :: rest
          stallTimer := some { elapsed := 0, due := false } } })
      ∧ (s.printer.fifo = [] → s.printer.separator = [] →
        ∃ t, exec .characterComplete s = .next t ∧ t.printer.phase = .none ∧ t.printer.stallTimer = none
          ∧ t.holder .printer = (s.entry .printer).waiting.head?.map (·.subject))
      ∧ (s.printer.fifo = [] → ∀ c rest, s.printer.separator = c :: rest →
        ∀ begins : Bool, begins = (s.lines.prdy && s.fastLocked) →
        exec .characterComplete s = .next { s with printer := { s.printer with
          phase := .separator
          inTransmission := if begins then some c else none
          separatorCopy := if begins then rest else c :: rest
          stallTimer := some { elapsed := 0, due := false } } }))
    ∧ (∀ s : State, s.printer.inTransmission = none → s.fastLocked = true → s.printer.phase = .separator →
      exec (.prdyActive true) s = .next (match s.printer.separatorCopy with
        | [] => { s with lines := { s.lines with prdy := true } }
        | b :: rest => { s with
            lines := { s.lines with prdy := true }
            printer := { s.printer with inTransmission := some b, separatorCopy := rest } }))
    ∧ (∀ (l : Link) (f : Frame) (s : State), Admitted .printFlush l f s →
      s.holder .printer = some (requester l f.tenant) ∨ requester l f.tenant = .pay →
      (s.printer.phase ≠ .none → s.printer.inTransmission ≠ none →
        exec (.printFlush l) s = .next (replied l f .ok (bytes2 s.printer.fifo.length)
          { dropOldest l s with printer := { s.printer with fifo := [], armed := false } }))
      ∧ (s.printer.phase = .drain → s.printer.inTransmission = none →
        (s.printer.separator = [] → ∃ t,
          exec (.printFlush l) s = .next (replied l f .ok (bytes2 s.printer.fifo.length) t)
            ∧ t.printer.fifo = [] ∧ t.printer.phase = .none ∧ t.printer.stallTimer = none
            ∧ t.holder .printer = (s.entry .printer).waiting.head?.map (·.subject))
        ∧ (∀ c rest, s.printer.separator = c :: rest →
          ∀ begins : Bool, begins = (s.lines.prdy && s.fastLocked) →
          exec (.printFlush l) s = .next (replied l f .ok (bytes2 s.printer.fifo.length)
            { dropOldest l s with printer := { s.printer with
              fifo := [], armed := false, phase := .separator
              inTransmission := if begins then some c else none
              separatorCopy := if begins then rest else c :: rest } }))))
    ∧ (∀ s : State, (isDue s.printer.stallTimer = false ∨ s.printer.phase = .none) →
      exec .printerStall s = .next s)
    ∧ (∀ s : State, isDue s.printer.stallTimer = true → s.printer.phase ≠ .none →
      ∃ t, exec .printerStall s = .next t ∧ t.printer.fifo = [] ∧ t.printer.separatorCopy = []
        ∧ t.printer.phase = .none ∧ t.printer.stallTimer = none
        ∧ t.printer.inTransmission = s.printer.inTransmission
        ∧ hasCondition (t.port .p).conditions .printerStall = true
        ∧ t.holder .printer = (s.entry .printer).waiting.head?.map (·.subject))

/-! ## Contactless bridge (chapter 7) -/

/-- R117 and R128: CL_EXCHANGE is refused NOT_HOLDER, HELD or COLLISION, or arms an exchange with the next number
and its limited values; where the gate stays shut it waits ARMED, and where the gate is open, CLRST inactive and
the fast clock LOCKED it starts; that it waits for the fast clock is DEDUCED from R169 (log entry 26). R139,
R140: the arming withdraws the grants of functions that are not tolerant in an OPEN slot, and RADIO_OVERRUN is
set on the P-link exactly where it does. CL_SETUP takes its limited interval. -/
def Obligations.ExchangeIsArmed : Prop :=
  (∀ (l : Link) (f : Frame) (eb tb : Byte) (command : List Byte) (s : State), Admitted .clExchange l f s →
      f.body = eb :: tb :: command →
      (s.holder .cless ≠ some (requester l f.tenant) →
        exec (.clExchange l) s = .next (refused l f .notHolder s))
      ∧ (s.holder .cless = some (requester l f.tenant) →
        ((s.entry .cless).standing = .held → exec (.clExchange l) s = .next (refused l f .held s))
        ∧ ((s.entry .cless).standing = .granted → s.bridge.exchange ≠ .idle →
          exec (.clExchange l) s = .next (refused l f .collision s))
        ∧ ((s.entry .cless).standing = .granted → s.bridge.exchange = .idle →
          ∀ (expected timeout : Nat) (x : Exchange), expected = min 240 eb.toNat →
          timeout = max 1 (min 250 tb.toNat) →
          x = { owner := requester l f.tenant, number := s.bridge.counter + 1, command := command
                expected := expected, timeout := timeout, discard := false } →
          ∃ t, exec (.clExchange l) s = .next (replied l f
              (if expected = eb.toNat ∧ timeout = tb.toNat then .ok else .clamped)
              [s.bridge.counter + 1, byte expected, byte timeout] t)
            ∧ (let opens : Prop := (s.air.inForce.isOpen s.air.slot = true
                  ∨ (s.air.inForce.isNfc s.air.slot = true ∧ ∀ fn : RadioFn,
                    s.air.inForce.tolerant.get fn = false → s.air.grants.get fn ≠ .granted))
                  ∧ s.bridge.fieldReset = none ∧ s.clock.fastClock = .locked
               (opens → t.bridge = { s.bridge with counter := s.bridge.counter + 1, exchange := .sending x })
               ∧ (¬ opens → t.bridge = { s.bridge with counter := s.bridge.counter + 1, exchange := .armed x }))
            ∧ (∀ fn : RadioFn, t.air.grants.get fn =
                if s.air.grants.get fn = .granted ∧ s.air.inForce.tolerant.get fn = false
                  ∧ s.air.inForce.isOpen s.air.slot = true then .overrun else s.air.grants.get fn)
            ∧ (∀ fn : RadioFn, s.air.grants.get fn = .granted → s.air.inForce.tolerant.get fn = false →
                s.air.inForce.isOpen s.air.slot = true →
                (t.port .p).conditions = (s.port .p).conditions ||| 0x080)
            ∧ ((∀ fn : RadioFn, ¬ (s.air.grants.get fn = .granted ∧ s.air.inForce.tolerant.get fn = false
                  ∧ s.air.inForce.isOpen s.air.slot = true)) →
                (t.port .p).conditions = (s.port .p).conditions)
            ∧ t.custody = s.custody)))
    ∧ (∀ (l : Link) (f : Frame) (b : Byte) (s : State), Admitted .clSetup l f s → f.body = [b] →
      ∀ interval : Nat, interval = max 5 (min 50 b.toNat) →
      exec (.clSetup l) s = .next (replied l f (if interval = b.toNat then .ok else .clamped) [byte interval]
        { dropOldest l s with bridge := { s.bridge with interval := interval } }))

/-- R119, R121, R122: after the WRITE an exchange awaits with its timer at 0, and goes on to RECEIVING where CLRDY
is active at that test or becomes active while it awaits; the timeout expiring first leaves it to the ABORT,
after which CLRDY changes nothing. In every other exchange state these events do nothing to it. R116: CLCLK runs
at the fast clock divided by 16 while WRITE, READ or ABORT is under way and rests otherwise, and CLDO carries the
transaction's code with, for WRITE, length and command, and for READ a fill byte for each byte read. That the row
CLRDY_ACTIVE carries a level and that a state of its own stands for AWAITING with the ABORT under way are the
model's choices (DESIGN CHOICE, log entries 9 and 12); that READ and ABORT wait for the fast clock is DEDUCED
from R169 (log entry 26). -/
def Obligations.ExchangeRunsItsCourse : Prop :=
  ∀ (x : Exchange) (s : State),
    (s.bridge.exchange = .sending x → (s.lines.clrdy = false ∨ s.clock.fastClock ≠ .locked) →
        exec .writeComplete s = .next { s with bridge := { s.bridge with
          exchange := .awaiting x { elapsed := 0, due := false } } })
    ∧ (s.bridge.exchange = .sending x → s.lines.clrdy = true → s.clock.fastClock = .locked →
        exec .writeComplete s = .next { s with bridge := { s.bridge with exchange := .receiving x } })
    ∧ ((∀ y, s.bridge.exchange ≠ .sending y) → exec .writeComplete s = .next s)
    ∧ (∀ t0, s.bridge.exchange = .awaiting x t0 → s.clock.fastClock = .locked →
        exec (.clrdyActive true) s = .next { s with
          lines := { s.lines with clrdy := true }, bridge := { s.bridge with exchange := .receiving x } })
    ∧ (∀ level, ((∀ y t0, s.bridge.exchange ≠ .awaiting y t0) ∨ level = false) →
        exec (.clrdyActive level) s = .next { s with lines := { s.lines with clrdy := level } })
    ∧ (∀ t0, s.bridge.exchange = .awaiting x t0 → t0.due = true → s.clock.fastClock = .locked →
        exec .exchangeTimeout s = .next { s with bridge := { s.bridge with exchange := .aborting x } })
    ∧ ((∀ y t0, s.bridge.exchange = .awaiting y t0 → t0.due = false) → exec .exchangeTimeout s = .next s)
    ∧ (∀ available : Byte,
        (s.bridge.exchange = .sending x → s.clclk = some (50331648 / 16)
          ∧ s.bridge.transaction.map (·.cldo available) = some ([1, byte x.command.length] ++ x.command))
        ∧ (s.bridge.exchange = .receiving x → s.clclk = some (50331648 / 16)
          ∧ s.bridge.transaction.map (·.cldo available)
            = some (2 :: List.replicate (1 + min available.toNat x.expected) 0))
        ∧ (s.bridge.exchange = .aborting x → s.clclk = some (50331648 / 16)
          ∧ s.bridge.transaction.map (·.cldo available) = some [3])
        ∧ ((∀ y, s.bridge.exchange ≠ .sending y ∧ s.bridge.exchange ≠ .receiving y ∧ s.bridge.exchange ≠ .aborting y) →
          s.clclk = none ∧ s.bridge.transaction = none))

/-- R121 to R123: an exchange ends DONE with the available length, as many bytes as were expected, and the truncated
flag where more were available, or TIMEOUT with nothing; a marked one leaves no result and the field reset of
the turnover begins. Either way each WAITING radio function is judged in that event (R137). The state `aborting`,
in which ABORT_COMPLETE comes about, is the model's choice (DESIGN CHOICE, log entry 12). -/
def Obligations.ExchangeEndsWithItsResult : Prop :=
  ∀ (x : Exchange) (s : State),
    (∀ (available : Byte) (response : List Byte), s.bridge.exchange = .receiving x →
      response.length = available.toNat →
      ∃ t, exec (.readComplete available response) s = .next t
        ∧ (x.discard = false → t.bridge = { s.bridge with
            exchange := .result
            slot := some { owner := x.owner, number := x.number, outcome := .done
                           truncated := decide (x.expected < response.length), available := available
                           response := response.take x.expected } })
        ∧ (x.discard = true → t.bridge = { s.bridge with
            exchange := .idle
            fieldReset := some { timer := { elapsed := 0, due := false }, interval := s.bridge.interval
                                 forTurnover := true } })
        ∧ ∀ fn : RadioFn, t.air.grants.get fn = if s.air.grants.get fn = .waiting
            ∧ (s.air.inForce.owns fn s.air.slot = true ∨ s.air.inForce.isOpen s.air.slot = true) then .granted
            else s.air.grants.get fn)
    ∧ (s.bridge.exchange = .aborting x →
      ∃ t, exec .abortComplete s = .next t
        ∧ (x.discard = false → t.bridge = { s.bridge with
            exchange := .result
            slot := some { owner := x.owner, number := x.number, outcome := .timeout, truncated := false
                           available := 0, response := [] } })
        ∧ (x.discard = true → t.bridge = { s.bridge with
            exchange := .idle
            fieldReset := some { timer := { elapsed := 0, due := false }, interval := s.bridge.interval
                                 forTurnover := true } })
        ∧ ∀ fn : RadioFn, t.air.grants.get fn = if s.air.grants.get fn = .waiting
            ∧ (s.air.inForce.owns fn s.air.slot = true ∨ s.air.inForce.isOpen s.air.slot = true) then .granted
            else s.air.grants.get fn)
    ∧ ((∀ y, s.bridge.exchange ≠ .receiving y) → ∀ a r, exec (.readComplete a r) s = .next s)
    ∧ ((∀ y, s.bridge.exchange ≠ .aborting y) → exec .abortComplete s = .next s)

/-- R125, R15: as CLESS enters TURNOVER an exchange in flight is marked and runs on; in any other state the exchange
or result is dropped, with the copy in flight cancelled, and the field reset begins at once with the interval as
it stands. R126 and R129: a field reset expires at its interval: CLRST goes inactive, a turnover it was begun
for completes, and an ARMED exchange may start; an edge on CLFEV while CLRST is inactive sends FIELD to the
CLESS holder, or PAY, and in DOZE wakes the part; while CLRST is active it sends nothing. -/
def Obligations.CardTurnoverAndFieldReset : Prop :=
  (∀ (k : EndingKind) (h : Subject) (s : State), s.holder .cless = some h →
      let t := enterTurnover .cless k s
      (t.entry .cless).standing = .turnover ∧ (t.entry .cless).waiting = (s.entry .cless).waiting
      ∧ (s.bridge.isInFlight = true → t.bridge.fieldReset = s.bridge.fieldReset ∧ t.bridge.isInFlight = true
          ∧ t.bridge.record = s.bridge.record.map fun x => { x with discard := true })
      ∧ (s.bridge.isInFlight = false → t.bridge.exchange = .idle
          ∧ t.bridge.fieldReset = some { timer := { elapsed := 0, due := false }, interval := s.bridge.interval
                                         forTurnover := true })
      ∧ (s.bridge.exchange = .result → t.bridge.slot = none
          ∧ (s.inFlightFrom h.link .clResult = true → (t.port h.link).inFlight = none)))
    ∧ ((∀ (r : FieldReset) (s : State), s.bridge.fieldReset = some r →
        (r.timer.due = false → exec .fieldResetExpiry s = .next s)
        ∧ (r.timer.due = true → ∃ t, exec .fieldResetExpiry s = .next t ∧ t.clrst = false
            ∧ (r.forTurnover = true →
                t.holder .cless = (s.entry .cless).waiting.head?.map (·.subject)
                  ∧ (t.entry .cless).waiting = (s.entry .cless).waiting.tail)
            ∧ (r.forTurnover = false → t.custody = s.custody ∧ t.ports = s.ports)
            ∧ (∀ x, s.bridge.exchange = .armed x → s.gateOpen = true → s.clock.fastClock = .locked →
                t.bridge.exchange = .sending x)))
      ∧ (∀ s : State, s.bridge.fieldReset = none → exec .fieldResetExpiry s = .next s)
      ∧ (∀ (level : Bool) (s : State),
        (level = s.lines.clfev → exec (.clfevEdge level) s = .next s)
        ∧ (level ≠ s.lines.clfev → s.bridge.fieldReset ≠ none →
          exec (.clfevEdge level) s = .next { s with lines := { s.lines with clfev := level } })
        ∧ (level ≠ s.lines.clfev → s.bridge.fieldReset = none →
          ∃ t, exec (.clfevEdge level) s = .next t ∧ t.lines.clfev = level
            ∧ (∀ who, who = (s.holder .cless).getD .pay → (s.port who.link).notices.length < 16 →
                (t.port who.link).notices = (s.port who.link).notices
                  ++ [{ tenant := who.tenantField, body := .field level (s.clock.partTime.setWidth 16) }])
            ∧ (s.clock.regime ≠ .doze → t.clock = s.clock)
            ∧ (s.clock.regime = .doze → t.clock =
                { s.clock with wakeCause := some .field, regime := .waking, fastClock := .locking 0 }))))

/-! ## Air schedule (chapter 8) -/

/-- R134 and R143: AIR_MAP is refused BAD_REQUEST, OVERLAP or NO_AIR_TIME, or becomes the pending map with its
limited slot length, the map in force standing; AIR_QUERY answers the map in force, the position, whether a map
is pending and the grant states. -/
def Obligations.AirMapBecomesPending : Prop :=
  (∀ (l : Link) (f : Frame) (lb ch cl wh wl bh bl nh nl tb : Byte) (s : State), Admitted .airMap l f s →
      f.body = [lb, ch, cl, wh, wl, bh, bl, nh, nl, tb] →
      ∀ m : AirMap, m = { slotLength := max 1 (min 20 lb.toNat), sets := ⟨ch ++ cl, wh ++ wl, bh ++ bl⟩
                          nfc := nh ++ nl, tolerant := ⟨tb.getLsbD 0, tb.getLsbD 1, tb.getLsbD 2⟩ } →
      let shared : Prop :=
        ∃ i : Fin 16, 2 ≤ ([m.owns .cell i, m.owns .wlan i, m.owns .bt i, m.isNfc i].filter id).length
      let free : Prop := ∃ i : Fin 16, m.isNfc i = true ∨ m.isOpen i = true
      (8 ≤ tb.toNat → exec (.airMap l) s = .next (refused l f .badRequest s))
      ∧ (tb.toNat < 8 → shared → exec (.airMap l) s = .next (refused l f .overlap s))
      ∧ (tb.toNat < 8 → ¬ shared → ¬ free → exec (.airMap l) s = .next (refused l f .noAirTime s))
      ∧ (tb.toNat < 8 → ¬ shared → free → exec (.airMap l) s = .next (replied l f
          (if m.slotLength = lb.toNat then .ok else .clamped)
          ([byte m.slotLength, ch, cl, wh, wl, bh, bl, nh, nl, tb] ++ [byte (16 - s.air.slot.val)])
          { dropOldest l s with air := { s.air with pendingMap := some m } })))
    ∧ (∀ (l : Link) (f : Frame) (s : State), Admitted .airQuery l f s →
      exec (.airQuery l) s = .next (reported l f (s.air.inForce.bytes ++ [byte s.air.slot.val,
        byte s.air.slotTimer.elapsed, if s.air.pendingMap = none then 0 else 1, s.air.grants.cell.code,
        s.air.grants.wlan.code, s.air.grants.bt.code]) s))

/-- R136: which slots are eligible for a radio function: its own set always; another function's set, or the NFC set,
never; an OPEN slot with no exchange ARMED or in flight, or for a tolerant function beside an ARMED one. -/
def Obligations.SlotEligibility : Prop :=
  ∀ (fn : RadioFn) (s : State),
    (s.air.inForce.owns fn s.air.slot = true → s.eligible fn = true)
    ∧ (s.air.inForce.owns fn s.air.slot = false →
        (s.air.inForce.isNfc s.air.slot = true ∨ ∃ g : RadioFn, s.air.inForce.owns g s.air.slot = true) →
        s.eligible fn = false)
    ∧ ((∀ g : RadioFn, s.air.inForce.owns g s.air.slot = false) → s.air.inForce.isNfc s.air.slot = false →
        ((∃ x, s.bridge.exchange = .armed x) → s.eligible fn = s.air.inForce.tolerant.get fn)
        ∧ ((∃ x t0, s.bridge.exchange = .sending x ∨ s.bridge.exchange = .awaiting x t0
            ∨ s.bridge.exchange = .aborting x ∨ s.bridge.exchange = .receiving x) → s.eligible fn = false)
        ∧ (s.bridge.exchange = .idle ∨ s.bridge.exchange = .result → s.eligible fn = true))

/-- R133, R135, R137, R139: a slot boundary advances the slot, puts a pending map in force at a frame start, and
then each function keeps or gains its grant in an eligible slot, or has it withdrawn with an overrun mark and
RADIO_OVERRUN; an ARMED exchange then starts where the new slot and grants leave the gate open and CLRST is inactive
(R118, R141), and the fast clock is LOCKED; before the slot timer is due nothing happens. R137, R138, R141: a
request rising from IDLE waits, and is granted at once where it may transmit; a request falling goes to IDLE with
its grant or mark gone, starting an ARMED exchange where that opens the gate with CLRST inactive and the fast
clock LOCKED, and leaving it ARMED elsewhere; a line that does not change does nothing. That the start waits for
the fast clock is DEDUCED from R169 (log entry 26). -/
def Obligations.GrantsFollowSlotsAndRequests : Prop :=
  (∀ s : State,
      (s.air.slotTimer.due = false → exec .slotBoundary s = .next s)
      ∧ (s.air.slotTimer.due = true → ∀ u : State,
          u = { s with air := { s.air with
            slot := s.air.slot + 1
            slotTimer := { elapsed := 0, due := false }
            inForce := if s.air.slot = 15 then s.air.pendingMap.getD s.air.inForce else s.air.inForce
            pendingMap := if s.air.slot = 15 then none else s.air.pendingMap } } →
          ∃ t, exec .slotBoundary s = .next t
            ∧ t.air.slot = u.air.slot ∧ t.air.slotTimer = u.air.slotTimer ∧ t.air.inForce = u.air.inForce
            ∧ t.air.pendingMap = u.air.pendingMap
            ∧ (∀ fn : RadioFn, t.air.grants.get fn =
                match s.air.grants.get fn with
                | .idle => .idle
                | .overrun => .overrun
                | .waiting => if u.eligible fn = true ∧ (u.air.inForce.tolerant.get fn = true
                    ∨ u.bridge.isInFlight = false) then .granted else .waiting
                | .granted => if u.eligible fn = true ∧ (u.air.inForce.tolerant.get fn = true
                    ∨ u.bridge.isInFlight = false) then .granted else .overrun)
            ∧ (∀ fn : RadioFn, s.air.grants.get fn = .granted → t.air.grants.get fn = .overrun →
                hasCondition (t.port .p).conditions .radioOverrun = true)
            ∧ ((∀ x, s.bridge.exchange ≠ .armed x) → t.bridge = s.bridge)
            ∧ (∀ (x : Exchange) (opens : Prop), s.bridge.exchange = .armed x →
                (opens ↔ (u.air.inForce.isNfc u.air.slot = true ∨ u.air.inForce.isOpen u.air.slot = true)
                  ∧ (∀ fn : RadioFn, u.air.inForce.tolerant.get fn = false → t.air.grants.get fn ≠ .granted)
                  ∧ s.bridge.fieldReset = none ∧ s.clock.fastClock = .locked) →
                (opens → t.bridge = { s.bridge with exchange := .sending x })
                  ∧ (¬ opens → t.bridge = s.bridge))))
    ∧ (∀ (fn : RadioFn) (s : State),
      (s.air.grants.get fn ≠ .idle → exec (.txRequestRise fn) s = .next s)
      ∧ (s.air.grants.get fn = .idle → exec (.txRequestRise fn) s = .next { s with air := { s.air with
          grants := s.air.grants.set fn (if s.eligible fn = true ∧ (s.air.inForce.tolerant.get fn = true
            ∨ s.bridge.isInFlight = false) then .granted else .waiting) } })
      ∧ (s.air.grants.get fn = .idle → exec (.txRequestFall fn) s = .next s)
      ∧ (s.air.grants.get fn ≠ .idle →
          (s.air.grants.get fn ≠ .granted ∨ s.air.inForce.tolerant.get fn = true ∨ s.bridge.isArmed = false) →
          exec (.txRequestFall fn) s = .next { s with air := { s.air with grants := s.air.grants.set fn .idle } })
      ∧ (∀ x, s.air.grants.get fn = .granted → s.air.inForce.tolerant.get fn = false →
          s.bridge.exchange = .armed x → s.bridge.fieldReset = none → s.clock.fastClock = .locked →
          (s.air.inForce.isNfc s.air.slot = true ∨ s.air.inForce.isOpen s.air.slot = true) →
          (∀ g : RadioFn, g ≠ fn → s.air.grants.get g = .granted → s.air.inForce.tolerant.get g = true) →
          exec (.txRequestFall fn) s = .next { s with
            air := { s.air with grants := s.air.grants.set fn .idle }
            bridge := { s.bridge with exchange := .sending x } })
      ∧ (∀ x, s.air.grants.get fn = .granted → s.air.inForce.tolerant.get fn = false →
          s.bridge.exchange = .armed x →
          ¬ (s.bridge.fieldReset = none ∧ s.clock.fastClock = .locked
            ∧ (s.air.inForce.isNfc s.air.slot = true ∨ s.air.inForce.isOpen s.air.slot = true)
            ∧ ∀ g : RadioFn, g ≠ fn → s.air.grants.get g = .granted → s.air.inForce.tolerant.get g = true) →
          exec (.txRequestFall fn) s = .next { s with
            air := { s.air with grants := s.air.grants.set fn .idle } }))

/-! ## Radio relay (chapter 9) -/

/-- R152 and R153: what a CH_BIND is refused for, in the order of its tests, and the bind: the record is BOUND with
the next binding number, the limited values and empty queues, and CH_OPEN goes to the R-link. R154, R155:
CH_UNBIND is refused BAD_REQUEST, NOT_PERMITTED or NOT_BOUND, or leaves the channel UNBOUND with its number
kept, none of its frames in flight, no block used, every other channel as it stood, and answers the blocks it
freed; CH_CLOSED UNBIND goes to the R-link, and to the owner's link where the owner is not the requester. -/
def Obligations.ChannelsAreBoundAndUnbound : Prop :=
  (∀ (l : Link) (f : Frame) (cb tb kb lb rb mb : Byte) (s : State), Admitted .chBind l f s →
      f.body = [cb, tb, kb, lb, rb, mb] →
      (32 ≤ cb.toNat ∨ 3 ≤ kb.toNat ∨ 16 ≤ tb.toNat ∨ (kb = 0 ↔ 4 ≤ cb.toNat) ∨ (kb = 2 ↔ tb = 0) →
          exec (.chBind l) s = .next (refused l f .badRequest s))
      ∧ ∀ (c : Fin 32) (n : Fin 16) (cls : ChanClass), cb.toNat = c.val → tb.toNat = n.val → classOf kb = some cls →
        (kb = 0 ↔ c.val < 4) → (kb = 2 ↔ n ≠ 0) →
        ∀ binder, binder = (if c.val < 4 then Subject.pay else .app 0) →
        (requester l f.tenant ≠ binder → exec (.chBind l) s = .next (refused l f .notPermitted s))
        ∧ (requester l f.tenant = binder →
          (kb = 2 → (s.tenant n).state ≠ .active → exec (.chBind l) s = .next (refused l f .tenantInactive s))
          ∧ (kb = 2 → (s.tenant n).state = .active → (s.tenant n).allowance ≤ s.tenantCount n →
            exec (.chBind l) s = .next (refused l f .notPermitted s))
          ∧ ((kb = 2 → (s.tenant n).state = .active ∧ s.tenantCount n < (s.tenant n).allowance) →
            ((s.channel c).binding ≠ none → exec (.chBind l) s = .next (refused l f .already s))
            ∧ ((s.channel c).binding = none → ∀ b : Binding,
              b = { owner := if kb = 0 then .pay else .app n, cls := cls
                    level := min lb.toNat (if kb = 0 then 3 else if kb = 1 then 2 else 1)
                    reserve := min 8 rb.toNat, ceiling := max (min 8 rb.toNat) (min 32 mb.toNat)
                    outbound := [], inbound := [] } →
              (64 < s.reserveSum + b.reserve ∨ s.sharedFree < b.reserve →
                exec (.chBind l) s = .next (refused l f .noReserve s))
              ∧ (s.reserveSum + b.reserve ≤ 64 → b.reserve ≤ s.sharedFree →
                exec (.chBind l) s = .next (replied l f
                  (if b.level = lb.toNat ∧ b.reserve = rb.toNat ∧ b.ceiling = mb.toNat then .ok else .clamped)
                  [cb, tb, kb, byte b.level, byte b.reserve, byte b.ceiling, (s.channel c).number + 1]
                  (notify .r { tenant := 0, body := .chOpen c ((s.channel c).number + 1) cls b.level }
                    ((dropOldest l s).setChannel c
                      { number := (s.channel c).number + 1, binding := some b }))))))))
    ∧ (∀ (l : Link) (f : Frame) (cb : Byte) (s : State), Admitted .chUnbind l f s → f.body = [cb] →
      (32 ≤ cb.toNat → exec (.chUnbind l) s = .next (refused l f .badRequest s))
      ∧ ∀ c : Fin 32, cb.toNat = c.val → ∀ binder, binder = (if c.val < 4 then Subject.pay else .app 0) →
        (requester l f.tenant ≠ binder → exec (.chUnbind l) s = .next (refused l f .notPermitted s))
        ∧ (requester l f.tenant = binder →
          ((s.channel c).binding = none → exec (.chUnbind l) s = .next (refused l f .notBound s))
          ∧ ∀ b, (s.channel c).binding = some b →
            ∃ t, exec (.chUnbind l) s = .next (replied l f .ok [cb, byte (s.used c)] t)
              ∧ t.channel c = { number := (s.channel c).number, binding := none }
              ∧ (∀ c', c' ≠ c → t.channel c' = s.channel c') ∧ t.used c = 0
              ∧ t.inFlightFrom .r (.forward c) = false ∧ t.inFlightFrom b.owner.link (.deliver c) = false
              ∧ ((s.port .r).notices.length < 16 → ∃ more, (t.port .r).notices = (s.port .r).notices
                  ++ { tenant := 0, body := .chClosed c (s.channel c).number .unbind } :: more)
              ∧ (b.owner ≠ requester l f.tenant → b.owner ≠ .rad → (s.port b.owner.link).notices.length < 16 →
                (t.port b.owner.link).notices = (s.port b.owner.link).notices
                  ++ [{ tenant := b.owner.tenantField, body := .chClosed c (s.channel c).number .unbind }])
              ∧ (b.owner = requester l f.tenant →
                ∀ k : Link, k ≠ .r → (t.port k).notices = (s.port k).notices)
              ∧ t.relay.lastServed = s.relay.lastServed))

/-- R160 and R161: CH_QUERY shows a channel to PAY, APP/0, RAD and its owner, the owner's domain alone on the
R-link, and answers another app tenant NOT_OWNER; the summary gives the pool figures and the bound channels, and
to an app tenant no figures and its own channels alone. -/
def Obligations.ChannelQueriesShowWhatTheReaderMaySee : Prop :=
  (∀ (l : Link) (f : Frame) (cb : Byte) (s : State), Admitted .chQuery l f s → f.body = [cb] → cb ≠ 255 →
      (32 ≤ cb.toNat → exec (.chQuery l) s = .next (refused l f .badRequest s))
      ∧ ∀ c : Fin 32, cb.toNat = c.val →
        (∀ n : Fin 16, n ≠ 0 → requester l f.tenant = .app n →
          (∀ b, (s.channel c).binding = some b → b.owner ≠ .app n) →
          exec (.chQuery l) s = .next (refused l f .notOwner s))
        ∧ ((∀ n : Fin 16, n ≠ 0 → requester l f.tenant = .app n →
            ∃ b, (s.channel c).binding = some b ∧ b.owner = .app n) →
          ((s.channel c).binding = none → exec (.chQuery l) s = .next (reported l f
            [cb, 0, 0xFE, 0, 0, 0, 0, 0, 0, 0, (s.channel c).number] s))
          ∧ ∀ b, (s.channel c).binding = some b → exec (.chQuery l) s = .next (reported l f
            [cb, 1, if l = .r ∧ b.owner.isApp = true then 0xFF else b.owner.code, b.cls.code, byte b.level,
              byte b.reserve, byte b.ceiling, byte (s.used c), byte b.inbound.length, byte b.outbound.length,
              (s.channel c).number] s)))
    ∧ (∀ (l : Link) (f : Frame) (s : State), Admitted .chQuery l f s → f.body = [255] →
      ∃ map : BitVec 32,
        exec (.chQuerySummary l) s = .next (reported l f
          ((if l ≠ .a ∨ f.tenant = 0 then
              [byte (96 - s.blocksInUse), byte s.reservedFree, byte (96 - s.blocksInUse - s.reservedFree),
                byte s.reserveSum]
            else [0, 0, 0, 0])
          ++ [map.extractLsb' 24 8, map.extractLsb' 16 8, map.extractLsb' 8 8, map.extractLsb' 0 8]) s)
        ∧ ∀ c : Fin 32, map.getLsbD c.val = true ↔ ∃ b, (s.channel c).binding = some b
            ∧ (l ≠ .a ∨ f.tenant = 0 ∨ b.owner = requester l f.tenant))

/-- R150, R156, R157: SEND by the owner, and DATA that names the present binding, are queued in a block of the
channel where its reserve or the shared blocks allow one; each names what it is refused for, in its order. -/
def Obligations.DataIsQueuedInABlock : Prop :=
  (∀ (l : Link) (f : Frame) (cb : Byte) (data : List Byte) (s : State), Admitted .send l f s →
      f.body = cb :: data →
      (32 ≤ cb.toNat → exec (.send l) s = .next (refused l f .badRequest s))
      ∧ ∀ c : Fin 32, cb.toNat = c.val →
        ((s.channel c).binding = none → exec (.send l) s = .next (refused l f .notBound s))
        ∧ ∀ b, (s.channel c).binding = some b →
          (b.owner ≠ requester l f.tenant → exec (.send l) s = .next (refused l f .notOwner s))
          ∧ (b.owner = requester l f.tenant →
            (s.isFrozen b.owner = true → exec (.send l) s = .next (refused l f .tenantInactive s))
            ∧ (s.isFrozen b.owner = false →
              (¬ (s.used c < b.reserve ∨ (s.used c < b.ceiling ∧ 1 ≤ s.sharedFree)) →
                exec (.send l) s = .next (refused l f .full s))
              ∧ ((s.used c < b.reserve ∨ (s.used c < b.ceiling ∧ 1 ≤ s.sharedFree)) →
                exec (.send l) s = .next (replied l f .ok [cb, byte (s.used c + 1)]
                  ((dropOldest l s).setChannel c { s.channel c with
                    binding := some { b with outbound := b.outbound ++ [data] } }))))))
    ∧ (∀ (f : Frame) (cb nb : Byte) (data : List Byte) (s : State), Admitted .data .r f s →
      f.body = cb :: nb :: data →
      (32 ≤ cb.toNat → exec (.data .r) s = .next (refused .r f .badRequest s))
      ∧ ∀ c : Fin 32, cb.toNat = c.val →
        ((s.channel c).binding = none ∨ (s.channel c).number ≠ nb →
          exec (.data .r) s = .next (refused .r f .notBound s))
        ∧ ∀ b, (s.channel c).binding = some b → (s.channel c).number = nb →
          (s.isFrozen b.owner = true → exec (.data .r) s = .next (refused .r f .tenantInactive s))
          ∧ (s.isFrozen b.owner = false →
            (¬ (s.used c < b.reserve ∨ (s.used c < b.ceiling ∧ 1 ≤ s.sharedFree)) →
              exec (.data .r) s = .next (refused .r f .full s))
            ∧ ((s.used c < b.reserve ∨ (s.used c < b.ceiling ∧ 1 ≤ s.sharedFree)) →
              exec (.data .r) s = .next (replied .r f .ok [cb, byte (s.used c + 1)]
                ((dropOldest .r s).setChannel c { s.channel c with
                  binding := some { b with inbound := b.inbound ++ [data] } })))))

/-! ## Laws that every step keeps -/

/-- Waiting lists stay in order with at most 6 entries and no subject twice, no holder waits or is RAD, and KEYPAD
is never seen in TURNOVER (R42, R44, R53); and then whoever holds or waits has allow yes and, as an APP subject,
an ACTIVE tenant, and PAY's fixed fields hold (R27, R38, R56). -/
def Obligations.CustodyStaysLawful : Prop :=
  (∀ s t : State, step s = .next t → CustodyLaw s → CustodyLaw t)
    ∧ (∀ s t : State, step s = .next t → CustodyLaw s → StandingLaw s → StandingLaw t)

/-- The queues stay within their places (R5, R8, R11, R85, R106); balance, phase, owed quarters and pending
granularity of every lease stay within the values of their table (R66 to R74); the regime follows the fast
clock, and a doze is pending in RUN alone (R169, R171, R173). -/
def Obligations.QueuesLeasesAndRegimeStayInRange : Prop :=
  (∀ s t : State, step s = .next t → QueueLaw s → QueueLaw t)
    ∧ (∀ s t : State, step s = .next t → LeaseLaw s → LeaseLaw t)
    ∧ (∀ s t : State, step s = .next t → ClockLaw s → ClockLaw t)

/-- At most two keys stand down, key records and KEY frames are only ever the KEYPAD holder's, and the matcher rests
while PAY holds KEYPAD (R82, R85, R88, R90). -/
def Obligations.KeysStayTheHolders : Prop :=
  ∀ s t : State, step s = .next t → CustodyLaw s → KeyLaw s → KeyLaw t

/-- The panel shows PAY only while PAY holds DISPLAY or DISPLAY is in TURNOVER, and the lamp shows it (R54, R99,
R100, R104, R105). -/
def Obligations.PanelAndLampFollowCustody : Prop :=
  ∀ s t : State, step s = .next t → CustodyLaw s → DisplayLaw s ∧ LampLaw s → DisplayLaw t ∧ LampLaw t

/-- A contactless result is only ever the CLESS holder's, a TURNOVER of CLESS always has an end to come, and no
exchange is in flight while CLRST is active (R116, R123 to R127). -/
def Obligations.CardResultsStayTheHolders : Prop :=
  ∀ s t : State, step s = .next t → CustodyLaw s → CardLaw s → CardLaw t

/-- The printer's turnover phase and stall timer run exactly while PRINTER is in TURNOVER, and no byte waits in a
FREE printer (R107, R111 to R113). -/
def Obligations.PrinterFollowsCustody : Prop :=
  ∀ s t : State, step s = .next t → PrinterLaw s → PrinterLaw t

/-- No grant of a function that is not tolerant is high while a contactless exchange is in flight (R142). -/
def Obligations.NoRadioGrantDuringAnExchange : Prop :=
  ∀ s t : State, step s = .next t → AirLaw s → AirLaw t

/-- Blocks in use and blocks reserved never exceed the pool's 96, no channel passes its ceiling, and the reserves of
bound channels sum to at most 64 (R149). -/
def Obligations.PoolKeepsItsLaws : Prop :=
  ∀ s t : State, step s = .next t → PoolLaw s → PoolLaw t

/-- The state after reset meets every law. -/
def Obligations.ResetMeetsEveryLaw : Prop :=
  QueueLaw .reset ∧ CustodyLaw .reset ∧ StandingLaw .reset ∧ LeaseLaw .reset ∧ KeyLaw .reset ∧ DisplayLaw .reset
    ∧ LampLaw .reset ∧ CardLaw .reset ∧ PrinterLaw .reset ∧ AirLaw .reset ∧ PoolLaw .reset ∧ ClockLaw .reset
end

