-- ==== Sys2Proof/Laws/State.lean ====
section
/-! SUPPORT. What each update of the state leaves, field by field, each true by unfolding, so that no later
proof opens a record update. -/

namespace Sys2Proof.Machine

-- Its many small proofs are elaborated one after another, so that they take few threads.
set_option Elab.async false

/-! ## Reading what was written, by link, resource and radio function -/

variable {α : Type}

@[simp] theorem PerLink.get_set_self (m : PerLink α) (l : Link) (x : α) : (m.set l x).get l = x := by cases l <;> rfl

theorem PerLink.get_set_other (m : PerLink α) (l k : Link) (x : α) (h : k ≠ l) : (m.set l x).get k = m.get k := by
  cases l <;> cases k <;> first | rfl | exact absurd rfl h

theorem PerLink.get_set (m : PerLink α) (l k : Link) (x : α) : (m.set l x).get k = if k = l then x else m.get k := by
  cases l <;> cases k <;> rfl

@[simp] theorem PerLink.set_set (m : PerLink α) (l : Link) (x y : α) : (m.set l x).set l y = m.set l y := by
  cases l <;> rfl

@[simp] theorem PerLink.set_get (m : PerLink α) (l : Link) : m.set l (m.get l) = m := by cases l <;> rfl

@[simp] theorem PerResource.get_set_self (m : PerResource α) (r : Resource) (x : α) : (m.set r x).get r = x := by
  cases r <;> rfl

theorem PerResource.get_set_other (m : PerResource α) (r q : Resource) (x : α) (h : q ≠ r) :
    (m.set r x).get q = m.get q := by cases r <;> cases q <;> first | rfl | exact absurd rfl h

theorem PerResource.get_set (m : PerResource α) (r q : Resource) (x : α) :
    (m.set r x).get q = if q = r then x else m.get q := by cases r <;> cases q <;> rfl

@[simp] theorem PerResource.set_set (m : PerResource α) (r : Resource) (x y : α) :
    (m.set r x).set r y = m.set r y := by cases r <;> rfl

@[simp] theorem PerResource.set_get (m : PerResource α) (r : Resource) : m.set r (m.get r) = m := by cases r <;> rfl

@[simp] theorem PerRadio.get_set_self (m : PerRadio α) (f : RadioFn) (x : α) : (m.set f x).get f = x := by
  cases f <;> rfl

theorem PerRadio.get_set (m : PerRadio α) (f g : RadioFn) (x : α) :
    (m.set f x).get g = if g = f then x else m.get g := by cases f <;> cases g <;> rfl

@[simp] theorem PerRadio.set_set (m : PerRadio α) (f : RadioFn) (x y : α) : (m.set f x).set f y = m.set f y := by
  cases f <;> rfl

/-! ## Ports -/

@[simp] theorem setPort_port_self (s : State) (l : Link) (p : Port) : (s.setPort l p).port l = p := by
  simp [State.setPort, State.port]

theorem setPort_port (s : State) (l k : Link) (p : Port) :
    (s.setPort l p).port k = if k = l then p else s.port k := by simp [State.setPort, State.port, PerLink.get_set]

theorem setPort_port_other (s : State) (l k : Link) (p : Port) (h : k ≠ l) : (s.setPort l p).port k = s.port k := by
  simp [setPort_port, h]

@[simp] theorem setPort_setPort (s : State) (l : Link) (p q : Port) : (s.setPort l p).setPort l q = s.setPort l q := by
  simp [State.setPort]

@[simp] theorem setPort_port_id (s : State) (l : Link) : s.setPort l (s.port l) = s := by
  simp [State.setPort, State.port]

/-- Two states with the same ports have the same port at every link. -/
theorem port_congr {s t : State} (h : s.ports = t.ports) (l : Link) : s.port l = t.port l := by
  simp [State.port, h]

/-! ## Custody entries -/

@[simp] theorem setEntry_entry_self (s : State) (r : Resource) (e : CustodyEntry) : (s.setEntry r e).entry r = e := by
  simp [State.setEntry, State.entry]

theorem setEntry_entry (s : State) (r q : Resource) (e : CustodyEntry) :
    (s.setEntry r e).entry q = if q = r then e else s.entry q := by
  simp [State.setEntry, State.entry, PerResource.get_set]

@[simp] theorem setEntry_setEntry (s : State) (r : Resource) (e d : CustodyEntry) :
    (s.setEntry r e).setEntry r d = s.setEntry r d := by simp [State.setEntry]

@[simp] theorem setGrant_entry_self (s : State) (r : Resource) (g : Grant) :
    (s.setGrant r g).entry r = { s.entry r with state := .owned g } := by simp [State.setGrant]

theorem setGrant_entry (s : State) (r q : Resource) (g : Grant) :
    (s.setGrant r g).entry q = if q = r then { s.entry r with state := .owned g } else s.entry q := by
  simp [State.setGrant, setEntry_entry]

@[simp] theorem setWaiting_entry_self (s : State) (r : Resource) (ws : List Waiter) :
    (s.setWaiting r ws).entry r = { s.entry r with waiting := ws } := by simp [State.setWaiting]

theorem setWaiting_entry (s : State) (r q : Resource) (ws : List Waiter) :
    (s.setWaiting r ws).entry q = if q = r then { s.entry r with waiting := ws } else s.entry q := by
  simp [State.setWaiting, setEntry_entry]

/-- Two states with the same custody unit have the same entry for every resource. -/
theorem entry_congr {s t : State} (h : s.custody = t.custody) (r : Resource) : s.entry r = t.entry r := by
  simp [State.entry, h]

theorem holder_congr {s t : State} (h : s.custody = t.custody) (r : Resource) : s.holder r = t.holder r := by
  simp [State.holder, State.entry, h]

theorem holder_of_entry {s t : State} {r : Resource} (h : s.entry r = t.entry r) : s.holder r = t.holder r := by
  simp [State.holder, h]

theorem CustodyEntry.grant_eq_some {e : CustodyEntry} {g : Grant} : e.grant = some g ↔ e.state = .owned g := by
  unfold CustodyEntry.grant; split <;> simp_all

@[simp] theorem CustodyEntry.grant_owned (g : Grant) (ws : List Waiter) :
    (CustodyEntry.mk (.owned g) ws).grant = some g := rfl

@[simp] theorem CustodyEntry.grant_free (ws : List Waiter) : (CustodyEntry.mk .free ws).grant = none := rfl

@[simp] theorem CustodyEntry.grant_turnover (k : EndingKind) (ws : List Waiter) :
    (CustodyEntry.mk (.turnover k) ws).grant = none := rfl

/-! ## Channels and radio functions -/

theorem setChannel_channel (s : State) (c d : Fin 32) (x : Channel) :
    (s.setChannel c x).channel d = if d = c then x else s.channel d := by
  unfold State.setChannel State.channel
  rcases eq_or_ne d c with h | h
  · subst h; simp
  · have h' : (c : Nat) ≠ d := fun e => h (Fin.ext e.symm)
    simp [h, h']

@[simp] theorem setChannel_channel_self (s : State) (c : Fin 32) (x : Channel) :
    (s.setChannel c x).channel c = x := by simp [setChannel_channel]

theorem channel_congr {s t : State} (h : s.relay = t.relay) (c : Fin 32) : s.channel c = t.channel c := by
  simp [State.channel, h]

/-! ## Reading a state that is written out field by field -/

section
variable (c : Timebase) (ps : PerLink Port) (po : PolicyTable) (te : Vector TenantRecord 16) (cu : CustodyUnit)
  (ke : KeyUnit) (di : DisplaySwitch) (pr : PrinterPort) (br : Bridge) (ai : AirSchedule) (re : Relay)
  (li : InputLines) (pe : List Instr)

@[simp] theorem port_mk (l : Link) : (State.mk c ps po te cu ke di pr br ai re li pe).port l = ps.get l := rfl

@[simp] theorem ports_get (s : State) (l : Link) : s.ports.get l = s.port l := rfl

@[simp] theorem entry_mk (r : Resource) :
    (State.mk c ps po te cu ke di pr br ai re li pe).entry r = cu.entries.get r := rfl

@[simp] theorem entries_get (s : State) (r : Resource) : s.custody.entries.get r = s.entry r := rfl

@[simp] theorem holder_mk (r : Resource) :
    (State.mk c ps po te cu ke di pr br ai re li pe).holder r = (cu.entries.get r).grant.map (·.holder) := rfl

@[simp] theorem entry_grant_holder (s : State) (r : Resource) :
    (s.entry r).grant.map (fun g => g.holder) = s.holder r := rfl

@[simp] theorem holds_mk (w : Subject) (r : Resource) :
    (State.mk c ps po te cu ke di pr br ai re li pe).holds w r
      = ((cu.entries.get r).grant.map (fun g => g.holder) == some w) := rfl

@[simp] theorem channel_mk (d : Fin 32) :
    (State.mk c ps po te cu ke di pr br ai re li pe).channel d = re.channels[d] := rfl

@[simp] theorem relay_channels_get (s : State) (d : Fin 32) : s.relay.channels[d] = s.channel d := rfl

@[simp] theorem policyOf_mk (w : Subject) (r : Resource) :
    (State.mk c ps po te cu ke di pr br ai re li pe).policyOf w r = (po.row w).get r := rfl

@[simp] theorem policy_row_get (s : State) (w : Subject) (r : Resource) : (s.policy.row w).get r = s.policyOf w r := rfl

@[simp] theorem fastLocked_mk :
    (State.mk c ps po te cu ke di pr br ai re li pe).fastLocked = (c.fastClock == .locked) := rfl

@[simp] theorem running_mk : (State.mk c ps po te cu ke di pr br ai re li pe).running = (c.regime == .run) := rfl
end

/-! ## What an update of one block leaves of the others -/
@[simp] theorem setPort_clock (s : State) (l : Link) (p : Port) : (s.setPort l p).clock = s.clock := rfl
@[simp] theorem setPort_policy (s : State) (l : Link) (p : Port) : (s.setPort l p).policy = s.policy := rfl
@[simp] theorem setPort_tenants (s : State) (l : Link) (p : Port) : (s.setPort l p).tenants = s.tenants := rfl
@[simp] theorem setPort_custody (s : State) (l : Link) (p : Port) : (s.setPort l p).custody = s.custody := rfl
@[simp] theorem setPort_keys (s : State) (l : Link) (p : Port) : (s.setPort l p).keys = s.keys := rfl
@[simp] theorem setPort_display (s : State) (l : Link) (p : Port) : (s.setPort l p).display = s.display := rfl
@[simp] theorem setPort_printer (s : State) (l : Link) (p : Port) : (s.setPort l p).printer = s.printer := rfl
@[simp] theorem setPort_bridge (s : State) (l : Link) (p : Port) : (s.setPort l p).bridge = s.bridge := rfl
@[simp] theorem setPort_air (s : State) (l : Link) (p : Port) : (s.setPort l p).air = s.air := rfl
@[simp] theorem setPort_relay (s : State) (l : Link) (p : Port) : (s.setPort l p).relay = s.relay := rfl
@[simp] theorem setPort_lines (s : State) (l : Link) (p : Port) : (s.setPort l p).lines = s.lines := rfl
@[simp] theorem setPort_pending (s : State) (l : Link) (p : Port) : (s.setPort l p).pending = s.pending := rfl
@[simp] theorem setPort_running_read (s : State) (l : Link) (p : Port) : (s.setPort l p).running = s.running := rfl
@[simp] theorem setPort_fastLocked_read (s : State) (l : Link) (p : Port) : (s.setPort l p).fastLocked = s.fastLocked := rfl
@[simp] theorem setPort_policyOf_read (s : State) (l : Link) (p : Port) (w : Subject) (q : Resource) : (s.setPort l p).policyOf w q = s.policyOf w q := rfl
@[simp] theorem setPort_mayAct_read (s : State) (l : Link) (p : Port) (w : Subject) : (s.setPort l p).mayAct w = s.mayAct w := rfl
@[simp] theorem setPort_entry_read (s : State) (l : Link) (p : Port) (q : Resource) : (s.setPort l p).entry q = s.entry q := rfl
@[simp] theorem setPort_holder_read (s : State) (l : Link) (p : Port) (q : Resource) : (s.setPort l p).holder q = s.holder q := rfl
@[simp] theorem setPort_holds_read (s : State) (l : Link) (p : Port) (w : Subject) (q : Resource) : (s.setPort l p).holds w q = s.holds w q := rfl
@[simp] theorem setPort_channel_read (s : State) (l : Link) (p : Port) (d : Fin 32) : (s.setPort l p).channel d = s.channel d := rfl
@[simp] theorem setEntry_clock (s : State) (r : Resource) (e : CustodyEntry) : (s.setEntry r e).clock = s.clock := rfl
@[simp] theorem setEntry_ports (s : State) (r : Resource) (e : CustodyEntry) : (s.setEntry r e).ports = s.ports := rfl
@[simp] theorem setEntry_policy (s : State) (r : Resource) (e : CustodyEntry) : (s.setEntry r e).policy = s.policy := rfl
@[simp] theorem setEntry_tenants (s : State) (r : Resource) (e : CustodyEntry) : (s.setEntry r e).tenants = s.tenants := rfl
@[simp] theorem setEntry_keys (s : State) (r : Resource) (e : CustodyEntry) : (s.setEntry r e).keys = s.keys := rfl
@[simp] theorem setEntry_display (s : State) (r : Resource) (e : CustodyEntry) : (s.setEntry r e).display = s.display := rfl
@[simp] theorem setEntry_printer (s : State) (r : Resource) (e : CustodyEntry) : (s.setEntry r e).printer = s.printer := rfl
@[simp] theorem setEntry_bridge (s : State) (r : Resource) (e : CustodyEntry) : (s.setEntry r e).bridge = s.bridge := rfl
@[simp] theorem setEntry_air (s : State) (r : Resource) (e : CustodyEntry) : (s.setEntry r e).air = s.air := rfl
@[simp] theorem setEntry_relay (s : State) (r : Resource) (e : CustodyEntry) : (s.setEntry r e).relay = s.relay := rfl
@[simp] theorem setEntry_lines (s : State) (r : Resource) (e : CustodyEntry) : (s.setEntry r e).lines = s.lines := rfl
@[simp] theorem setEntry_pending (s : State) (r : Resource) (e : CustodyEntry) : (s.setEntry r e).pending = s.pending := rfl
@[simp] theorem setEntry_running_read (s : State) (r : Resource) (e : CustodyEntry) : (s.setEntry r e).running = s.running := rfl
@[simp] theorem setEntry_fastLocked_read (s : State) (r : Resource) (e : CustodyEntry) : (s.setEntry r e).fastLocked = s.fastLocked := rfl
@[simp] theorem setEntry_port_read (s : State) (r : Resource) (e : CustodyEntry) (k : Link) : (s.setEntry r e).port k = s.port k := rfl
@[simp] theorem setEntry_inFlightFrom_read (s : State) (r : Resource) (e : CustodyEntry) (k : Link) (src : FrameSource) : (s.setEntry r e).inFlightFrom k src = s.inFlightFrom k src := rfl
@[simp] theorem setEntry_policyOf_read (s : State) (r : Resource) (e : CustodyEntry) (w : Subject) (q : Resource) : (s.setEntry r e).policyOf w q = s.policyOf w q := rfl
@[simp] theorem setEntry_mayAct_read (s : State) (r : Resource) (e : CustodyEntry) (w : Subject) : (s.setEntry r e).mayAct w = s.mayAct w := rfl
@[simp] theorem setEntry_channel_read (s : State) (r : Resource) (e : CustodyEntry) (d : Fin 32) : (s.setEntry r e).channel d = s.channel d := rfl
@[simp] theorem setGrant_clock (s : State) (r : Resource) (g : Grant) : (s.setGrant r g).clock = s.clock := rfl
@[simp] theorem setGrant_ports (s : State) (r : Resource) (g : Grant) : (s.setGrant r g).ports = s.ports := rfl
@[simp] theorem setGrant_policy (s : State) (r : Resource) (g : Grant) : (s.setGrant r g).policy = s.policy := rfl
@[simp] theorem setGrant_tenants (s : State) (r : Resource) (g : Grant) : (s.setGrant r g).tenants = s.tenants := rfl
@[simp] theorem setGrant_keys (s : State) (r : Resource) (g : Grant) : (s.setGrant r g).keys = s.keys := rfl
@[simp] theorem setGrant_display (s : State) (r : Resource) (g : Grant) : (s.setGrant r g).display = s.display := rfl
@[simp] theorem setGrant_printer (s : State) (r : Resource) (g : Grant) : (s.setGrant r g).printer = s.printer := rfl
@[simp] theorem setGrant_bridge (s : State) (r : Resource) (g : Grant) : (s.setGrant r g).bridge = s.bridge := rfl
@[simp] theorem setGrant_air (s : State) (r : Resource) (g : Grant) : (s.setGrant r g).air = s.air := rfl
@[simp] theorem setGrant_relay (s : State) (r : Resource) (g : Grant) : (s.setGrant r g).relay = s.relay := rfl
@[simp] theorem setGrant_lines (s : State) (r : Resource) (g : Grant) : (s.setGrant r g).lines = s.lines := rfl
@[simp] theorem setGrant_pending (s : State) (r : Resource) (g : Grant) : (s.setGrant r g).pending = s.pending := rfl
@[simp] theorem setGrant_running_read (s : State) (r : Resource) (g : Grant) : (s.setGrant r g).running = s.running := rfl
@[simp] theorem setGrant_fastLocked_read (s : State) (r : Resource) (g : Grant) : (s.setGrant r g).fastLocked = s.fastLocked := rfl
@[simp] theorem setGrant_port_read (s : State) (r : Resource) (g : Grant) (k : Link) : (s.setGrant r g).port k = s.port k := rfl
@[simp] theorem setGrant_inFlightFrom_read (s : State) (r : Resource) (g : Grant) (k : Link) (src : FrameSource) : (s.setGrant r g).inFlightFrom k src = s.inFlightFrom k src := rfl
@[simp] theorem setGrant_policyOf_read (s : State) (r : Resource) (g : Grant) (w : Subject) (q : Resource) : (s.setGrant r g).policyOf w q = s.policyOf w q := rfl
@[simp] theorem setGrant_mayAct_read (s : State) (r : Resource) (g : Grant) (w : Subject) : (s.setGrant r g).mayAct w = s.mayAct w := rfl
@[simp] theorem setGrant_channel_read (s : State) (r : Resource) (g : Grant) (d : Fin 32) : (s.setGrant r g).channel d = s.channel d := rfl
@[simp] theorem setWaiting_clock (s : State) (r : Resource) (ws : List Waiter) : (s.setWaiting r ws).clock = s.clock := rfl
@[simp] theorem setWaiting_ports (s : State) (r : Resource) (ws : List Waiter) : (s.setWaiting r ws).ports = s.ports := rfl
@[simp] theorem setWaiting_policy (s : State) (r : Resource) (ws : List Waiter) : (s.setWaiting r ws).policy = s.policy := rfl
@[simp] theorem setWaiting_tenants (s : State) (r : Resource) (ws : List Waiter) : (s.setWaiting r ws).tenants = s.tenants := rfl
@[simp] theorem setWaiting_keys (s : State) (r : Resource) (ws : List Waiter) : (s.setWaiting r ws).keys = s.keys := rfl
@[simp] theorem setWaiting_display (s : State) (r : Resource) (ws : List Waiter) : (s.setWaiting r ws).display = s.display := rfl
@[simp] theorem setWaiting_printer (s : State) (r : Resource) (ws : List Waiter) : (s.setWaiting r ws).printer = s.printer := rfl
@[simp] theorem setWaiting_bridge (s : State) (r : Resource) (ws : List Waiter) : (s.setWaiting r ws).bridge = s.bridge := rfl
@[simp] theorem setWaiting_air (s : State) (r : Resource) (ws : List Waiter) : (s.setWaiting r ws).air = s.air := rfl
@[simp] theorem setWaiting_relay (s : State) (r : Resource) (ws : List Waiter) : (s.setWaiting r ws).relay = s.relay := rfl
@[simp] theorem setWaiting_lines (s : State) (r : Resource) (ws : List Waiter) : (s.setWaiting r ws).lines = s.lines := rfl
@[simp] theorem setWaiting_pending (s : State) (r : Resource) (ws : List Waiter) : (s.setWaiting r ws).pending = s.pending := rfl
@[simp] theorem setWaiting_running_read (s : State) (r : Resource) (ws : List Waiter) : (s.setWaiting r ws).running = s.running := rfl
@[simp] theorem setWaiting_fastLocked_read (s : State) (r : Resource) (ws : List Waiter) : (s.setWaiting r ws).fastLocked = s.fastLocked := rfl
@[simp] theorem setWaiting_port_read (s : State) (r : Resource) (ws : List Waiter) (k : Link) : (s.setWaiting r ws).port k = s.port k := rfl
@[simp] theorem setWaiting_inFlightFrom_read (s : State) (r : Resource) (ws : List Waiter) (k : Link) (src : FrameSource) : (s.setWaiting r ws).inFlightFrom k src = s.inFlightFrom k src := rfl
@[simp] theorem setWaiting_policyOf_read (s : State) (r : Resource) (ws : List Waiter) (w : Subject) (q : Resource) : (s.setWaiting r ws).policyOf w q = s.policyOf w q := rfl
@[simp] theorem setWaiting_mayAct_read (s : State) (r : Resource) (ws : List Waiter) (w : Subject) : (s.setWaiting r ws).mayAct w = s.mayAct w := rfl
@[simp] theorem setWaiting_channel_read (s : State) (r : Resource) (ws : List Waiter) (d : Fin 32) : (s.setWaiting r ws).channel d = s.channel d := rfl
@[simp] theorem setChannel_clock (s : State) (c : Fin 32) (x : Channel) : (s.setChannel c x).clock = s.clock := rfl
@[simp] theorem setChannel_ports (s : State) (c : Fin 32) (x : Channel) : (s.setChannel c x).ports = s.ports := rfl
@[simp] theorem setChannel_policy (s : State) (c : Fin 32) (x : Channel) : (s.setChannel c x).policy = s.policy := rfl
@[simp] theorem setChannel_tenants (s : State) (c : Fin 32) (x : Channel) : (s.setChannel c x).tenants = s.tenants := rfl
@[simp] theorem setChannel_custody (s : State) (c : Fin 32) (x : Channel) : (s.setChannel c x).custody = s.custody := rfl
@[simp] theorem setChannel_keys (s : State) (c : Fin 32) (x : Channel) : (s.setChannel c x).keys = s.keys := rfl
@[simp] theorem setChannel_display (s : State) (c : Fin 32) (x : Channel) : (s.setChannel c x).display = s.display := rfl
@[simp] theorem setChannel_printer (s : State) (c : Fin 32) (x : Channel) : (s.setChannel c x).printer = s.printer := rfl
@[simp] theorem setChannel_bridge (s : State) (c : Fin 32) (x : Channel) : (s.setChannel c x).bridge = s.bridge := rfl
@[simp] theorem setChannel_air (s : State) (c : Fin 32) (x : Channel) : (s.setChannel c x).air = s.air := rfl
@[simp] theorem setChannel_lines (s : State) (c : Fin 32) (x : Channel) : (s.setChannel c x).lines = s.lines := rfl
@[simp] theorem setChannel_pending (s : State) (c : Fin 32) (x : Channel) : (s.setChannel c x).pending = s.pending := rfl
@[simp] theorem setChannel_running_read (s : State) (c : Fin 32) (x : Channel) : (s.setChannel c x).running = s.running := rfl
@[simp] theorem setChannel_fastLocked_read (s : State) (c : Fin 32) (x : Channel) : (s.setChannel c x).fastLocked = s.fastLocked := rfl
@[simp] theorem setChannel_port_read (s : State) (c : Fin 32) (x : Channel) (k : Link) : (s.setChannel c x).port k = s.port k := rfl
@[simp] theorem setChannel_inFlightFrom_read (s : State) (c : Fin 32) (x : Channel) (k : Link) (src : FrameSource) : (s.setChannel c x).inFlightFrom k src = s.inFlightFrom k src := rfl
@[simp] theorem setChannel_policyOf_read (s : State) (c : Fin 32) (x : Channel) (w : Subject) (q : Resource) : (s.setChannel c x).policyOf w q = s.policyOf w q := rfl
@[simp] theorem setChannel_mayAct_read (s : State) (c : Fin 32) (x : Channel) (w : Subject) : (s.setChannel c x).mayAct w = s.mayAct w := rfl
@[simp] theorem setChannel_entry_read (s : State) (c : Fin 32) (x : Channel) (q : Resource) : (s.setChannel c x).entry q = s.entry q := rfl
@[simp] theorem setChannel_holder_read (s : State) (c : Fin 32) (x : Channel) (q : Resource) : (s.setChannel c x).holder q = s.holder q := rfl
@[simp] theorem setChannel_holds_read (s : State) (c : Fin 32) (x : Channel) (w : Subject) (q : Resource) : (s.setChannel c x).holds w q = s.holds w q := rfl

@[simp] theorem setEntry_arrivals (s : State) (r : Resource) (e : CustodyEntry) :
    (s.setEntry r e).custody.arrivals = s.custody.arrivals := rfl

@[simp] theorem setEntry_pendingTakeover (s : State) (r : Resource) (e : CustodyEntry) :
    (s.setEntry r e).custody.pendingTakeover = s.custody.pendingTakeover := rfl

@[simp] theorem setGrant_arrivals (s : State) (r : Resource) (g : Grant) :
    (s.setGrant r g).custody.arrivals = s.custody.arrivals := rfl

@[simp] theorem setWaiting_arrivals (s : State) (r : Resource) (ws : List Waiter) :
    (s.setWaiting r ws).custody.arrivals = s.custody.arrivals := rfl

end Sys2Proof.Machine
end

