-- ==== Sys2Proof/Laws/Frames.lean ====
section
/-! SUPPORT. For each shared operation, the blocks it leaves as they stand (its frame), and what it leaves of
every port: no operation outside a port's own transfer and processing touches its receiver, receive buffer,
replies, last-receive outcome, enables or transfer. -/

namespace Sys2Proof.Machine

-- Its many small proofs are elaborated one after another, so that they take few threads.
set_option Elab.async false

/-- The parts of a port that only its own transfers and its own requests change. -/
def Port.inbound (p : Port) : Receiver × List Frame × List Frame × RxOutcome × BitVec 10 × Option Transfer :=
  (p.receiver, p.rxBuffer, p.replies, p.lastRx, p.enables, p.transfer)

theorem Port.inbound_eq {p q : Port} : p.inbound = q.inbound ↔ p.receiver = q.receiver ∧ p.rxBuffer = q.rxBuffer
    ∧ p.replies = q.replies ∧ p.lastRx = q.lastRx ∧ p.enables = q.enables ∧ p.transfer = q.transfer := by
  simp [Port.inbound]

/-- The state's blocks but for the ports. -/
theorem State.derived {s t : State} :
    (s.ports = t.ports → (∀ k, s.port k = t.port k) ∧ ∀ k x, s.inFlightFrom k x = t.inFlightFrom k x)
      ∧ (s.custody = t.custody → (∀ q, s.entry q = t.entry q) ∧ (∀ q, s.holder q = t.holder q)
          ∧ ∀ w q, s.holds w q = t.holds w q)
      ∧ (s.policy = t.policy → ∀ w q, s.policyOf w q = t.policyOf w q)
      ∧ (s.tenants = t.tenants → (∀ w, s.mayAct w = t.mayAct w) ∧ ∀ w, s.isFrozen w = t.isFrozen w)
      ∧ (s.relay = t.relay → ∀ d, s.channel d = t.channel d)
      ∧ (s.clock = t.clock → s.running = t.running ∧ s.fastLocked = t.fastLocked) := by
  refine ⟨fun h => ?_, fun h => ?_, fun h => ?_, fun h => ?_, fun h => ?_, fun h => ?_⟩ <;>
    simp only [State.port, State.inFlightFrom, State.entry, State.holder, State.holds, State.policyOf, State.mayAct,
      State.isFrozen, State.tenant, State.channel, State.running, State.fastLocked, h, implies_true, and_self]

@[simp] theorem setCondition_frame (l : Link) (c : Condition) (s : State) :
    (setCondition l c s).clock = s.clock ∧ (setCondition l c s).policy = s.policy
      ∧ (setCondition l c s).tenants = s.tenants ∧ (setCondition l c s).custody = s.custody
      ∧ (setCondition l c s).keys = s.keys ∧ (setCondition l c s).display = s.display
      ∧ (setCondition l c s).printer = s.printer ∧ (setCondition l c s).bridge = s.bridge
      ∧ (setCondition l c s).air = s.air ∧ (setCondition l c s).relay = s.relay
      ∧ (setCondition l c s).lines = s.lines ∧ (setCondition l c s).pending = s.pending := by
  unfold setCondition; (try dsimp only); (repeat' split) <;> simp

@[simp] theorem setCondition_reads (l : Link) (c : Condition) (s : State) :
    (∀ q, (setCondition l c s).entry q = s.entry q) ∧ (∀ q, (setCondition l c s).holder q = s.holder q)
      ∧ (∀ w q, (setCondition l c s).holds w q = s.holds w q)
      ∧ (∀ w q, (setCondition l c s).policyOf w q = s.policyOf w q)
      ∧ (∀ w, (setCondition l c s).mayAct w = s.mayAct w)
      ∧ (∀ w, (setCondition l c s).isFrozen w = s.isFrozen w)
      ∧ (∀ d, (setCondition l c s).channel d = s.channel d) ∧ (setCondition l c s).running = s.running
      ∧ (setCondition l c s).fastLocked = s.fastLocked := by
  have d := State.derived (s := setCondition l c s) (t := s)
  exact ⟨(d.2.1 (by simp)).1, (d.2.1 (by simp)).2.1, (d.2.1 (by simp)).2.2, (d.2.2.1 (by simp)), (d.2.2.2.1 (by simp)).1, (d.2.2.2.1 (by simp)).2, (d.2.2.2.2.1 (by simp)), (d.2.2.2.2.2 (by simp)).1, (d.2.2.2.2.2 (by simp)).2⟩

@[simp] theorem setCondition_inbound (l : Link) (c : Condition) (j : Link) (s : State) :
    ((setCondition l c s).port j).inbound = (s.port j).inbound := by
  unfold setCondition; (repeat' split) <;> simp [setPort_port] <;> split <;> simp_all [Port.inbound]

@[simp] theorem notify_frame (l : Link) (n : Notice) (s : State) :
    (notify l n s).clock = s.clock ∧ (notify l n s).policy = s.policy ∧ (notify l n s).tenants = s.tenants
      ∧ (notify l n s).custody = s.custody ∧ (notify l n s).keys = s.keys ∧ (notify l n s).display = s.display
      ∧ (notify l n s).printer = s.printer ∧ (notify l n s).bridge = s.bridge ∧ (notify l n s).air = s.air
      ∧ (notify l n s).relay = s.relay ∧ (notify l n s).lines = s.lines ∧ (notify l n s).pending = s.pending := by
  unfold notify; (try dsimp only); (repeat' split) <;> simp

@[simp] theorem notify_reads (l : Link) (n : Notice) (s : State) :
    (∀ q, (notify l n s).entry q = s.entry q) ∧ (∀ q, (notify l n s).holder q = s.holder q)
      ∧ (∀ w q, (notify l n s).holds w q = s.holds w q) ∧ (∀ w q, (notify l n s).policyOf w q = s.policyOf w q)
      ∧ (∀ w, (notify l n s).mayAct w = s.mayAct w) ∧ (∀ w, (notify l n s).isFrozen w = s.isFrozen w)
      ∧ (∀ d, (notify l n s).channel d = s.channel d) ∧ (notify l n s).running = s.running
      ∧ (notify l n s).fastLocked = s.fastLocked := by
  have d := State.derived (s := notify l n s) (t := s)
  exact ⟨(d.2.1 (by simp)).1, (d.2.1 (by simp)).2.1, (d.2.1 (by simp)).2.2, (d.2.2.1 (by simp)), (d.2.2.2.1 (by simp)).1, (d.2.2.2.1 (by simp)).2, (d.2.2.2.2.1 (by simp)), (d.2.2.2.2.2 (by simp)).1, (d.2.2.2.2.2 (by simp)).2⟩

@[simp] theorem notify_inbound (l : Link) (n : Notice) (j : Link) (s : State) :
    ((notify l n s).port j).inbound = (s.port j).inbound := by
  unfold notify; (repeat' split) <;> simp [setPort_port] <;> split <;> simp_all [Port.inbound]

@[simp] theorem notifySubject_frame (who : Subject) (b : NoticeBody) (s : State) :
    (notifySubject who b s).clock = s.clock ∧ (notifySubject who b s).policy = s.policy
      ∧ (notifySubject who b s).tenants = s.tenants ∧ (notifySubject who b s).custody = s.custody
      ∧ (notifySubject who b s).keys = s.keys ∧ (notifySubject who b s).display = s.display
      ∧ (notifySubject who b s).printer = s.printer ∧ (notifySubject who b s).bridge = s.bridge
      ∧ (notifySubject who b s).air = s.air ∧ (notifySubject who b s).relay = s.relay
      ∧ (notifySubject who b s).lines = s.lines ∧ (notifySubject who b s).pending = s.pending := by
  unfold notifySubject; (try dsimp only); (repeat' split) <;> simp

@[simp] theorem notifySubject_reads (who : Subject) (b : NoticeBody) (s : State) :
    (∀ q, (notifySubject who b s).entry q = s.entry q) ∧ (∀ q, (notifySubject who b s).holder q = s.holder q)
      ∧ (∀ w q, (notifySubject who b s).holds w q = s.holds w q)
      ∧ (∀ w q, (notifySubject who b s).policyOf w q = s.policyOf w q)
      ∧ (∀ w, (notifySubject who b s).mayAct w = s.mayAct w)
      ∧ (∀ w, (notifySubject who b s).isFrozen w = s.isFrozen w)
      ∧ (∀ d, (notifySubject who b s).channel d = s.channel d) ∧ (notifySubject who b s).running = s.running
      ∧ (notifySubject who b s).fastLocked = s.fastLocked := by
  have d := State.derived (s := notifySubject who b s) (t := s)
  exact ⟨(d.2.1 (by simp)).1, (d.2.1 (by simp)).2.1, (d.2.1 (by simp)).2.2, (d.2.2.1 (by simp)), (d.2.2.2.1 (by simp)).1, (d.2.2.2.1 (by simp)).2, (d.2.2.2.2.1 (by simp)), (d.2.2.2.2.2 (by simp)).1, (d.2.2.2.2.2 (by simp)).2⟩

@[simp] theorem notifySubject_inbound (who : Subject) (b : NoticeBody) (j : Link) (s : State) :
    ((notifySubject who b s).port j).inbound = (s.port j).inbound := by
  unfold notifySubject; (try dsimp only); (repeat' split) <;> simp

@[simp] theorem notifyLink_frame (l : Link) (b : NoticeBody) (s : State) :
    (notifyLink l b s).clock = s.clock ∧ (notifyLink l b s).policy = s.policy
      ∧ (notifyLink l b s).tenants = s.tenants ∧ (notifyLink l b s).custody = s.custody
      ∧ (notifyLink l b s).keys = s.keys ∧ (notifyLink l b s).display = s.display
      ∧ (notifyLink l b s).printer = s.printer ∧ (notifyLink l b s).bridge = s.bridge
      ∧ (notifyLink l b s).air = s.air ∧ (notifyLink l b s).relay = s.relay
      ∧ (notifyLink l b s).lines = s.lines ∧ (notifyLink l b s).pending = s.pending := by
  unfold notifyLink; (try dsimp only); (repeat' split) <;> simp

@[simp] theorem notifyLink_reads (l : Link) (b : NoticeBody) (s : State) :
    (∀ q, (notifyLink l b s).entry q = s.entry q) ∧ (∀ q, (notifyLink l b s).holder q = s.holder q)
      ∧ (∀ w q, (notifyLink l b s).holds w q = s.holds w q)
      ∧ (∀ w q, (notifyLink l b s).policyOf w q = s.policyOf w q)
      ∧ (∀ w, (notifyLink l b s).mayAct w = s.mayAct w) ∧ (∀ w, (notifyLink l b s).isFrozen w = s.isFrozen w)
      ∧ (∀ d, (notifyLink l b s).channel d = s.channel d) ∧ (notifyLink l b s).running = s.running
      ∧ (notifyLink l b s).fastLocked = s.fastLocked := by
  have d := State.derived (s := notifyLink l b s) (t := s)
  exact ⟨(d.2.1 (by simp)).1, (d.2.1 (by simp)).2.1, (d.2.1 (by simp)).2.2, (d.2.2.1 (by simp)), (d.2.2.2.1 (by simp)).1, (d.2.2.2.1 (by simp)).2, (d.2.2.2.2.1 (by simp)), (d.2.2.2.2.2 (by simp)).1, (d.2.2.2.2.2 (by simp)).2⟩

@[simp] theorem notifyLink_inbound (l : Link) (b : NoticeBody) (j : Link) (s : State) :
    ((notifyLink l b s).port j).inbound = (s.port j).inbound := by
  unfold notifyLink; (try dsimp only); (repeat' split) <;> simp

@[simp] theorem wake_frame (c : WakeCause) (s : State) :
    (wake c s).ports = s.ports ∧ (wake c s).policy = s.policy ∧ (wake c s).tenants = s.tenants
      ∧ (wake c s).custody = s.custody ∧ (wake c s).keys = s.keys ∧ (wake c s).display = s.display
      ∧ (wake c s).printer = s.printer ∧ (wake c s).bridge = s.bridge ∧ (wake c s).air = s.air
      ∧ (wake c s).relay = s.relay ∧ (wake c s).lines = s.lines ∧ (wake c s).pending = s.pending := by
  unfold wake; (try dsimp only); (repeat' split) <;> simp

@[simp] theorem wake_reads (c : WakeCause) (s : State) :
    (∀ k, (wake c s).port k = s.port k) ∧ (∀ k src, (wake c s).inFlightFrom k src = s.inFlightFrom k src)
      ∧ (∀ q, (wake c s).entry q = s.entry q) ∧ (∀ q, (wake c s).holder q = s.holder q)
      ∧ (∀ w q, (wake c s).holds w q = s.holds w q) ∧ (∀ w q, (wake c s).policyOf w q = s.policyOf w q)
      ∧ (∀ w, (wake c s).mayAct w = s.mayAct w) ∧ (∀ w, (wake c s).isFrozen w = s.isFrozen w)
      ∧ (∀ d, (wake c s).channel d = s.channel d) := by
  have d := State.derived (s := wake c s) (t := s)
  exact ⟨(d.1 (by simp)).1, (d.1 (by simp)).2, (d.2.1 (by simp)).1, (d.2.1 (by simp)).2.1, (d.2.1 (by simp)).2.2, (d.2.2.1 (by simp)), (d.2.2.2.1 (by simp)).1, (d.2.2.2.1 (by simp)).2, (d.2.2.2.2.1 (by simp))⟩

@[simp] theorem bridgeResultGone_frame (s : State) :
    (bridgeResultGone s).clock = s.clock ∧ (bridgeResultGone s).ports = s.ports
      ∧ (bridgeResultGone s).policy = s.policy ∧ (bridgeResultGone s).tenants = s.tenants
      ∧ (bridgeResultGone s).custody = s.custody ∧ (bridgeResultGone s).keys = s.keys
      ∧ (bridgeResultGone s).display = s.display ∧ (bridgeResultGone s).printer = s.printer
      ∧ (bridgeResultGone s).air = s.air ∧ (bridgeResultGone s).relay = s.relay
      ∧ (bridgeResultGone s).lines = s.lines ∧ (bridgeResultGone s).pending = s.pending := by
  unfold bridgeResultGone; (try dsimp only); (repeat' split) <;> simp

@[simp] theorem bridgeResultGone_reads (s : State) :
    (∀ k, (bridgeResultGone s).port k = s.port k)
      ∧ (∀ k src, (bridgeResultGone s).inFlightFrom k src = s.inFlightFrom k src)
      ∧ (∀ q, (bridgeResultGone s).entry q = s.entry q) ∧ (∀ q, (bridgeResultGone s).holder q = s.holder q)
      ∧ (∀ w q, (bridgeResultGone s).holds w q = s.holds w q)
      ∧ (∀ w q, (bridgeResultGone s).policyOf w q = s.policyOf w q)
      ∧ (∀ w, (bridgeResultGone s).mayAct w = s.mayAct w)
      ∧ (∀ w, (bridgeResultGone s).isFrozen w = s.isFrozen w)
      ∧ (∀ d, (bridgeResultGone s).channel d = s.channel d) ∧ (bridgeResultGone s).running = s.running
      ∧ (bridgeResultGone s).fastLocked = s.fastLocked := by
  have d := State.derived (s := bridgeResultGone s) (t := s)
  exact ⟨(d.1 (by simp)).1, (d.1 (by simp)).2, (d.2.1 (by simp)).1, (d.2.1 (by simp)).2.1, (d.2.1 (by simp)).2.2, (d.2.2.1 (by simp)), (d.2.2.2.1 (by simp)).1, (d.2.2.2.1 (by simp)).2, (d.2.2.2.2.1 (by simp)), (d.2.2.2.2.2 (by simp)).1, (d.2.2.2.2.2 (by simp)).2⟩

@[simp] theorem cancelInFlight_frame (l : Link) (s : State) :
    (cancelInFlight l s).policy = s.policy ∧ (cancelInFlight l s).tenants = s.tenants
      ∧ (cancelInFlight l s).custody = s.custody ∧ (cancelInFlight l s).keys = s.keys
      ∧ (cancelInFlight l s).display = s.display ∧ (cancelInFlight l s).printer = s.printer
      ∧ (cancelInFlight l s).air = s.air ∧ (cancelInFlight l s).relay = s.relay
      ∧ (cancelInFlight l s).lines = s.lines ∧ (cancelInFlight l s).pending = s.pending := by
  unfold cancelInFlight; (try dsimp only); (repeat' split) <;> simp

@[simp] theorem cancelInFlight_reads (l : Link) (s : State) :
    (∀ q, (cancelInFlight l s).entry q = s.entry q) ∧ (∀ q, (cancelInFlight l s).holder q = s.holder q)
      ∧ (∀ w q, (cancelInFlight l s).holds w q = s.holds w q)
      ∧ (∀ w q, (cancelInFlight l s).policyOf w q = s.policyOf w q)
      ∧ (∀ w, (cancelInFlight l s).mayAct w = s.mayAct w)
      ∧ (∀ w, (cancelInFlight l s).isFrozen w = s.isFrozen w)
      ∧ (∀ d, (cancelInFlight l s).channel d = s.channel d) := by
  have d := State.derived (s := cancelInFlight l s) (t := s)
  exact ⟨(d.2.1 (by simp)).1, (d.2.1 (by simp)).2.1, (d.2.1 (by simp)).2.2, (d.2.2.1 (by simp)), (d.2.2.2.1 (by simp)).1, (d.2.2.2.1 (by simp)).2, (d.2.2.2.2.1 (by simp))⟩

@[simp] theorem cancelInFlight_inbound (l : Link) (j : Link) (s : State) :
    ((cancelInFlight l s).port j).inbound = (s.port j).inbound := by
  unfold cancelInFlight; dsimp only; (repeat' split) <;> simp [setPort_port] <;> (try split) <;> simp_all [Port.inbound]

@[simp] theorem cancelFrom_frame (l : Link) (src : FrameSource) (s : State) :
    (cancelFrom l src s).policy = s.policy ∧ (cancelFrom l src s).tenants = s.tenants
      ∧ (cancelFrom l src s).custody = s.custody ∧ (cancelFrom l src s).keys = s.keys
      ∧ (cancelFrom l src s).display = s.display ∧ (cancelFrom l src s).printer = s.printer
      ∧ (cancelFrom l src s).air = s.air ∧ (cancelFrom l src s).relay = s.relay
      ∧ (cancelFrom l src s).lines = s.lines ∧ (cancelFrom l src s).pending = s.pending := by
  unfold cancelFrom; (try dsimp only); (repeat' split) <;> simp

@[simp] theorem cancelFrom_reads (l : Link) (src : FrameSource) (s : State) :
    (∀ q, (cancelFrom l src s).entry q = s.entry q) ∧ (∀ q, (cancelFrom l src s).holder q = s.holder q)
      ∧ (∀ w q, (cancelFrom l src s).holds w q = s.holds w q)
      ∧ (∀ w q, (cancelFrom l src s).policyOf w q = s.policyOf w q)
      ∧ (∀ w, (cancelFrom l src s).mayAct w = s.mayAct w)
      ∧ (∀ w, (cancelFrom l src s).isFrozen w = s.isFrozen w)
      ∧ (∀ d, (cancelFrom l src s).channel d = s.channel d) := by
  have d := State.derived (s := cancelFrom l src s) (t := s)
  exact ⟨(d.2.1 (by simp)).1, (d.2.1 (by simp)).2.1, (d.2.1 (by simp)).2.2, (d.2.2.1 (by simp)), (d.2.2.2.1 (by simp)).1, (d.2.2.2.1 (by simp)).2, (d.2.2.2.2.1 (by simp))⟩

@[simp] theorem cancelFrom_inbound (l : Link) (src : FrameSource) (j : Link) (s : State) :
    ((cancelFrom l src s).port j).inbound = (s.port j).inbound := by
  unfold cancelFrom; (try dsimp only); (repeat' split) <;> simp


/-- Cancelling a KEY frame or a relay frame drops the copy and does nothing else (R15). -/
theorem cancelFrom_quiet (l : Link) (src : FrameSource) (s : State) (h : src ≠ .clResult) (h' : src ≠ .reply) :
    cancelFrom l src s =
      if s.inFlightFrom l src then s.setPort l { s.port l with inFlight := none } else s := by
  unfold cancelFrom
  split
  · rename_i hf
    unfold State.inFlightFrom at hf
    unfold cancelInFlight
    cases hx : (s.port l).inFlight with
    | none => simp [hx] at hf
    | some x =>
      simp only [hx, beq_iff_eq] at hf
      subst hf
      cases hs : x.source <;> simp_all
  · rfl

/-- Cancelling a CL_RESULT drops the copy and takes the bridge out of RESULT (R15, R124). -/
theorem cancelFrom_result (l : Link) (s : State) :
    cancelFrom l .clResult s =
      if s.inFlightFrom l .clResult then bridgeResultGone (s.setPort l { s.port l with inFlight := none }) else s := by
  unfold cancelFrom
  split
  · rename_i hf
    unfold State.inFlightFrom at hf
    unfold cancelInFlight
    cases hx : (s.port l).inFlight with
    | none => simp [hx] at hf
    | some x =>
      simp only [hx, beq_iff_eq] at hf
      simp [hf]
  · rfl

@[simp] theorem cancelFrom_key_frame (l : Link) (s : State) :
    (cancelFrom l .key s).clock = s.clock ∧ (cancelFrom l .key s).policy = s.policy
      ∧ (cancelFrom l .key s).tenants = s.tenants ∧ (cancelFrom l .key s).custody = s.custody
      ∧ (cancelFrom l .key s).keys = s.keys ∧ (cancelFrom l .key s).display = s.display
      ∧ (cancelFrom l .key s).printer = s.printer ∧ (cancelFrom l .key s).bridge = s.bridge
      ∧ (cancelFrom l .key s).air = s.air ∧ (cancelFrom l .key s).relay = s.relay
      ∧ (cancelFrom l .key s).lines = s.lines ∧ (cancelFrom l .key s).pending = s.pending := by
  rw [cancelFrom_quiet _ _ _ (by simp) (by simp)]; split <;> simp

@[simp] theorem cancelFrom_key_reads (l : Link) (s : State) :
    (∀ q, (cancelFrom l .key s).entry q = s.entry q) ∧ (∀ q, (cancelFrom l .key s).holder q = s.holder q)
      ∧ (∀ w q, (cancelFrom l .key s).holds w q = s.holds w q)
      ∧ (∀ w q, (cancelFrom l .key s).policyOf w q = s.policyOf w q)
      ∧ (∀ w, (cancelFrom l .key s).mayAct w = s.mayAct w)
      ∧ (∀ w, (cancelFrom l .key s).isFrozen w = s.isFrozen w)
      ∧ (∀ d, (cancelFrom l .key s).channel d = s.channel d) ∧ (cancelFrom l .key s).running = s.running
      ∧ (cancelFrom l .key s).fastLocked = s.fastLocked := by
  have d := State.derived (s := cancelFrom l .key s) (t := s)
  exact ⟨(d.2.1 (by simp)).1, (d.2.1 (by simp)).2.1, (d.2.1 (by simp)).2.2, (d.2.2.1 (by simp)), (d.2.2.2.1 (by simp)).1, (d.2.2.2.1 (by simp)).2, (d.2.2.2.2.1 (by simp)), (d.2.2.2.2.2 (by simp)).1, (d.2.2.2.2.2 (by simp)).2⟩

@[simp] theorem cancelFrom_key_inbound (l : Link) (j : Link) (s : State) :
    ((cancelFrom l .key s).port j).inbound = (s.port j).inbound := by
  rw [cancelFrom_quiet _ _ _ (by simp) (by simp)]; split <;> simp [setPort_port] <;> split <;> simp_all [Port.inbound]

@[simp] theorem cancelFrom_forward_frame (l : Link) (c : Fin 32) (s : State) :
    (cancelFrom l (.forward c) s).clock = s.clock ∧ (cancelFrom l (.forward c) s).policy = s.policy
      ∧ (cancelFrom l (.forward c) s).tenants = s.tenants ∧ (cancelFrom l (.forward c) s).custody = s.custody
      ∧ (cancelFrom l (.forward c) s).keys = s.keys ∧ (cancelFrom l (.forward c) s).display = s.display
      ∧ (cancelFrom l (.forward c) s).printer = s.printer ∧ (cancelFrom l (.forward c) s).bridge = s.bridge
      ∧ (cancelFrom l (.forward c) s).air = s.air ∧ (cancelFrom l (.forward c) s).relay = s.relay
      ∧ (cancelFrom l (.forward c) s).lines = s.lines ∧ (cancelFrom l (.forward c) s).pending = s.pending := by
  rw [cancelFrom_quiet _ _ _ (by simp) (by simp)]; split <;> simp

@[simp] theorem cancelFrom_forward_reads (l : Link) (c : Fin 32) (s : State) :
    (∀ q, (cancelFrom l (.forward c) s).entry q = s.entry q)
      ∧ (∀ q, (cancelFrom l (.forward c) s).holder q = s.holder q)
      ∧ (∀ w q, (cancelFrom l (.forward c) s).holds w q = s.holds w q)
      ∧ (∀ w q, (cancelFrom l (.forward c) s).policyOf w q = s.policyOf w q)
      ∧ (∀ w, (cancelFrom l (.forward c) s).mayAct w = s.mayAct w)
      ∧ (∀ w, (cancelFrom l (.forward c) s).isFrozen w = s.isFrozen w)
      ∧ (∀ d, (cancelFrom l (.forward c) s).channel d = s.channel d)
      ∧ (cancelFrom l (.forward c) s).running = s.running
      ∧ (cancelFrom l (.forward c) s).fastLocked = s.fastLocked := by
  have d := State.derived (s := cancelFrom l (.forward c) s) (t := s)
  exact ⟨(d.2.1 (by simp)).1, (d.2.1 (by simp)).2.1, (d.2.1 (by simp)).2.2, (d.2.2.1 (by simp)), (d.2.2.2.1 (by simp)).1, (d.2.2.2.1 (by simp)).2, (d.2.2.2.2.1 (by simp)), (d.2.2.2.2.2 (by simp)).1, (d.2.2.2.2.2 (by simp)).2⟩

@[simp] theorem cancelFrom_forward_inbound (l : Link) (c : Fin 32) (j : Link) (s : State) :
    ((cancelFrom l (.forward c) s).port j).inbound = (s.port j).inbound := by
  rw [cancelFrom_quiet _ _ _ (by simp) (by simp)]; split <;> simp [setPort_port] <;> split <;> simp_all [Port.inbound]

@[simp] theorem cancelFrom_deliver_frame (l : Link) (c : Fin 32) (s : State) :
    (cancelFrom l (.deliver c) s).clock = s.clock ∧ (cancelFrom l (.deliver c) s).policy = s.policy
      ∧ (cancelFrom l (.deliver c) s).tenants = s.tenants ∧ (cancelFrom l (.deliver c) s).custody = s.custody
      ∧ (cancelFrom l (.deliver c) s).keys = s.keys ∧ (cancelFrom l (.deliver c) s).display = s.display
      ∧ (cancelFrom l (.deliver c) s).printer = s.printer ∧ (cancelFrom l (.deliver c) s).bridge = s.bridge
      ∧ (cancelFrom l (.deliver c) s).air = s.air ∧ (cancelFrom l (.deliver c) s).relay = s.relay
      ∧ (cancelFrom l (.deliver c) s).lines = s.lines ∧ (cancelFrom l (.deliver c) s).pending = s.pending := by
  rw [cancelFrom_quiet _ _ _ (by simp) (by simp)]; split <;> simp

@[simp] theorem cancelFrom_deliver_reads (l : Link) (c : Fin 32) (s : State) :
    (∀ q, (cancelFrom l (.deliver c) s).entry q = s.entry q)
      ∧ (∀ q, (cancelFrom l (.deliver c) s).holder q = s.holder q)
      ∧ (∀ w q, (cancelFrom l (.deliver c) s).holds w q = s.holds w q)
      ∧ (∀ w q, (cancelFrom l (.deliver c) s).policyOf w q = s.policyOf w q)
      ∧ (∀ w, (cancelFrom l (.deliver c) s).mayAct w = s.mayAct w)
      ∧ (∀ w, (cancelFrom l (.deliver c) s).isFrozen w = s.isFrozen w)
      ∧ (∀ d, (cancelFrom l (.deliver c) s).channel d = s.channel d)
      ∧ (cancelFrom l (.deliver c) s).running = s.running
      ∧ (cancelFrom l (.deliver c) s).fastLocked = s.fastLocked := by
  have d := State.derived (s := cancelFrom l (.deliver c) s) (t := s)
  exact ⟨(d.2.1 (by simp)).1, (d.2.1 (by simp)).2.1, (d.2.1 (by simp)).2.2, (d.2.2.1 (by simp)), (d.2.2.2.1 (by simp)).1, (d.2.2.2.1 (by simp)).2, (d.2.2.2.2.1 (by simp)), (d.2.2.2.2.2 (by simp)).1, (d.2.2.2.2.2 (by simp)).2⟩

@[simp] theorem cancelFrom_deliver_inbound (l : Link) (c : Fin 32) (j : Link) (s : State) :
    ((cancelFrom l (.deliver c) s).port j).inbound = (s.port j).inbound := by
  rw [cancelFrom_quiet _ _ _ (by simp) (by simp)]; split <;> simp [setPort_port] <;> split <;> simp_all [Port.inbound]

@[simp] theorem cancelFrom_clResult_frame (l : Link) (s : State) :
    (cancelFrom l .clResult s).clock = s.clock ∧ (cancelFrom l .clResult s).policy = s.policy
      ∧ (cancelFrom l .clResult s).tenants = s.tenants ∧ (cancelFrom l .clResult s).custody = s.custody
      ∧ (cancelFrom l .clResult s).keys = s.keys ∧ (cancelFrom l .clResult s).display = s.display
      ∧ (cancelFrom l .clResult s).printer = s.printer ∧ (cancelFrom l .clResult s).air = s.air
      ∧ (cancelFrom l .clResult s).relay = s.relay ∧ (cancelFrom l .clResult s).lines = s.lines
      ∧ (cancelFrom l .clResult s).pending = s.pending := by
  rw [cancelFrom_result]; split <;> simp

@[simp] theorem cancelFrom_clResult_reads (l : Link) (s : State) :
    (∀ q, (cancelFrom l .clResult s).entry q = s.entry q)
      ∧ (∀ q, (cancelFrom l .clResult s).holder q = s.holder q)
      ∧ (∀ w q, (cancelFrom l .clResult s).holds w q = s.holds w q)
      ∧ (∀ w q, (cancelFrom l .clResult s).policyOf w q = s.policyOf w q)
      ∧ (∀ w, (cancelFrom l .clResult s).mayAct w = s.mayAct w)
      ∧ (∀ w, (cancelFrom l .clResult s).isFrozen w = s.isFrozen w)
      ∧ (∀ d, (cancelFrom l .clResult s).channel d = s.channel d)
      ∧ (cancelFrom l .clResult s).running = s.running ∧ (cancelFrom l .clResult s).fastLocked = s.fastLocked := by
  have d := State.derived (s := cancelFrom l .clResult s) (t := s)
  exact ⟨(d.2.1 (by simp)).1, (d.2.1 (by simp)).2.1, (d.2.1 (by simp)).2.2, (d.2.2.1 (by simp)), (d.2.2.2.1 (by simp)).1, (d.2.2.2.1 (by simp)).2, (d.2.2.2.2.1 (by simp)), (d.2.2.2.2.2 (by simp)).1, (d.2.2.2.2.2 (by simp)).2⟩

@[simp] theorem cancelFrom_clResult_inbound (l : Link) (j : Link) (s : State) :
    ((cancelFrom l .clResult s).port j).inbound = (s.port j).inbound := by
  rw [cancelFrom_result]; split <;> simp [setPort_port] <;> split <;> simp_all [Port.inbound]

@[simp] theorem judgeWaiting_frame (f : RadioFn) (s : State) :
    (judgeWaiting f s).clock = s.clock ∧ (judgeWaiting f s).ports = s.ports
      ∧ (judgeWaiting f s).policy = s.policy ∧ (judgeWaiting f s).tenants = s.tenants
      ∧ (judgeWaiting f s).custody = s.custody ∧ (judgeWaiting f s).keys = s.keys
      ∧ (judgeWaiting f s).display = s.display ∧ (judgeWaiting f s).printer = s.printer
      ∧ (judgeWaiting f s).bridge = s.bridge ∧ (judgeWaiting f s).relay = s.relay
      ∧ (judgeWaiting f s).lines = s.lines ∧ (judgeWaiting f s).pending = s.pending := by
  unfold judgeWaiting; (try dsimp only); (repeat' split) <;> simp [State.setRadio]

@[simp] theorem judgeWaiting_reads (f : RadioFn) (s : State) :
    (∀ k, (judgeWaiting f s).port k = s.port k)
      ∧ (∀ k src, (judgeWaiting f s).inFlightFrom k src = s.inFlightFrom k src)
      ∧ (∀ q, (judgeWaiting f s).entry q = s.entry q) ∧ (∀ q, (judgeWaiting f s).holder q = s.holder q)
      ∧ (∀ w q, (judgeWaiting f s).holds w q = s.holds w q)
      ∧ (∀ w q, (judgeWaiting f s).policyOf w q = s.policyOf w q)
      ∧ (∀ w, (judgeWaiting f s).mayAct w = s.mayAct w) ∧ (∀ w, (judgeWaiting f s).isFrozen w = s.isFrozen w)
      ∧ (∀ d, (judgeWaiting f s).channel d = s.channel d) ∧ (judgeWaiting f s).running = s.running
      ∧ (judgeWaiting f s).fastLocked = s.fastLocked := by
  have d := State.derived (s := judgeWaiting f s) (t := s)
  exact ⟨(d.1 (by simp)).1, (d.1 (by simp)).2, (d.2.1 (by simp)).1, (d.2.1 (by simp)).2.1, (d.2.1 (by simp)).2.2, (d.2.2.1 (by simp)), (d.2.2.2.1 (by simp)).1, (d.2.2.2.1 (by simp)).2, (d.2.2.2.2.1 (by simp)), (d.2.2.2.2.2 (by simp)).1, (d.2.2.2.2.2 (by simp)).2⟩

@[simp] theorem judgeAll_frame (s : State) :
    (judgeAll s).clock = s.clock ∧ (judgeAll s).ports = s.ports ∧ (judgeAll s).policy = s.policy
      ∧ (judgeAll s).tenants = s.tenants ∧ (judgeAll s).custody = s.custody ∧ (judgeAll s).keys = s.keys
      ∧ (judgeAll s).display = s.display ∧ (judgeAll s).printer = s.printer ∧ (judgeAll s).bridge = s.bridge
      ∧ (judgeAll s).relay = s.relay ∧ (judgeAll s).lines = s.lines ∧ (judgeAll s).pending = s.pending := by
  unfold judgeAll; (try dsimp only); (repeat' split) <;> simp

@[simp] theorem judgeAll_reads (s : State) :
    (∀ k, (judgeAll s).port k = s.port k) ∧ (∀ k src, (judgeAll s).inFlightFrom k src = s.inFlightFrom k src)
      ∧ (∀ q, (judgeAll s).entry q = s.entry q) ∧ (∀ q, (judgeAll s).holder q = s.holder q)
      ∧ (∀ w q, (judgeAll s).holds w q = s.holds w q) ∧ (∀ w q, (judgeAll s).policyOf w q = s.policyOf w q)
      ∧ (∀ w, (judgeAll s).mayAct w = s.mayAct w) ∧ (∀ w, (judgeAll s).isFrozen w = s.isFrozen w)
      ∧ (∀ d, (judgeAll s).channel d = s.channel d) ∧ (judgeAll s).running = s.running
      ∧ (judgeAll s).fastLocked = s.fastLocked := by
  have d := State.derived (s := judgeAll s) (t := s)
  exact ⟨(d.1 (by simp)).1, (d.1 (by simp)).2, (d.2.1 (by simp)).1, (d.2.1 (by simp)).2.1, (d.2.1 (by simp)).2.2, (d.2.2.1 (by simp)), (d.2.2.2.1 (by simp)).1, (d.2.2.2.1 (by simp)).2, (d.2.2.2.2.1 (by simp)), (d.2.2.2.2.2 (by simp)).1, (d.2.2.2.2.2 (by simp)).2⟩

@[simp] theorem withdrawGrant_frame (f : RadioFn) (s : State) :
    (withdrawGrant f s).clock = s.clock ∧ (withdrawGrant f s).policy = s.policy
      ∧ (withdrawGrant f s).tenants = s.tenants ∧ (withdrawGrant f s).custody = s.custody
      ∧ (withdrawGrant f s).keys = s.keys ∧ (withdrawGrant f s).display = s.display
      ∧ (withdrawGrant f s).printer = s.printer ∧ (withdrawGrant f s).bridge = s.bridge
      ∧ (withdrawGrant f s).relay = s.relay ∧ (withdrawGrant f s).lines = s.lines
      ∧ (withdrawGrant f s).pending = s.pending := by
  unfold withdrawGrant; (try dsimp only); (repeat' split) <;> simp [State.setRadio]

@[simp] theorem withdrawGrant_reads (f : RadioFn) (s : State) :
    (∀ q, (withdrawGrant f s).entry q = s.entry q) ∧ (∀ q, (withdrawGrant f s).holder q = s.holder q)
      ∧ (∀ w q, (withdrawGrant f s).holds w q = s.holds w q)
      ∧ (∀ w q, (withdrawGrant f s).policyOf w q = s.policyOf w q)
      ∧ (∀ w, (withdrawGrant f s).mayAct w = s.mayAct w) ∧ (∀ w, (withdrawGrant f s).isFrozen w = s.isFrozen w)
      ∧ (∀ d, (withdrawGrant f s).channel d = s.channel d) ∧ (withdrawGrant f s).running = s.running
      ∧ (withdrawGrant f s).fastLocked = s.fastLocked := by
  have d := State.derived (s := withdrawGrant f s) (t := s)
  exact ⟨(d.2.1 (by simp)).1, (d.2.1 (by simp)).2.1, (d.2.1 (by simp)).2.2, (d.2.2.1 (by simp)), (d.2.2.2.1 (by simp)).1, (d.2.2.2.1 (by simp)).2, (d.2.2.2.2.1 (by simp)), (d.2.2.2.2.2 (by simp)).1, (d.2.2.2.2.2 (by simp)).2⟩

@[simp] theorem withdrawGrant_inbound (f : RadioFn) (j : Link) (s : State) :
    ((withdrawGrant f s).port j).inbound = (s.port j).inbound := by
  unfold withdrawGrant; (try dsimp only); (repeat' split) <;> simp [State.setRadio]

@[simp] theorem boundaryJudge_frame (f : RadioFn) (s : State) :
    (boundaryJudge f s).clock = s.clock ∧ (boundaryJudge f s).policy = s.policy
      ∧ (boundaryJudge f s).tenants = s.tenants ∧ (boundaryJudge f s).custody = s.custody
      ∧ (boundaryJudge f s).keys = s.keys ∧ (boundaryJudge f s).display = s.display
      ∧ (boundaryJudge f s).printer = s.printer ∧ (boundaryJudge f s).bridge = s.bridge
      ∧ (boundaryJudge f s).relay = s.relay ∧ (boundaryJudge f s).lines = s.lines
      ∧ (boundaryJudge f s).pending = s.pending := by
  unfold boundaryJudge; (try dsimp only); (repeat' split) <;> simp

@[simp] theorem boundaryJudge_reads (f : RadioFn) (s : State) :
    (∀ q, (boundaryJudge f s).entry q = s.entry q) ∧ (∀ q, (boundaryJudge f s).holder q = s.holder q)
      ∧ (∀ w q, (boundaryJudge f s).holds w q = s.holds w q)
      ∧ (∀ w q, (boundaryJudge f s).policyOf w q = s.policyOf w q)
      ∧ (∀ w, (boundaryJudge f s).mayAct w = s.mayAct w) ∧ (∀ w, (boundaryJudge f s).isFrozen w = s.isFrozen w)
      ∧ (∀ d, (boundaryJudge f s).channel d = s.channel d) ∧ (boundaryJudge f s).running = s.running
      ∧ (boundaryJudge f s).fastLocked = s.fastLocked := by
  have d := State.derived (s := boundaryJudge f s) (t := s)
  exact ⟨(d.2.1 (by simp)).1, (d.2.1 (by simp)).2.1, (d.2.1 (by simp)).2.2, (d.2.2.1 (by simp)), (d.2.2.2.1 (by simp)).1, (d.2.2.2.1 (by simp)).2, (d.2.2.2.2.1 (by simp)), (d.2.2.2.2.2 (by simp)).1, (d.2.2.2.2.2 (by simp)).2⟩

@[simp] theorem boundaryJudge_inbound (f : RadioFn) (j : Link) (s : State) :
    ((boundaryJudge f s).port j).inbound = (s.port j).inbound := by
  unfold boundaryJudge; (try dsimp only); (repeat' split) <;> simp

@[simp] theorem boundaryJudgeAll_frame (s : State) :
    (boundaryJudgeAll s).clock = s.clock ∧ (boundaryJudgeAll s).policy = s.policy
      ∧ (boundaryJudgeAll s).tenants = s.tenants ∧ (boundaryJudgeAll s).custody = s.custody
      ∧ (boundaryJudgeAll s).keys = s.keys ∧ (boundaryJudgeAll s).display = s.display
      ∧ (boundaryJudgeAll s).printer = s.printer ∧ (boundaryJudgeAll s).bridge = s.bridge
      ∧ (boundaryJudgeAll s).relay = s.relay ∧ (boundaryJudgeAll s).lines = s.lines
      ∧ (boundaryJudgeAll s).pending = s.pending := by
  unfold boundaryJudgeAll; (try dsimp only); (repeat' split) <;> simp

@[simp] theorem boundaryJudgeAll_reads (s : State) :
    (∀ q, (boundaryJudgeAll s).entry q = s.entry q) ∧ (∀ q, (boundaryJudgeAll s).holder q = s.holder q)
      ∧ (∀ w q, (boundaryJudgeAll s).holds w q = s.holds w q)
      ∧ (∀ w q, (boundaryJudgeAll s).policyOf w q = s.policyOf w q)
      ∧ (∀ w, (boundaryJudgeAll s).mayAct w = s.mayAct w)
      ∧ (∀ w, (boundaryJudgeAll s).isFrozen w = s.isFrozen w)
      ∧ (∀ d, (boundaryJudgeAll s).channel d = s.channel d) ∧ (boundaryJudgeAll s).running = s.running
      ∧ (boundaryJudgeAll s).fastLocked = s.fastLocked := by
  have d := State.derived (s := boundaryJudgeAll s) (t := s)
  exact ⟨(d.2.1 (by simp)).1, (d.2.1 (by simp)).2.1, (d.2.1 (by simp)).2.2, (d.2.2.1 (by simp)), (d.2.2.2.1 (by simp)).1, (d.2.2.2.1 (by simp)).2, (d.2.2.2.2.1 (by simp)), (d.2.2.2.2.2 (by simp)).1, (d.2.2.2.2.2 (by simp)).2⟩

@[simp] theorem boundaryJudgeAll_inbound (j : Link) (s : State) :
    ((boundaryJudgeAll s).port j).inbound = (s.port j).inbound := by
  unfold boundaryJudgeAll; (try dsimp only); (repeat' split) <;> simp

@[simp] theorem armingJudge_frame (f : RadioFn) (s : State) :
    (armingJudge f s).clock = s.clock ∧ (armingJudge f s).policy = s.policy
      ∧ (armingJudge f s).tenants = s.tenants ∧ (armingJudge f s).custody = s.custody
      ∧ (armingJudge f s).keys = s.keys ∧ (armingJudge f s).display = s.display
      ∧ (armingJudge f s).printer = s.printer ∧ (armingJudge f s).bridge = s.bridge
      ∧ (armingJudge f s).relay = s.relay ∧ (armingJudge f s).lines = s.lines
      ∧ (armingJudge f s).pending = s.pending := by
  unfold armingJudge; (try dsimp only); (repeat' split) <;> simp

@[simp] theorem armingJudge_reads (f : RadioFn) (s : State) :
    (∀ q, (armingJudge f s).entry q = s.entry q) ∧ (∀ q, (armingJudge f s).holder q = s.holder q)
      ∧ (∀ w q, (armingJudge f s).holds w q = s.holds w q)
      ∧ (∀ w q, (armingJudge f s).policyOf w q = s.policyOf w q)
      ∧ (∀ w, (armingJudge f s).mayAct w = s.mayAct w) ∧ (∀ w, (armingJudge f s).isFrozen w = s.isFrozen w)
      ∧ (∀ d, (armingJudge f s).channel d = s.channel d) ∧ (armingJudge f s).running = s.running
      ∧ (armingJudge f s).fastLocked = s.fastLocked := by
  have d := State.derived (s := armingJudge f s) (t := s)
  exact ⟨(d.2.1 (by simp)).1, (d.2.1 (by simp)).2.1, (d.2.1 (by simp)).2.2, (d.2.2.1 (by simp)), (d.2.2.2.1 (by simp)).1, (d.2.2.2.1 (by simp)).2, (d.2.2.2.2.1 (by simp)), (d.2.2.2.2.2 (by simp)).1, (d.2.2.2.2.2 (by simp)).2⟩

@[simp] theorem armingJudge_inbound (f : RadioFn) (j : Link) (s : State) :
    ((armingJudge f s).port j).inbound = (s.port j).inbound := by
  unfold armingJudge; (try dsimp only); (repeat' split) <;> simp

@[simp] theorem armingJudgeAll_frame (s : State) :
    (armingJudgeAll s).clock = s.clock ∧ (armingJudgeAll s).policy = s.policy
      ∧ (armingJudgeAll s).tenants = s.tenants ∧ (armingJudgeAll s).custody = s.custody
      ∧ (armingJudgeAll s).keys = s.keys ∧ (armingJudgeAll s).display = s.display
      ∧ (armingJudgeAll s).printer = s.printer ∧ (armingJudgeAll s).bridge = s.bridge
      ∧ (armingJudgeAll s).relay = s.relay ∧ (armingJudgeAll s).lines = s.lines
      ∧ (armingJudgeAll s).pending = s.pending := by
  unfold armingJudgeAll; (try dsimp only); (repeat' split) <;> simp

@[simp] theorem armingJudgeAll_reads (s : State) :
    (∀ q, (armingJudgeAll s).entry q = s.entry q) ∧ (∀ q, (armingJudgeAll s).holder q = s.holder q)
      ∧ (∀ w q, (armingJudgeAll s).holds w q = s.holds w q)
      ∧ (∀ w q, (armingJudgeAll s).policyOf w q = s.policyOf w q)
      ∧ (∀ w, (armingJudgeAll s).mayAct w = s.mayAct w) ∧ (∀ w, (armingJudgeAll s).isFrozen w = s.isFrozen w)
      ∧ (∀ d, (armingJudgeAll s).channel d = s.channel d) ∧ (armingJudgeAll s).running = s.running
      ∧ (armingJudgeAll s).fastLocked = s.fastLocked := by
  have d := State.derived (s := armingJudgeAll s) (t := s)
  exact ⟨(d.2.1 (by simp)).1, (d.2.1 (by simp)).2.1, (d.2.1 (by simp)).2.2, (d.2.2.1 (by simp)), (d.2.2.2.1 (by simp)).1, (d.2.2.2.1 (by simp)).2, (d.2.2.2.2.1 (by simp)), (d.2.2.2.2.2 (by simp)).1, (d.2.2.2.2.2 (by simp)).2⟩

@[simp] theorem armingJudgeAll_inbound (j : Link) (s : State) :
    ((armingJudgeAll s).port j).inbound = (s.port j).inbound := by
  unfold armingJudgeAll; (try dsimp only); (repeat' split) <;> simp

@[simp] theorem judgeGate_frame (s : State) :
    (judgeGate s).clock = s.clock ∧ (judgeGate s).ports = s.ports ∧ (judgeGate s).policy = s.policy
      ∧ (judgeGate s).tenants = s.tenants ∧ (judgeGate s).custody = s.custody ∧ (judgeGate s).keys = s.keys
      ∧ (judgeGate s).display = s.display ∧ (judgeGate s).printer = s.printer ∧ (judgeGate s).air = s.air
      ∧ (judgeGate s).relay = s.relay ∧ (judgeGate s).lines = s.lines ∧ (judgeGate s).pending = s.pending := by
  unfold judgeGate; (try dsimp only); (repeat' split) <;> simp

@[simp] theorem judgeGate_reads (s : State) :
    (∀ k, (judgeGate s).port k = s.port k) ∧ (∀ k src, (judgeGate s).inFlightFrom k src = s.inFlightFrom k src)
      ∧ (∀ q, (judgeGate s).entry q = s.entry q) ∧ (∀ q, (judgeGate s).holder q = s.holder q)
      ∧ (∀ w q, (judgeGate s).holds w q = s.holds w q) ∧ (∀ w q, (judgeGate s).policyOf w q = s.policyOf w q)
      ∧ (∀ w, (judgeGate s).mayAct w = s.mayAct w) ∧ (∀ w, (judgeGate s).isFrozen w = s.isFrozen w)
      ∧ (∀ d, (judgeGate s).channel d = s.channel d) ∧ (judgeGate s).running = s.running
      ∧ (judgeGate s).fastLocked = s.fastLocked := by
  have d := State.derived (s := judgeGate s) (t := s)
  exact ⟨(d.1 (by simp)).1, (d.1 (by simp)).2, (d.2.1 (by simp)).1, (d.2.1 (by simp)).2.1, (d.2.1 (by simp)).2.2, (d.2.2.1 (by simp)), (d.2.2.2.1 (by simp)).1, (d.2.2.2.1 (by simp)).2, (d.2.2.2.2.1 (by simp)), (d.2.2.2.2.2 (by simp)).1, (d.2.2.2.2.2 (by simp)).2⟩

@[simp] theorem takeArrival_frame (s : State) :
    ((takeArrival s).2).clock = s.clock ∧ ((takeArrival s).2).ports = s.ports
      ∧ ((takeArrival s).2).policy = s.policy ∧ ((takeArrival s).2).tenants = s.tenants
      ∧ ((takeArrival s).2).keys = s.keys ∧ ((takeArrival s).2).display = s.display
      ∧ ((takeArrival s).2).printer = s.printer ∧ ((takeArrival s).2).bridge = s.bridge
      ∧ ((takeArrival s).2).air = s.air ∧ ((takeArrival s).2).relay = s.relay
      ∧ ((takeArrival s).2).lines = s.lines ∧ ((takeArrival s).2).pending = s.pending := by
  simp [takeArrival]

@[simp] theorem takeArrival_reads (s : State) :
    (∀ k, ((takeArrival s).2).port k = s.port k)
      ∧ (∀ k src, ((takeArrival s).2).inFlightFrom k src = s.inFlightFrom k src)
      ∧ (∀ w q, ((takeArrival s).2).policyOf w q = s.policyOf w q)
      ∧ (∀ w, ((takeArrival s).2).mayAct w = s.mayAct w) ∧ (∀ w, ((takeArrival s).2).isFrozen w = s.isFrozen w)
      ∧ (∀ d, ((takeArrival s).2).channel d = s.channel d) ∧ ((takeArrival s).2).running = s.running
      ∧ ((takeArrival s).2).fastLocked = s.fastLocked := by
  have d := State.derived (s := (takeArrival s).2) (t := s)
  exact ⟨(d.1 (by simp)).1, (d.1 (by simp)).2, (d.2.2.1 (by simp)), (d.2.2.2.1 (by simp)).1, (d.2.2.2.1 (by simp)).2, (d.2.2.2.2.1 (by simp)), (d.2.2.2.2.2 (by simp)).1, (d.2.2.2.2.2 (by simp)).2⟩

@[simp] theorem recomputeLamp_frame (s : State) :
    (recomputeLamp s).clock = s.clock ∧ (recomputeLamp s).ports = s.ports ∧ (recomputeLamp s).policy = s.policy
      ∧ (recomputeLamp s).tenants = s.tenants ∧ (recomputeLamp s).custody = s.custody
      ∧ (recomputeLamp s).keys = s.keys ∧ (recomputeLamp s).printer = s.printer
      ∧ (recomputeLamp s).bridge = s.bridge ∧ (recomputeLamp s).air = s.air ∧ (recomputeLamp s).relay = s.relay
      ∧ (recomputeLamp s).lines = s.lines ∧ (recomputeLamp s).pending = s.pending := by
  unfold recomputeLamp; (try dsimp only); (repeat' split) <;> simp

@[simp] theorem recomputeLamp_reads (s : State) :
    (∀ k, (recomputeLamp s).port k = s.port k)
      ∧ (∀ k src, (recomputeLamp s).inFlightFrom k src = s.inFlightFrom k src)
      ∧ (∀ q, (recomputeLamp s).entry q = s.entry q) ∧ (∀ q, (recomputeLamp s).holder q = s.holder q)
      ∧ (∀ w q, (recomputeLamp s).holds w q = s.holds w q)
      ∧ (∀ w q, (recomputeLamp s).policyOf w q = s.policyOf w q)
      ∧ (∀ w, (recomputeLamp s).mayAct w = s.mayAct w) ∧ (∀ w, (recomputeLamp s).isFrozen w = s.isFrozen w)
      ∧ (∀ d, (recomputeLamp s).channel d = s.channel d) ∧ (recomputeLamp s).running = s.running
      ∧ (recomputeLamp s).fastLocked = s.fastLocked := by
  have d := State.derived (s := recomputeLamp s) (t := s)
  exact ⟨(d.1 (by simp)).1, (d.1 (by simp)).2, (d.2.1 (by simp)).1, (d.2.1 (by simp)).2.1, (d.2.1 (by simp)).2.2, (d.2.2.1 (by simp)), (d.2.2.2.1 (by simp)).1, (d.2.2.2.1 (by simp)).2, (d.2.2.2.2.1 (by simp)), (d.2.2.2.2.2 (by simp)).1, (d.2.2.2.2.2 (by simp)).2⟩

@[simp] theorem resetMatcher_frame (s : State) :
    (resetMatcher s).clock = s.clock ∧ (resetMatcher s).ports = s.ports ∧ (resetMatcher s).policy = s.policy
      ∧ (resetMatcher s).tenants = s.tenants ∧ (resetMatcher s).custody = s.custody
      ∧ (resetMatcher s).display = s.display ∧ (resetMatcher s).printer = s.printer
      ∧ (resetMatcher s).bridge = s.bridge ∧ (resetMatcher s).air = s.air ∧ (resetMatcher s).relay = s.relay
      ∧ (resetMatcher s).lines = s.lines ∧ (resetMatcher s).pending = s.pending := by
  unfold resetMatcher; (try dsimp only); (repeat' split) <;> simp

@[simp] theorem resetMatcher_reads (s : State) :
    (∀ k, (resetMatcher s).port k = s.port k)
      ∧ (∀ k src, (resetMatcher s).inFlightFrom k src = s.inFlightFrom k src)
      ∧ (∀ q, (resetMatcher s).entry q = s.entry q) ∧ (∀ q, (resetMatcher s).holder q = s.holder q)
      ∧ (∀ w q, (resetMatcher s).holds w q = s.holds w q)
      ∧ (∀ w q, (resetMatcher s).policyOf w q = s.policyOf w q) ∧ (∀ w, (resetMatcher s).mayAct w = s.mayAct w)
      ∧ (∀ w, (resetMatcher s).isFrozen w = s.isFrozen w) ∧ (∀ d, (resetMatcher s).channel d = s.channel d)
      ∧ (resetMatcher s).running = s.running ∧ (resetMatcher s).fastLocked = s.fastLocked := by
  have d := State.derived (s := resetMatcher s) (t := s)
  exact ⟨(d.1 (by simp)).1, (d.1 (by simp)).2, (d.2.1 (by simp)).1, (d.2.1 (by simp)).2.1, (d.2.1 (by simp)).2.2, (d.2.2.1 (by simp)), (d.2.2.2.1 (by simp)).1, (d.2.2.2.1 (by simp)).2, (d.2.2.2.2.1 (by simp)), (d.2.2.2.2.2 (by simp)).1, (d.2.2.2.2.2 (by simp)).2⟩

@[simp] theorem grantStarted_frame (r : Resource) (who : Subject) (s : State) :
    (grantStarted r who s).clock = s.clock ∧ (grantStarted r who s).ports = s.ports
      ∧ (grantStarted r who s).policy = s.policy ∧ (grantStarted r who s).tenants = s.tenants
      ∧ (grantStarted r who s).custody = s.custody ∧ (grantStarted r who s).bridge = s.bridge
      ∧ (grantStarted r who s).air = s.air ∧ (grantStarted r who s).relay = s.relay
      ∧ (grantStarted r who s).lines = s.lines ∧ (grantStarted r who s).pending = s.pending := by
  unfold grantStarted; (try dsimp only); (repeat' split) <;> simp

@[simp] theorem grantStarted_reads (r : Resource) (who : Subject) (s : State) :
    (∀ k, (grantStarted r who s).port k = s.port k)
      ∧ (∀ k src, (grantStarted r who s).inFlightFrom k src = s.inFlightFrom k src)
      ∧ (∀ q, (grantStarted r who s).entry q = s.entry q) ∧ (∀ q, (grantStarted r who s).holder q = s.holder q)
      ∧ (∀ w q, (grantStarted r who s).holds w q = s.holds w q)
      ∧ (∀ w q, (grantStarted r who s).policyOf w q = s.policyOf w q)
      ∧ (∀ w, (grantStarted r who s).mayAct w = s.mayAct w)
      ∧ (∀ w, (grantStarted r who s).isFrozen w = s.isFrozen w)
      ∧ (∀ d, (grantStarted r who s).channel d = s.channel d) ∧ (grantStarted r who s).running = s.running
      ∧ (grantStarted r who s).fastLocked = s.fastLocked := by
  have d := State.derived (s := grantStarted r who s) (t := s)
  exact ⟨(d.1 (by simp)).1, (d.1 (by simp)).2, (d.2.1 (by simp)).1, (d.2.1 (by simp)).2.1, (d.2.1 (by simp)).2.2, (d.2.2.1 (by simp)), (d.2.2.2.1 (by simp)).1, (d.2.2.2.1 (by simp)).2, (d.2.2.2.2.1 (by simp)), (d.2.2.2.2.2 (by simp)).1, (d.2.2.2.2.2 (by simp)).2⟩

@[simp] theorem grantStarted_display_frame (who : Subject) (s : State) :
    (grantStarted .display who s).clock = s.clock ∧ (grantStarted .display who s).ports = s.ports
      ∧ (grantStarted .display who s).policy = s.policy ∧ (grantStarted .display who s).tenants = s.tenants
      ∧ (grantStarted .display who s).custody = s.custody ∧ (grantStarted .display who s).keys = s.keys
      ∧ (grantStarted .display who s).display = s.display ∧ (grantStarted .display who s).printer = s.printer
      ∧ (grantStarted .display who s).bridge = s.bridge ∧ (grantStarted .display who s).air = s.air
      ∧ (grantStarted .display who s).relay = s.relay ∧ (grantStarted .display who s).lines = s.lines
      ∧ (grantStarted .display who s).pending = s.pending := by
  simp [grantStarted]

@[simp] theorem grantStarted_display_reads (who : Subject) (s : State) :
    (∀ k, (grantStarted .display who s).port k = s.port k)
      ∧ (∀ k src, (grantStarted .display who s).inFlightFrom k src = s.inFlightFrom k src)
      ∧ (∀ q, (grantStarted .display who s).entry q = s.entry q)
      ∧ (∀ q, (grantStarted .display who s).holder q = s.holder q)
      ∧ (∀ w q, (grantStarted .display who s).holds w q = s.holds w q)
      ∧ (∀ w q, (grantStarted .display who s).policyOf w q = s.policyOf w q)
      ∧ (∀ w, (grantStarted .display who s).mayAct w = s.mayAct w)
      ∧ (∀ w, (grantStarted .display who s).isFrozen w = s.isFrozen w)
      ∧ (∀ d, (grantStarted .display who s).channel d = s.channel d)
      ∧ (grantStarted .display who s).running = s.running
      ∧ (grantStarted .display who s).fastLocked = s.fastLocked := by
  have d := State.derived (s := grantStarted .display who s) (t := s)
  exact ⟨(d.1 (by simp)).1, (d.1 (by simp)).2, (d.2.1 (by simp)).1, (d.2.1 (by simp)).2.1, (d.2.1 (by simp)).2.2, (d.2.2.1 (by simp)), (d.2.2.2.1 (by simp)).1, (d.2.2.2.1 (by simp)).2, (d.2.2.2.2.1 (by simp)), (d.2.2.2.2.2 (by simp)).1, (d.2.2.2.2.2 (by simp)).2⟩

@[simp] theorem grantStarted_cless_frame (who : Subject) (s : State) :
    (grantStarted .cless who s).clock = s.clock ∧ (grantStarted .cless who s).ports = s.ports
      ∧ (grantStarted .cless who s).policy = s.policy ∧ (grantStarted .cless who s).tenants = s.tenants
      ∧ (grantStarted .cless who s).custody = s.custody ∧ (grantStarted .cless who s).keys = s.keys
      ∧ (grantStarted .cless who s).display = s.display ∧ (grantStarted .cless who s).printer = s.printer
      ∧ (grantStarted .cless who s).bridge = s.bridge ∧ (grantStarted .cless who s).air = s.air
      ∧ (grantStarted .cless who s).relay = s.relay ∧ (grantStarted .cless who s).lines = s.lines
      ∧ (grantStarted .cless who s).pending = s.pending := by
  simp [grantStarted]

@[simp] theorem grantStarted_cless_reads (who : Subject) (s : State) :
    (∀ k, (grantStarted .cless who s).port k = s.port k)
      ∧ (∀ k src, (grantStarted .cless who s).inFlightFrom k src = s.inFlightFrom k src)
      ∧ (∀ q, (grantStarted .cless who s).entry q = s.entry q)
      ∧ (∀ q, (grantStarted .cless who s).holder q = s.holder q)
      ∧ (∀ w q, (grantStarted .cless who s).holds w q = s.holds w q)
      ∧ (∀ w q, (grantStarted .cless who s).policyOf w q = s.policyOf w q)
      ∧ (∀ w, (grantStarted .cless who s).mayAct w = s.mayAct w)
      ∧ (∀ w, (grantStarted .cless who s).isFrozen w = s.isFrozen w)
      ∧ (∀ d, (grantStarted .cless who s).channel d = s.channel d)
      ∧ (grantStarted .cless who s).running = s.running ∧ (grantStarted .cless who s).fastLocked = s.fastLocked := by
  have d := State.derived (s := grantStarted .cless who s) (t := s)
  exact ⟨(d.1 (by simp)).1, (d.1 (by simp)).2, (d.2.1 (by simp)).1, (d.2.1 (by simp)).2.1, (d.2.1 (by simp)).2.2, (d.2.2.1 (by simp)), (d.2.2.2.1 (by simp)).1, (d.2.2.2.1 (by simp)).2, (d.2.2.2.2.1 (by simp)), (d.2.2.2.2.2 (by simp)).1, (d.2.2.2.2.2 (by simp)).2⟩

@[simp] theorem grantStarted_printer_frame (who : Subject) (s : State) :
    (grantStarted .printer who s).clock = s.clock ∧ (grantStarted .printer who s).ports = s.ports
      ∧ (grantStarted .printer who s).policy = s.policy ∧ (grantStarted .printer who s).tenants = s.tenants
      ∧ (grantStarted .printer who s).custody = s.custody ∧ (grantStarted .printer who s).keys = s.keys
      ∧ (grantStarted .printer who s).display = s.display ∧ (grantStarted .printer who s).bridge = s.bridge
      ∧ (grantStarted .printer who s).air = s.air ∧ (grantStarted .printer who s).relay = s.relay
      ∧ (grantStarted .printer who s).lines = s.lines ∧ (grantStarted .printer who s).pending = s.pending := by
  simp [grantStarted]

@[simp] theorem grantStarted_printer_reads (who : Subject) (s : State) :
    (∀ k, (grantStarted .printer who s).port k = s.port k)
      ∧ (∀ k src, (grantStarted .printer who s).inFlightFrom k src = s.inFlightFrom k src)
      ∧ (∀ q, (grantStarted .printer who s).entry q = s.entry q)
      ∧ (∀ q, (grantStarted .printer who s).holder q = s.holder q)
      ∧ (∀ w q, (grantStarted .printer who s).holds w q = s.holds w q)
      ∧ (∀ w q, (grantStarted .printer who s).policyOf w q = s.policyOf w q)
      ∧ (∀ w, (grantStarted .printer who s).mayAct w = s.mayAct w)
      ∧ (∀ w, (grantStarted .printer who s).isFrozen w = s.isFrozen w)
      ∧ (∀ d, (grantStarted .printer who s).channel d = s.channel d)
      ∧ (grantStarted .printer who s).running = s.running
      ∧ (grantStarted .printer who s).fastLocked = s.fastLocked := by
  have d := State.derived (s := grantStarted .printer who s) (t := s)
  exact ⟨(d.1 (by simp)).1, (d.1 (by simp)).2, (d.2.1 (by simp)).1, (d.2.1 (by simp)).2.1, (d.2.1 (by simp)).2.2, (d.2.2.1 (by simp)), (d.2.2.2.1 (by simp)).1, (d.2.2.2.1 (by simp)).2, (d.2.2.2.2.1 (by simp)), (d.2.2.2.2.2 (by simp)).1, (d.2.2.2.2.2 (by simp)).2⟩

@[simp] theorem grantStarted_keypad_frame (who : Subject) (s : State) :
    (grantStarted .keypad who s).clock = s.clock ∧ (grantStarted .keypad who s).ports = s.ports
      ∧ (grantStarted .keypad who s).policy = s.policy ∧ (grantStarted .keypad who s).tenants = s.tenants
      ∧ (grantStarted .keypad who s).custody = s.custody ∧ (grantStarted .keypad who s).printer = s.printer
      ∧ (grantStarted .keypad who s).bridge = s.bridge ∧ (grantStarted .keypad who s).air = s.air
      ∧ (grantStarted .keypad who s).relay = s.relay ∧ (grantStarted .keypad who s).lines = s.lines
      ∧ (grantStarted .keypad who s).pending = s.pending := by
  simp only [grantStarted]; split <;> simp

@[simp] theorem grantStarted_keypad_reads (who : Subject) (s : State) :
    (∀ k, (grantStarted .keypad who s).port k = s.port k)
      ∧ (∀ k src, (grantStarted .keypad who s).inFlightFrom k src = s.inFlightFrom k src)
      ∧ (∀ q, (grantStarted .keypad who s).entry q = s.entry q)
      ∧ (∀ q, (grantStarted .keypad who s).holder q = s.holder q)
      ∧ (∀ w q, (grantStarted .keypad who s).holds w q = s.holds w q)
      ∧ (∀ w q, (grantStarted .keypad who s).policyOf w q = s.policyOf w q)
      ∧ (∀ w, (grantStarted .keypad who s).mayAct w = s.mayAct w)
      ∧ (∀ w, (grantStarted .keypad who s).isFrozen w = s.isFrozen w)
      ∧ (∀ d, (grantStarted .keypad who s).channel d = s.channel d)
      ∧ (grantStarted .keypad who s).running = s.running
      ∧ (grantStarted .keypad who s).fastLocked = s.fastLocked := by
  have d := State.derived (s := grantStarted .keypad who s) (t := s)
  exact ⟨(d.1 (by simp)).1, (d.1 (by simp)).2, (d.2.1 (by simp)).1, (d.2.1 (by simp)).2.1, (d.2.1 (by simp)).2.2, (d.2.2.1 (by simp)), (d.2.2.2.1 (by simp)).1, (d.2.2.2.1 (by simp)).2, (d.2.2.2.2.1 (by simp)), (d.2.2.2.2.2 (by simp)).1, (d.2.2.2.2.2 (by simp)).2⟩

@[simp] theorem startGrant_frame (r : Resource) (who : Subject) (priority : Nat) (order : BitVec 32) (returnFlag : Bool) (g : Gran) (s : State) :
    (startGrant r who priority order returnFlag g s).clock = s.clock
      ∧ (startGrant r who priority order returnFlag g s).ports = s.ports
      ∧ (startGrant r who priority order returnFlag g s).policy = s.policy
      ∧ (startGrant r who priority order returnFlag g s).tenants = s.tenants
      ∧ (startGrant r who priority order returnFlag g s).bridge = s.bridge
      ∧ (startGrant r who priority order returnFlag g s).air = s.air
      ∧ (startGrant r who priority order returnFlag g s).relay = s.relay
      ∧ (startGrant r who priority order returnFlag g s).lines = s.lines
      ∧ (startGrant r who priority order returnFlag g s).pending = s.pending := by
  unfold startGrant; (try dsimp only); (repeat' split) <;> simp

@[simp] theorem startGrant_reads (r : Resource) (who : Subject) (priority : Nat) (order : BitVec 32) (returnFlag : Bool) (g : Gran) (s : State) :
    (∀ k, (startGrant r who priority order returnFlag g s).port k = s.port k)
      ∧ (∀ k src, (startGrant r who priority order returnFlag g s).inFlightFrom k src = s.inFlightFrom k src)
      ∧ (∀ w q, (startGrant r who priority order returnFlag g s).policyOf w q = s.policyOf w q)
      ∧ (∀ w, (startGrant r who priority order returnFlag g s).mayAct w = s.mayAct w)
      ∧ (∀ w, (startGrant r who priority order returnFlag g s).isFrozen w = s.isFrozen w)
      ∧ (∀ d, (startGrant r who priority order returnFlag g s).channel d = s.channel d)
      ∧ (startGrant r who priority order returnFlag g s).running = s.running
      ∧ (startGrant r who priority order returnFlag g s).fastLocked = s.fastLocked := by
  have d := State.derived (s := startGrant r who priority order returnFlag g s) (t := s)
  exact ⟨(d.1 (by simp)).1, (d.1 (by simp)).2, (d.2.2.1 (by simp)), (d.2.2.2.1 (by simp)).1, (d.2.2.2.1 (by simp)).2, (d.2.2.2.2.1 (by simp)), (d.2.2.2.2.2 (by simp)).1, (d.2.2.2.2.2 (by simp)).2⟩

@[simp] theorem startGrant_keypad_frame (who : Subject) (priority : Nat) (order : BitVec 32) (returnFlag : Bool) (g : Gran) (s : State) :
    (startGrant .keypad who priority order returnFlag g s).clock = s.clock
      ∧ (startGrant .keypad who priority order returnFlag g s).ports = s.ports
      ∧ (startGrant .keypad who priority order returnFlag g s).policy = s.policy
      ∧ (startGrant .keypad who priority order returnFlag g s).tenants = s.tenants
      ∧ (startGrant .keypad who priority order returnFlag g s).printer = s.printer
      ∧ (startGrant .keypad who priority order returnFlag g s).bridge = s.bridge
      ∧ (startGrant .keypad who priority order returnFlag g s).air = s.air
      ∧ (startGrant .keypad who priority order returnFlag g s).relay = s.relay
      ∧ (startGrant .keypad who priority order returnFlag g s).lines = s.lines
      ∧ (startGrant .keypad who priority order returnFlag g s).pending = s.pending := by
  simp [startGrant]

@[simp] theorem startGrant_keypad_reads (who : Subject) (priority : Nat) (order : BitVec 32) (returnFlag : Bool) (g : Gran) (s : State) :
    (∀ k, (startGrant .keypad who priority order returnFlag g s).port k = s.port k)
      ∧ (∀ k src, (startGrant .keypad who priority order returnFlag g s).inFlightFrom k src = s.inFlightFrom k src)
      ∧ (∀ w q, (startGrant .keypad who priority order returnFlag g s).policyOf w q = s.policyOf w q)
      ∧ (∀ w, (startGrant .keypad who priority order returnFlag g s).mayAct w = s.mayAct w)
      ∧ (∀ w, (startGrant .keypad who priority order returnFlag g s).isFrozen w = s.isFrozen w)
      ∧ (∀ d, (startGrant .keypad who priority order returnFlag g s).channel d = s.channel d)
      ∧ (startGrant .keypad who priority order returnFlag g s).running = s.running
      ∧ (startGrant .keypad who priority order returnFlag g s).fastLocked = s.fastLocked := by
  have d := State.derived (s := startGrant .keypad who priority order returnFlag g s) (t := s)
  exact ⟨(d.1 (by simp)).1, (d.1 (by simp)).2, (d.2.2.1 (by simp)), (d.2.2.2.1 (by simp)).1, (d.2.2.2.1 (by simp)).2, (d.2.2.2.2.1 (by simp)), (d.2.2.2.2.2 (by simp)).1, (d.2.2.2.2.2 (by simp)).2⟩

@[simp] theorem startGrant_display_frame (who : Subject) (priority : Nat) (order : BitVec 32) (returnFlag : Bool) (g : Gran) (s : State) :
    (startGrant .display who priority order returnFlag g s).clock = s.clock
      ∧ (startGrant .display who priority order returnFlag g s).ports = s.ports
      ∧ (startGrant .display who priority order returnFlag g s).policy = s.policy
      ∧ (startGrant .display who priority order returnFlag g s).tenants = s.tenants
      ∧ (startGrant .display who priority order returnFlag g s).keys = s.keys
      ∧ (startGrant .display who priority order returnFlag g s).display = s.display
      ∧ (startGrant .display who priority order returnFlag g s).printer = s.printer
      ∧ (startGrant .display who priority order returnFlag g s).bridge = s.bridge
      ∧ (startGrant .display who priority order returnFlag g s).air = s.air
      ∧ (startGrant .display who priority order returnFlag g s).relay = s.relay
      ∧ (startGrant .display who priority order returnFlag g s).lines = s.lines
      ∧ (startGrant .display who priority order returnFlag g s).pending = s.pending := by
  simp [startGrant]

@[simp] theorem startGrant_display_reads (who : Subject) (priority : Nat) (order : BitVec 32) (returnFlag : Bool) (g : Gran) (s : State) :
    (∀ k, (startGrant .display who priority order returnFlag g s).port k = s.port k)
      ∧ (∀ k src, (startGrant .display who priority order returnFlag g s).inFlightFrom k src = s.inFlightFrom k src)
      ∧ (∀ w q, (startGrant .display who priority order returnFlag g s).policyOf w q = s.policyOf w q)
      ∧ (∀ w, (startGrant .display who priority order returnFlag g s).mayAct w = s.mayAct w)
      ∧ (∀ w, (startGrant .display who priority order returnFlag g s).isFrozen w = s.isFrozen w)
      ∧ (∀ d, (startGrant .display who priority order returnFlag g s).channel d = s.channel d)
      ∧ (startGrant .display who priority order returnFlag g s).running = s.running
      ∧ (startGrant .display who priority order returnFlag g s).fastLocked = s.fastLocked := by
  have d := State.derived (s := startGrant .display who priority order returnFlag g s) (t := s)
  exact ⟨(d.1 (by simp)).1, (d.1 (by simp)).2, (d.2.2.1 (by simp)), (d.2.2.2.1 (by simp)).1, (d.2.2.2.1 (by simp)).2, (d.2.2.2.2.1 (by simp)), (d.2.2.2.2.2 (by simp)).1, (d.2.2.2.2.2 (by simp)).2⟩

@[simp] theorem startGrant_cless_frame (who : Subject) (priority : Nat) (order : BitVec 32) (returnFlag : Bool) (g : Gran) (s : State) :
    (startGrant .cless who priority order returnFlag g s).clock = s.clock
      ∧ (startGrant .cless who priority order returnFlag g s).ports = s.ports
      ∧ (startGrant .cless who priority order returnFlag g s).policy = s.policy
      ∧ (startGrant .cless who priority order returnFlag g s).tenants = s.tenants
      ∧ (startGrant .cless who priority order returnFlag g s).keys = s.keys
      ∧ (startGrant .cless who priority order returnFlag g s).display = s.display
      ∧ (startGrant .cless who priority order returnFlag g s).printer = s.printer
      ∧ (startGrant .cless who priority order returnFlag g s).bridge = s.bridge
      ∧ (startGrant .cless who priority order returnFlag g s).air = s.air
      ∧ (startGrant .cless who priority order returnFlag g s).relay = s.relay
      ∧ (startGrant .cless who priority order returnFlag g s).lines = s.lines
      ∧ (startGrant .cless who priority order returnFlag g s).pending = s.pending := by
  simp [startGrant]

@[simp] theorem startGrant_cless_reads (who : Subject) (priority : Nat) (order : BitVec 32) (returnFlag : Bool) (g : Gran) (s : State) :
    (∀ k, (startGrant .cless who priority order returnFlag g s).port k = s.port k)
      ∧ (∀ k src, (startGrant .cless who priority order returnFlag g s).inFlightFrom k src = s.inFlightFrom k src)
      ∧ (∀ w q, (startGrant .cless who priority order returnFlag g s).policyOf w q = s.policyOf w q)
      ∧ (∀ w, (startGrant .cless who priority order returnFlag g s).mayAct w = s.mayAct w)
      ∧ (∀ w, (startGrant .cless who priority order returnFlag g s).isFrozen w = s.isFrozen w)
      ∧ (∀ d, (startGrant .cless who priority order returnFlag g s).channel d = s.channel d)
      ∧ (startGrant .cless who priority order returnFlag g s).running = s.running
      ∧ (startGrant .cless who priority order returnFlag g s).fastLocked = s.fastLocked := by
  have d := State.derived (s := startGrant .cless who priority order returnFlag g s) (t := s)
  exact ⟨(d.1 (by simp)).1, (d.1 (by simp)).2, (d.2.2.1 (by simp)), (d.2.2.2.1 (by simp)).1, (d.2.2.2.1 (by simp)).2, (d.2.2.2.2.1 (by simp)), (d.2.2.2.2.2 (by simp)).1, (d.2.2.2.2.2 (by simp)).2⟩

@[simp] theorem startGrant_printer_frame (who : Subject) (priority : Nat) (order : BitVec 32) (returnFlag : Bool) (g : Gran) (s : State) :
    (startGrant .printer who priority order returnFlag g s).clock = s.clock
      ∧ (startGrant .printer who priority order returnFlag g s).ports = s.ports
      ∧ (startGrant .printer who priority order returnFlag g s).policy = s.policy
      ∧ (startGrant .printer who priority order returnFlag g s).tenants = s.tenants
      ∧ (startGrant .printer who priority order returnFlag g s).keys = s.keys
      ∧ (startGrant .printer who priority order returnFlag g s).display = s.display
      ∧ (startGrant .printer who priority order returnFlag g s).bridge = s.bridge
      ∧ (startGrant .printer who priority order returnFlag g s).air = s.air
      ∧ (startGrant .printer who priority order returnFlag g s).relay = s.relay
      ∧ (startGrant .printer who priority order returnFlag g s).lines = s.lines
      ∧ (startGrant .printer who priority order returnFlag g s).pending = s.pending := by
  simp [startGrant]

@[simp] theorem startGrant_printer_reads (who : Subject) (priority : Nat) (order : BitVec 32) (returnFlag : Bool) (g : Gran) (s : State) :
    (∀ k, (startGrant .printer who priority order returnFlag g s).port k = s.port k)
      ∧ (∀ k src, (startGrant .printer who priority order returnFlag g s).inFlightFrom k src = s.inFlightFrom k src)
      ∧ (∀ w q, (startGrant .printer who priority order returnFlag g s).policyOf w q = s.policyOf w q)
      ∧ (∀ w, (startGrant .printer who priority order returnFlag g s).mayAct w = s.mayAct w)
      ∧ (∀ w, (startGrant .printer who priority order returnFlag g s).isFrozen w = s.isFrozen w)
      ∧ (∀ d, (startGrant .printer who priority order returnFlag g s).channel d = s.channel d)
      ∧ (startGrant .printer who priority order returnFlag g s).running = s.running
      ∧ (startGrant .printer who priority order returnFlag g s).fastLocked = s.fastLocked := by
  have d := State.derived (s := startGrant .printer who priority order returnFlag g s) (t := s)
  exact ⟨(d.1 (by simp)).1, (d.1 (by simp)).2, (d.2.2.1 (by simp)), (d.2.2.2.1 (by simp)).1, (d.2.2.2.1 (by simp)).2, (d.2.2.2.2.1 (by simp)), (d.2.2.2.2.2 (by simp)).1, (d.2.2.2.2.2 (by simp)).2⟩

@[simp] theorem completeTurnover_frame (r : Resource) (s : State) :
    (completeTurnover r s).clock = s.clock ∧ (completeTurnover r s).policy = s.policy
      ∧ (completeTurnover r s).tenants = s.tenants ∧ (completeTurnover r s).bridge = s.bridge
      ∧ (completeTurnover r s).air = s.air ∧ (completeTurnover r s).relay = s.relay
      ∧ (completeTurnover r s).lines = s.lines ∧ (completeTurnover r s).pending = s.pending := by
  unfold completeTurnover; (try dsimp only); (repeat' split) <;> simp

@[simp] theorem completeTurnover_reads (r : Resource) (s : State) :
    (∀ w q, (completeTurnover r s).policyOf w q = s.policyOf w q)
      ∧ (∀ w, (completeTurnover r s).mayAct w = s.mayAct w)
      ∧ (∀ w, (completeTurnover r s).isFrozen w = s.isFrozen w)
      ∧ (∀ d, (completeTurnover r s).channel d = s.channel d) ∧ (completeTurnover r s).running = s.running
      ∧ (completeTurnover r s).fastLocked = s.fastLocked := by
  have d := State.derived (s := completeTurnover r s) (t := s)
  exact ⟨(d.2.2.1 (by simp)), (d.2.2.2.1 (by simp)).1, (d.2.2.2.1 (by simp)).2, (d.2.2.2.2.1 (by simp)), (d.2.2.2.2.2 (by simp)).1, (d.2.2.2.2.2 (by simp)).2⟩

@[simp] theorem completeTurnover_inbound (r : Resource) (j : Link) (s : State) :
    ((completeTurnover r s).port j).inbound = (s.port j).inbound := by
  unfold completeTurnover; (try dsimp only); (repeat' split) <;> simp

@[simp] theorem completeTurnover_keypad_frame (s : State) :
    (completeTurnover .keypad s).clock = s.clock ∧ (completeTurnover .keypad s).policy = s.policy
      ∧ (completeTurnover .keypad s).tenants = s.tenants ∧ (completeTurnover .keypad s).printer = s.printer
      ∧ (completeTurnover .keypad s).bridge = s.bridge ∧ (completeTurnover .keypad s).air = s.air
      ∧ (completeTurnover .keypad s).relay = s.relay ∧ (completeTurnover .keypad s).lines = s.lines
      ∧ (completeTurnover .keypad s).pending = s.pending := by
  unfold completeTurnover; split <;> simp

@[simp] theorem completeTurnover_keypad_reads (s : State) :
    (∀ w q, (completeTurnover .keypad s).policyOf w q = s.policyOf w q)
      ∧ (∀ w, (completeTurnover .keypad s).mayAct w = s.mayAct w)
      ∧ (∀ w, (completeTurnover .keypad s).isFrozen w = s.isFrozen w)
      ∧ (∀ d, (completeTurnover .keypad s).channel d = s.channel d)
      ∧ (completeTurnover .keypad s).running = s.running
      ∧ (completeTurnover .keypad s).fastLocked = s.fastLocked := by
  have d := State.derived (s := completeTurnover .keypad s) (t := s)
  exact ⟨(d.2.2.1 (by simp)), (d.2.2.2.1 (by simp)).1, (d.2.2.2.1 (by simp)).2, (d.2.2.2.2.1 (by simp)), (d.2.2.2.2.2 (by simp)).1, (d.2.2.2.2.2 (by simp)).2⟩

@[simp] theorem completeTurnover_keypad_inbound (j : Link) (s : State) :
    ((completeTurnover .keypad s).port j).inbound = (s.port j).inbound := by
  unfold completeTurnover; split <;> simp

@[simp] theorem completeTurnover_display_frame (s : State) :
    (completeTurnover .display s).clock = s.clock ∧ (completeTurnover .display s).policy = s.policy
      ∧ (completeTurnover .display s).tenants = s.tenants ∧ (completeTurnover .display s).keys = s.keys
      ∧ (completeTurnover .display s).display = s.display ∧ (completeTurnover .display s).printer = s.printer
      ∧ (completeTurnover .display s).bridge = s.bridge ∧ (completeTurnover .display s).air = s.air
      ∧ (completeTurnover .display s).relay = s.relay ∧ (completeTurnover .display s).lines = s.lines
      ∧ (completeTurnover .display s).pending = s.pending := by
  unfold completeTurnover; split <;> simp

@[simp] theorem completeTurnover_display_reads (s : State) :
    (∀ w q, (completeTurnover .display s).policyOf w q = s.policyOf w q)
      ∧ (∀ w, (completeTurnover .display s).mayAct w = s.mayAct w)
      ∧ (∀ w, (completeTurnover .display s).isFrozen w = s.isFrozen w)
      ∧ (∀ d, (completeTurnover .display s).channel d = s.channel d)
      ∧ (completeTurnover .display s).running = s.running
      ∧ (completeTurnover .display s).fastLocked = s.fastLocked := by
  have d := State.derived (s := completeTurnover .display s) (t := s)
  exact ⟨(d.2.2.1 (by simp)), (d.2.2.2.1 (by simp)).1, (d.2.2.2.1 (by simp)).2, (d.2.2.2.2.1 (by simp)), (d.2.2.2.2.2 (by simp)).1, (d.2.2.2.2.2 (by simp)).2⟩

@[simp] theorem completeTurnover_display_inbound (j : Link) (s : State) :
    ((completeTurnover .display s).port j).inbound = (s.port j).inbound := by
  unfold completeTurnover; split <;> simp

@[simp] theorem completeTurnover_cless_frame (s : State) :
    (completeTurnover .cless s).clock = s.clock ∧ (completeTurnover .cless s).policy = s.policy
      ∧ (completeTurnover .cless s).tenants = s.tenants ∧ (completeTurnover .cless s).keys = s.keys
      ∧ (completeTurnover .cless s).display = s.display ∧ (completeTurnover .cless s).printer = s.printer
      ∧ (completeTurnover .cless s).bridge = s.bridge ∧ (completeTurnover .cless s).air = s.air
      ∧ (completeTurnover .cless s).relay = s.relay ∧ (completeTurnover .cless s).lines = s.lines
      ∧ (completeTurnover .cless s).pending = s.pending := by
  unfold completeTurnover; split <;> simp

@[simp] theorem completeTurnover_cless_reads (s : State) :
    (∀ w q, (completeTurnover .cless s).policyOf w q = s.policyOf w q)
      ∧ (∀ w, (completeTurnover .cless s).mayAct w = s.mayAct w)
      ∧ (∀ w, (completeTurnover .cless s).isFrozen w = s.isFrozen w)
      ∧ (∀ d, (completeTurnover .cless s).channel d = s.channel d)
      ∧ (completeTurnover .cless s).running = s.running ∧ (completeTurnover .cless s).fastLocked = s.fastLocked := by
  have d := State.derived (s := completeTurnover .cless s) (t := s)
  exact ⟨(d.2.2.1 (by simp)), (d.2.2.2.1 (by simp)).1, (d.2.2.2.1 (by simp)).2, (d.2.2.2.2.1 (by simp)), (d.2.2.2.2.2 (by simp)).1, (d.2.2.2.2.2 (by simp)).2⟩

@[simp] theorem completeTurnover_cless_inbound (j : Link) (s : State) :
    ((completeTurnover .cless s).port j).inbound = (s.port j).inbound := by
  unfold completeTurnover; split <;> simp

@[simp] theorem completeTurnover_printer_frame (s : State) :
    (completeTurnover .printer s).clock = s.clock ∧ (completeTurnover .printer s).policy = s.policy
      ∧ (completeTurnover .printer s).tenants = s.tenants ∧ (completeTurnover .printer s).keys = s.keys
      ∧ (completeTurnover .printer s).display = s.display ∧ (completeTurnover .printer s).bridge = s.bridge
      ∧ (completeTurnover .printer s).air = s.air ∧ (completeTurnover .printer s).relay = s.relay
      ∧ (completeTurnover .printer s).lines = s.lines ∧ (completeTurnover .printer s).pending = s.pending := by
  unfold completeTurnover; split <;> simp

@[simp] theorem completeTurnover_printer_reads (s : State) :
    (∀ w q, (completeTurnover .printer s).policyOf w q = s.policyOf w q)
      ∧ (∀ w, (completeTurnover .printer s).mayAct w = s.mayAct w)
      ∧ (∀ w, (completeTurnover .printer s).isFrozen w = s.isFrozen w)
      ∧ (∀ d, (completeTurnover .printer s).channel d = s.channel d)
      ∧ (completeTurnover .printer s).running = s.running
      ∧ (completeTurnover .printer s).fastLocked = s.fastLocked := by
  have d := State.derived (s := completeTurnover .printer s) (t := s)
  exact ⟨(d.2.2.1 (by simp)), (d.2.2.2.1 (by simp)).1, (d.2.2.2.1 (by simp)).2, (d.2.2.2.2.1 (by simp)), (d.2.2.2.2.2 (by simp)).1, (d.2.2.2.2.2 (by simp)).2⟩

@[simp] theorem completeTurnover_printer_inbound (j : Link) (s : State) :
    ((completeTurnover .printer s).port j).inbound = (s.port j).inbound := by
  unfold completeTurnover; split <;> simp

@[simp] theorem keypadTurnover_frame (old : Option Subject) (s : State) :
    (keypadTurnover old s).clock = s.clock ∧ (keypadTurnover old s).policy = s.policy
      ∧ (keypadTurnover old s).tenants = s.tenants ∧ (keypadTurnover old s).printer = s.printer
      ∧ (keypadTurnover old s).bridge = s.bridge ∧ (keypadTurnover old s).air = s.air
      ∧ (keypadTurnover old s).relay = s.relay ∧ (keypadTurnover old s).lines = s.lines
      ∧ (keypadTurnover old s).pending = s.pending := by
  unfold keypadTurnover; (try dsimp only); (repeat' split) <;> simp

@[simp] theorem keypadTurnover_reads (old : Option Subject) (s : State) :
    (∀ w q, (keypadTurnover old s).policyOf w q = s.policyOf w q)
      ∧ (∀ w, (keypadTurnover old s).mayAct w = s.mayAct w)
      ∧ (∀ w, (keypadTurnover old s).isFrozen w = s.isFrozen w)
      ∧ (∀ d, (keypadTurnover old s).channel d = s.channel d) ∧ (keypadTurnover old s).running = s.running
      ∧ (keypadTurnover old s).fastLocked = s.fastLocked := by
  have d := State.derived (s := keypadTurnover old s) (t := s)
  exact ⟨(d.2.2.1 (by simp)), (d.2.2.2.1 (by simp)).1, (d.2.2.2.1 (by simp)).2, (d.2.2.2.2.1 (by simp)), (d.2.2.2.2.2 (by simp)).1, (d.2.2.2.2.2 (by simp)).2⟩

@[simp] theorem keypadTurnover_inbound (old : Option Subject) (j : Link) (s : State) :
    ((keypadTurnover old s).port j).inbound = (s.port j).inbound := by
  unfold keypadTurnover; (try dsimp only); (repeat' split) <;> simp

@[simp] theorem completeDisplay_frame (s : State) :
    (completeDisplay s).clock = s.clock ∧ (completeDisplay s).policy = s.policy
      ∧ (completeDisplay s).tenants = s.tenants ∧ (completeDisplay s).keys = s.keys
      ∧ (completeDisplay s).printer = s.printer ∧ (completeDisplay s).bridge = s.bridge
      ∧ (completeDisplay s).air = s.air ∧ (completeDisplay s).relay = s.relay
      ∧ (completeDisplay s).lines = s.lines ∧ (completeDisplay s).pending = s.pending := by
  unfold completeDisplay; (try dsimp only); (repeat' split) <;> simp

@[simp] theorem completeDisplay_reads (s : State) :
    (∀ w q, (completeDisplay s).policyOf w q = s.policyOf w q)
      ∧ (∀ w, (completeDisplay s).mayAct w = s.mayAct w) ∧ (∀ w, (completeDisplay s).isFrozen w = s.isFrozen w)
      ∧ (∀ d, (completeDisplay s).channel d = s.channel d) ∧ (completeDisplay s).running = s.running
      ∧ (completeDisplay s).fastLocked = s.fastLocked := by
  have d := State.derived (s := completeDisplay s) (t := s)
  exact ⟨(d.2.2.1 (by simp)), (d.2.2.2.1 (by simp)).1, (d.2.2.2.1 (by simp)).2, (d.2.2.2.2.1 (by simp)), (d.2.2.2.2.2 (by simp)).1, (d.2.2.2.2.2 (by simp)).2⟩

@[simp] theorem completeDisplay_inbound (j : Link) (s : State) :
    ((completeDisplay s).port j).inbound = (s.port j).inbound := by
  unfold completeDisplay; (try dsimp only); (repeat' split) <;> simp

@[simp] theorem reportDisplayHead_frame (s : State) :
    (reportDisplayHead s).clock = s.clock ∧ (reportDisplayHead s).policy = s.policy
      ∧ (reportDisplayHead s).tenants = s.tenants ∧ (reportDisplayHead s).keys = s.keys
      ∧ (reportDisplayHead s).printer = s.printer ∧ (reportDisplayHead s).bridge = s.bridge
      ∧ (reportDisplayHead s).air = s.air ∧ (reportDisplayHead s).relay = s.relay
      ∧ (reportDisplayHead s).lines = s.lines ∧ (reportDisplayHead s).pending = s.pending := by
  unfold reportDisplayHead; (try dsimp only); (repeat' split) <;> simp

@[simp] theorem reportDisplayHead_reads (s : State) :
    (∀ w q, (reportDisplayHead s).policyOf w q = s.policyOf w q)
      ∧ (∀ w, (reportDisplayHead s).mayAct w = s.mayAct w)
      ∧ (∀ w, (reportDisplayHead s).isFrozen w = s.isFrozen w)
      ∧ (∀ d, (reportDisplayHead s).channel d = s.channel d) ∧ (reportDisplayHead s).running = s.running
      ∧ (reportDisplayHead s).fastLocked = s.fastLocked := by
  have d := State.derived (s := reportDisplayHead s) (t := s)
  exact ⟨(d.2.2.1 (by simp)), (d.2.2.2.1 (by simp)).1, (d.2.2.2.1 (by simp)).2, (d.2.2.2.2.1 (by simp)), (d.2.2.2.2.2 (by simp)).1, (d.2.2.2.2.2 (by simp)).2⟩

@[simp] theorem reportDisplayHead_inbound (j : Link) (s : State) :
    ((reportDisplayHead s).port j).inbound = (s.port j).inbound := by
  unfold reportDisplayHead; (try dsimp only); (repeat' split) <;> simp

@[simp] theorem beginCharacter_frame (s : State) :
    (beginCharacter s).clock = s.clock ∧ (beginCharacter s).ports = s.ports
      ∧ (beginCharacter s).policy = s.policy ∧ (beginCharacter s).tenants = s.tenants
      ∧ (beginCharacter s).custody = s.custody ∧ (beginCharacter s).keys = s.keys
      ∧ (beginCharacter s).display = s.display ∧ (beginCharacter s).bridge = s.bridge
      ∧ (beginCharacter s).air = s.air ∧ (beginCharacter s).relay = s.relay
      ∧ (beginCharacter s).lines = s.lines ∧ (beginCharacter s).pending = s.pending := by
  unfold beginCharacter; (try dsimp only); (repeat' split) <;> simp

@[simp] theorem beginCharacter_reads (s : State) :
    (∀ k, (beginCharacter s).port k = s.port k)
      ∧ (∀ k src, (beginCharacter s).inFlightFrom k src = s.inFlightFrom k src)
      ∧ (∀ q, (beginCharacter s).entry q = s.entry q) ∧ (∀ q, (beginCharacter s).holder q = s.holder q)
      ∧ (∀ w q, (beginCharacter s).holds w q = s.holds w q)
      ∧ (∀ w q, (beginCharacter s).policyOf w q = s.policyOf w q)
      ∧ (∀ w, (beginCharacter s).mayAct w = s.mayAct w) ∧ (∀ w, (beginCharacter s).isFrozen w = s.isFrozen w)
      ∧ (∀ d, (beginCharacter s).channel d = s.channel d) ∧ (beginCharacter s).running = s.running
      ∧ (beginCharacter s).fastLocked = s.fastLocked := by
  have d := State.derived (s := beginCharacter s) (t := s)
  exact ⟨(d.1 (by simp)).1, (d.1 (by simp)).2, (d.2.1 (by simp)).1, (d.2.1 (by simp)).2.1, (d.2.1 (by simp)).2.2, (d.2.2.1 (by simp)), (d.2.2.2.1 (by simp)).1, (d.2.2.2.1 (by simp)).2, (d.2.2.2.2.1 (by simp)), (d.2.2.2.2.2 (by simp)).1, (d.2.2.2.2.2 (by simp)).2⟩

@[simp] theorem endDrain_frame (s : State) :
    (endDrain s).clock = s.clock ∧ (endDrain s).ports = s.ports ∧ (endDrain s).policy = s.policy
      ∧ (endDrain s).tenants = s.tenants ∧ (endDrain s).custody = s.custody ∧ (endDrain s).keys = s.keys
      ∧ (endDrain s).display = s.display ∧ (endDrain s).bridge = s.bridge ∧ (endDrain s).air = s.air
      ∧ (endDrain s).relay = s.relay ∧ (endDrain s).lines = s.lines ∧ (endDrain s).pending = s.pending := by
  unfold endDrain; (try dsimp only); (repeat' split) <;> simp

@[simp] theorem endDrain_reads (s : State) :
    (∀ k, (endDrain s).port k = s.port k) ∧ (∀ k src, (endDrain s).inFlightFrom k src = s.inFlightFrom k src)
      ∧ (∀ q, (endDrain s).entry q = s.entry q) ∧ (∀ q, (endDrain s).holder q = s.holder q)
      ∧ (∀ w q, (endDrain s).holds w q = s.holds w q) ∧ (∀ w q, (endDrain s).policyOf w q = s.policyOf w q)
      ∧ (∀ w, (endDrain s).mayAct w = s.mayAct w) ∧ (∀ w, (endDrain s).isFrozen w = s.isFrozen w)
      ∧ (∀ d, (endDrain s).channel d = s.channel d) ∧ (endDrain s).running = s.running
      ∧ (endDrain s).fastLocked = s.fastLocked := by
  have d := State.derived (s := endDrain s) (t := s)
  exact ⟨(d.1 (by simp)).1, (d.1 (by simp)).2, (d.2.1 (by simp)).1, (d.2.1 (by simp)).2.1, (d.2.1 (by simp)).2.2, (d.2.2.1 (by simp)), (d.2.2.2.1 (by simp)).1, (d.2.2.2.1 (by simp)).2, (d.2.2.2.2.1 (by simp)), (d.2.2.2.2.2 (by simp)).1, (d.2.2.2.2.2 (by simp)).2⟩

@[simp] theorem endSeparator_frame (s : State) :
    (endSeparator s).clock = s.clock ∧ (endSeparator s).policy = s.policy
      ∧ (endSeparator s).tenants = s.tenants ∧ (endSeparator s).keys = s.keys
      ∧ (endSeparator s).display = s.display ∧ (endSeparator s).bridge = s.bridge
      ∧ (endSeparator s).air = s.air ∧ (endSeparator s).relay = s.relay ∧ (endSeparator s).lines = s.lines
      ∧ (endSeparator s).pending = s.pending := by
  unfold endSeparator; (try dsimp only); (repeat' split) <;> simp

@[simp] theorem endSeparator_reads (s : State) :
    (∀ w q, (endSeparator s).policyOf w q = s.policyOf w q) ∧ (∀ w, (endSeparator s).mayAct w = s.mayAct w)
      ∧ (∀ w, (endSeparator s).isFrozen w = s.isFrozen w) ∧ (∀ d, (endSeparator s).channel d = s.channel d)
      ∧ (endSeparator s).running = s.running ∧ (endSeparator s).fastLocked = s.fastLocked := by
  have d := State.derived (s := endSeparator s) (t := s)
  exact ⟨(d.2.2.1 (by simp)), (d.2.2.2.1 (by simp)).1, (d.2.2.2.1 (by simp)).2, (d.2.2.2.2.1 (by simp)), (d.2.2.2.2.2 (by simp)).1, (d.2.2.2.2.2 (by simp)).2⟩

@[simp] theorem endSeparator_inbound (j : Link) (s : State) :
    ((endSeparator s).port j).inbound = (s.port j).inbound := by
  unfold endSeparator; (try dsimp only); (repeat' split) <;> simp

@[simp] theorem runPrinter_frame (s : State) :
    (runPrinter s).clock = s.clock ∧ (runPrinter s).policy = s.policy ∧ (runPrinter s).tenants = s.tenants
      ∧ (runPrinter s).keys = s.keys ∧ (runPrinter s).display = s.display ∧ (runPrinter s).bridge = s.bridge
      ∧ (runPrinter s).air = s.air ∧ (runPrinter s).relay = s.relay ∧ (runPrinter s).lines = s.lines
      ∧ (runPrinter s).pending = s.pending := by
  unfold runPrinter; (try dsimp only); (repeat' split) <;> simp

@[simp] theorem runPrinter_reads (s : State) :
    (∀ w q, (runPrinter s).policyOf w q = s.policyOf w q) ∧ (∀ w, (runPrinter s).mayAct w = s.mayAct w)
      ∧ (∀ w, (runPrinter s).isFrozen w = s.isFrozen w) ∧ (∀ d, (runPrinter s).channel d = s.channel d)
      ∧ (runPrinter s).running = s.running ∧ (runPrinter s).fastLocked = s.fastLocked := by
  have d := State.derived (s := runPrinter s) (t := s)
  exact ⟨(d.2.2.1 (by simp)), (d.2.2.2.1 (by simp)).1, (d.2.2.2.1 (by simp)).2, (d.2.2.2.2.1 (by simp)), (d.2.2.2.2.2 (by simp)).1, (d.2.2.2.2.2 (by simp)).2⟩

@[simp] theorem runPrinter_inbound (j : Link) (s : State) :
    ((runPrinter s).port j).inbound = (s.port j).inbound := by
  unfold runPrinter; (try dsimp only); (repeat' split) <;> simp

@[simp] theorem printerTurnover_frame (k : EndingKind) (s : State) :
    (printerTurnover k s).clock = s.clock ∧ (printerTurnover k s).policy = s.policy
      ∧ (printerTurnover k s).tenants = s.tenants ∧ (printerTurnover k s).keys = s.keys
      ∧ (printerTurnover k s).display = s.display ∧ (printerTurnover k s).bridge = s.bridge
      ∧ (printerTurnover k s).air = s.air ∧ (printerTurnover k s).relay = s.relay
      ∧ (printerTurnover k s).lines = s.lines ∧ (printerTurnover k s).pending = s.pending := by
  unfold printerTurnover; (try dsimp only); (repeat' split) <;> simp

@[simp] theorem printerTurnover_reads (k : EndingKind) (s : State) :
    (∀ w q, (printerTurnover k s).policyOf w q = s.policyOf w q)
      ∧ (∀ w, (printerTurnover k s).mayAct w = s.mayAct w)
      ∧ (∀ w, (printerTurnover k s).isFrozen w = s.isFrozen w)
      ∧ (∀ d, (printerTurnover k s).channel d = s.channel d) ∧ (printerTurnover k s).running = s.running
      ∧ (printerTurnover k s).fastLocked = s.fastLocked := by
  have d := State.derived (s := printerTurnover k s) (t := s)
  exact ⟨(d.2.2.1 (by simp)), (d.2.2.2.1 (by simp)).1, (d.2.2.2.1 (by simp)).2, (d.2.2.2.2.1 (by simp)), (d.2.2.2.2.2 (by simp)).1, (d.2.2.2.2.2 (by simp)).2⟩

@[simp] theorem printerTurnover_inbound (k : EndingKind) (j : Link) (s : State) :
    ((printerTurnover k s).port j).inbound = (s.port j).inbound := by
  unfold printerTurnover; (try dsimp only); (repeat' split) <;> simp

@[simp] theorem beginFieldReset_frame (s : State) :
    (beginFieldReset s).clock = s.clock ∧ (beginFieldReset s).ports = s.ports
      ∧ (beginFieldReset s).policy = s.policy ∧ (beginFieldReset s).tenants = s.tenants
      ∧ (beginFieldReset s).custody = s.custody ∧ (beginFieldReset s).keys = s.keys
      ∧ (beginFieldReset s).display = s.display ∧ (beginFieldReset s).printer = s.printer
      ∧ (beginFieldReset s).air = s.air ∧ (beginFieldReset s).relay = s.relay
      ∧ (beginFieldReset s).lines = s.lines ∧ (beginFieldReset s).pending = s.pending := by
  unfold beginFieldReset; (try dsimp only); (repeat' split) <;> simp

@[simp] theorem beginFieldReset_reads (s : State) :
    (∀ k, (beginFieldReset s).port k = s.port k)
      ∧ (∀ k src, (beginFieldReset s).inFlightFrom k src = s.inFlightFrom k src)
      ∧ (∀ q, (beginFieldReset s).entry q = s.entry q) ∧ (∀ q, (beginFieldReset s).holder q = s.holder q)
      ∧ (∀ w q, (beginFieldReset s).holds w q = s.holds w q)
      ∧ (∀ w q, (beginFieldReset s).policyOf w q = s.policyOf w q)
      ∧ (∀ w, (beginFieldReset s).mayAct w = s.mayAct w) ∧ (∀ w, (beginFieldReset s).isFrozen w = s.isFrozen w)
      ∧ (∀ d, (beginFieldReset s).channel d = s.channel d) ∧ (beginFieldReset s).running = s.running
      ∧ (beginFieldReset s).fastLocked = s.fastLocked := by
  have d := State.derived (s := beginFieldReset s) (t := s)
  exact ⟨(d.1 (by simp)).1, (d.1 (by simp)).2, (d.2.1 (by simp)).1, (d.2.1 (by simp)).2.1, (d.2.1 (by simp)).2.2, (d.2.2.1 (by simp)), (d.2.2.2.1 (by simp)).1, (d.2.2.2.1 (by simp)).2, (d.2.2.2.2.1 (by simp)), (d.2.2.2.2.2 (by simp)).1, (d.2.2.2.2.2 (by simp)).2⟩

@[simp] theorem clessTurnover_frame (old : Option Subject) (s : State) :
    (clessTurnover old s).clock = s.clock ∧ (clessTurnover old s).policy = s.policy
      ∧ (clessTurnover old s).tenants = s.tenants ∧ (clessTurnover old s).custody = s.custody
      ∧ (clessTurnover old s).keys = s.keys ∧ (clessTurnover old s).display = s.display
      ∧ (clessTurnover old s).printer = s.printer ∧ (clessTurnover old s).relay = s.relay
      ∧ (clessTurnover old s).lines = s.lines ∧ (clessTurnover old s).pending = s.pending := by
  unfold clessTurnover; (try dsimp only); (repeat' split) <;> simp

@[simp] theorem clessTurnover_reads (old : Option Subject) (s : State) :
    (∀ q, (clessTurnover old s).entry q = s.entry q) ∧ (∀ q, (clessTurnover old s).holder q = s.holder q)
      ∧ (∀ w q, (clessTurnover old s).holds w q = s.holds w q)
      ∧ (∀ w q, (clessTurnover old s).policyOf w q = s.policyOf w q)
      ∧ (∀ w, (clessTurnover old s).mayAct w = s.mayAct w)
      ∧ (∀ w, (clessTurnover old s).isFrozen w = s.isFrozen w)
      ∧ (∀ d, (clessTurnover old s).channel d = s.channel d) ∧ (clessTurnover old s).running = s.running
      ∧ (clessTurnover old s).fastLocked = s.fastLocked := by
  have d := State.derived (s := clessTurnover old s) (t := s)
  exact ⟨(d.2.1 (by simp)).1, (d.2.1 (by simp)).2.1, (d.2.1 (by simp)).2.2, (d.2.2.1 (by simp)), (d.2.2.2.1 (by simp)).1, (d.2.2.2.1 (by simp)).2, (d.2.2.2.2.1 (by simp)), (d.2.2.2.2.2 (by simp)).1, (d.2.2.2.2.2 (by simp)).2⟩

@[simp] theorem clessTurnover_inbound (old : Option Subject) (j : Link) (s : State) :
    ((clessTurnover old s).port j).inbound = (s.port j).inbound := by
  unfold clessTurnover; (try dsimp only); (repeat' split) <;> simp

@[simp] theorem enterTurnover_frame (r : Resource) (k : EndingKind) (s : State) :
    (enterTurnover r k s).clock = s.clock ∧ (enterTurnover r k s).policy = s.policy
      ∧ (enterTurnover r k s).tenants = s.tenants ∧ (enterTurnover r k s).relay = s.relay
      ∧ (enterTurnover r k s).lines = s.lines ∧ (enterTurnover r k s).pending = s.pending := by
  unfold enterTurnover; (try dsimp only); (repeat' split) <;> simp

@[simp] theorem enterTurnover_reads (r : Resource) (k : EndingKind) (s : State) :
    (∀ w q, (enterTurnover r k s).policyOf w q = s.policyOf w q)
      ∧ (∀ w, (enterTurnover r k s).mayAct w = s.mayAct w)
      ∧ (∀ w, (enterTurnover r k s).isFrozen w = s.isFrozen w)
      ∧ (∀ d, (enterTurnover r k s).channel d = s.channel d) ∧ (enterTurnover r k s).running = s.running
      ∧ (enterTurnover r k s).fastLocked = s.fastLocked := by
  have d := State.derived (s := enterTurnover r k s) (t := s)
  exact ⟨(d.2.2.1 (by simp)), (d.2.2.2.1 (by simp)).1, (d.2.2.2.1 (by simp)).2, (d.2.2.2.2.1 (by simp)), (d.2.2.2.2.2 (by simp)).1, (d.2.2.2.2.2 (by simp)).2⟩

@[simp] theorem enterTurnover_inbound (r : Resource) (k : EndingKind) (j : Link) (s : State) :
    ((enterTurnover r k s).port j).inbound = (s.port j).inbound := by
  unfold enterTurnover; (try dsimp only); (repeat' split) <;> simp

@[simp] theorem enterTurnover_keypad_frame (k : EndingKind) (s : State) :
    (enterTurnover .keypad k s).clock = s.clock ∧ (enterTurnover .keypad k s).policy = s.policy
      ∧ (enterTurnover .keypad k s).tenants = s.tenants ∧ (enterTurnover .keypad k s).printer = s.printer
      ∧ (enterTurnover .keypad k s).bridge = s.bridge ∧ (enterTurnover .keypad k s).air = s.air
      ∧ (enterTurnover .keypad k s).relay = s.relay ∧ (enterTurnover .keypad k s).lines = s.lines
      ∧ (enterTurnover .keypad k s).pending = s.pending := by
  simp [enterTurnover]

@[simp] theorem enterTurnover_keypad_reads (k : EndingKind) (s : State) :
    (∀ w q, (enterTurnover .keypad k s).policyOf w q = s.policyOf w q)
      ∧ (∀ w, (enterTurnover .keypad k s).mayAct w = s.mayAct w)
      ∧ (∀ w, (enterTurnover .keypad k s).isFrozen w = s.isFrozen w)
      ∧ (∀ d, (enterTurnover .keypad k s).channel d = s.channel d)
      ∧ (enterTurnover .keypad k s).running = s.running ∧ (enterTurnover .keypad k s).fastLocked = s.fastLocked := by
  have d := State.derived (s := enterTurnover .keypad k s) (t := s)
  exact ⟨(d.2.2.1 (by simp)), (d.2.2.2.1 (by simp)).1, (d.2.2.2.1 (by simp)).2, (d.2.2.2.2.1 (by simp)), (d.2.2.2.2.2 (by simp)).1, (d.2.2.2.2.2 (by simp)).2⟩

@[simp] theorem enterTurnover_keypad_inbound (k : EndingKind) (j : Link) (s : State) :
    ((enterTurnover .keypad k s).port j).inbound = (s.port j).inbound := by
  simp [enterTurnover]

@[simp] theorem enterTurnover_display_frame (k : EndingKind) (s : State) :
    (enterTurnover .display k s).clock = s.clock ∧ (enterTurnover .display k s).policy = s.policy
      ∧ (enterTurnover .display k s).tenants = s.tenants ∧ (enterTurnover .display k s).keys = s.keys
      ∧ (enterTurnover .display k s).printer = s.printer ∧ (enterTurnover .display k s).bridge = s.bridge
      ∧ (enterTurnover .display k s).air = s.air ∧ (enterTurnover .display k s).relay = s.relay
      ∧ (enterTurnover .display k s).lines = s.lines ∧ (enterTurnover .display k s).pending = s.pending := by
  simp [enterTurnover]

@[simp] theorem enterTurnover_display_reads (k : EndingKind) (s : State) :
    (∀ w q, (enterTurnover .display k s).policyOf w q = s.policyOf w q)
      ∧ (∀ w, (enterTurnover .display k s).mayAct w = s.mayAct w)
      ∧ (∀ w, (enterTurnover .display k s).isFrozen w = s.isFrozen w)
      ∧ (∀ d, (enterTurnover .display k s).channel d = s.channel d)
      ∧ (enterTurnover .display k s).running = s.running
      ∧ (enterTurnover .display k s).fastLocked = s.fastLocked := by
  have d := State.derived (s := enterTurnover .display k s) (t := s)
  exact ⟨(d.2.2.1 (by simp)), (d.2.2.2.1 (by simp)).1, (d.2.2.2.1 (by simp)).2, (d.2.2.2.2.1 (by simp)), (d.2.2.2.2.2 (by simp)).1, (d.2.2.2.2.2 (by simp)).2⟩

@[simp] theorem enterTurnover_display_inbound (k : EndingKind) (j : Link) (s : State) :
    ((enterTurnover .display k s).port j).inbound = (s.port j).inbound := by
  simp [enterTurnover]

@[simp] theorem enterTurnover_cless_frame (k : EndingKind) (s : State) :
    (enterTurnover .cless k s).clock = s.clock ∧ (enterTurnover .cless k s).policy = s.policy
      ∧ (enterTurnover .cless k s).tenants = s.tenants ∧ (enterTurnover .cless k s).keys = s.keys
      ∧ (enterTurnover .cless k s).display = s.display ∧ (enterTurnover .cless k s).printer = s.printer
      ∧ (enterTurnover .cless k s).relay = s.relay ∧ (enterTurnover .cless k s).lines = s.lines
      ∧ (enterTurnover .cless k s).pending = s.pending := by
  simp [enterTurnover]

@[simp] theorem enterTurnover_cless_reads (k : EndingKind) (s : State) :
    (∀ w q, (enterTurnover .cless k s).policyOf w q = s.policyOf w q)
      ∧ (∀ w, (enterTurnover .cless k s).mayAct w = s.mayAct w)
      ∧ (∀ w, (enterTurnover .cless k s).isFrozen w = s.isFrozen w)
      ∧ (∀ d, (enterTurnover .cless k s).channel d = s.channel d)
      ∧ (enterTurnover .cless k s).running = s.running ∧ (enterTurnover .cless k s).fastLocked = s.fastLocked := by
  have d := State.derived (s := enterTurnover .cless k s) (t := s)
  exact ⟨(d.2.2.1 (by simp)), (d.2.2.2.1 (by simp)).1, (d.2.2.2.1 (by simp)).2, (d.2.2.2.2.1 (by simp)), (d.2.2.2.2.2 (by simp)).1, (d.2.2.2.2.2 (by simp)).2⟩

@[simp] theorem enterTurnover_cless_inbound (k : EndingKind) (j : Link) (s : State) :
    ((enterTurnover .cless k s).port j).inbound = (s.port j).inbound := by
  simp [enterTurnover]

@[simp] theorem enterTurnover_printer_frame (k : EndingKind) (s : State) :
    (enterTurnover .printer k s).clock = s.clock ∧ (enterTurnover .printer k s).policy = s.policy
      ∧ (enterTurnover .printer k s).tenants = s.tenants ∧ (enterTurnover .printer k s).keys = s.keys
      ∧ (enterTurnover .printer k s).display = s.display ∧ (enterTurnover .printer k s).bridge = s.bridge
      ∧ (enterTurnover .printer k s).air = s.air ∧ (enterTurnover .printer k s).relay = s.relay
      ∧ (enterTurnover .printer k s).lines = s.lines ∧ (enterTurnover .printer k s).pending = s.pending := by
  simp [enterTurnover]

@[simp] theorem enterTurnover_printer_reads (k : EndingKind) (s : State) :
    (∀ w q, (enterTurnover .printer k s).policyOf w q = s.policyOf w q)
      ∧ (∀ w, (enterTurnover .printer k s).mayAct w = s.mayAct w)
      ∧ (∀ w, (enterTurnover .printer k s).isFrozen w = s.isFrozen w)
      ∧ (∀ d, (enterTurnover .printer k s).channel d = s.channel d)
      ∧ (enterTurnover .printer k s).running = s.running
      ∧ (enterTurnover .printer k s).fastLocked = s.fastLocked := by
  have d := State.derived (s := enterTurnover .printer k s) (t := s)
  exact ⟨(d.2.2.1 (by simp)), (d.2.2.2.1 (by simp)).1, (d.2.2.2.1 (by simp)).2, (d.2.2.2.2.1 (by simp)), (d.2.2.2.2.2 (by simp)).1, (d.2.2.2.2.2 (by simp)).2⟩

@[simp] theorem enterTurnover_printer_inbound (k : EndingKind) (j : Link) (s : State) :
    ((enterTurnover .printer k s).port j).inbound = (s.port j).inbound := by
  simp [enterTurnover]

@[simp] theorem revokeGrant_frame (r : Resource) (why : RevokeReason) (position : Nat) (s : State) :
    (revokeGrant r why position s).clock = s.clock ∧ (revokeGrant r why position s).policy = s.policy
      ∧ (revokeGrant r why position s).tenants = s.tenants ∧ (revokeGrant r why position s).relay = s.relay
      ∧ (revokeGrant r why position s).lines = s.lines ∧ (revokeGrant r why position s).pending = s.pending := by
  unfold revokeGrant; (try dsimp only); (repeat' split) <;> simp

@[simp] theorem revokeGrant_reads (r : Resource) (why : RevokeReason) (position : Nat) (s : State) :
    (∀ w q, (revokeGrant r why position s).policyOf w q = s.policyOf w q)
      ∧ (∀ w, (revokeGrant r why position s).mayAct w = s.mayAct w)
      ∧ (∀ w, (revokeGrant r why position s).isFrozen w = s.isFrozen w)
      ∧ (∀ d, (revokeGrant r why position s).channel d = s.channel d)
      ∧ (revokeGrant r why position s).running = s.running
      ∧ (revokeGrant r why position s).fastLocked = s.fastLocked := by
  have d := State.derived (s := revokeGrant r why position s) (t := s)
  exact ⟨(d.2.2.1 (by simp)), (d.2.2.2.1 (by simp)).1, (d.2.2.2.1 (by simp)).2, (d.2.2.2.2.1 (by simp)), (d.2.2.2.2.2 (by simp)).1, (d.2.2.2.2.2 (by simp)).2⟩

@[simp] theorem revokeGrant_inbound (r : Resource) (why : RevokeReason) (position : Nat) (j : Link) (s : State) :
    ((revokeGrant r why position s).port j).inbound = (s.port j).inbound := by
  unfold revokeGrant; (try dsimp only); (repeat' split) <;> simp

@[simp] theorem changeWaiting_frame (r : Resource) (ws : List Waiter) (s : State) :
    (changeWaiting r ws s).clock = s.clock ∧ (changeWaiting r ws s).policy = s.policy
      ∧ (changeWaiting r ws s).tenants = s.tenants ∧ (changeWaiting r ws s).keys = s.keys
      ∧ (changeWaiting r ws s).printer = s.printer ∧ (changeWaiting r ws s).bridge = s.bridge
      ∧ (changeWaiting r ws s).air = s.air ∧ (changeWaiting r ws s).relay = s.relay
      ∧ (changeWaiting r ws s).lines = s.lines ∧ (changeWaiting r ws s).pending = s.pending := by
  unfold changeWaiting; (try dsimp only); (repeat' split) <;> simp

@[simp] theorem changeWaiting_reads (r : Resource) (ws : List Waiter) (s : State) :
    (∀ w q, (changeWaiting r ws s).policyOf w q = s.policyOf w q)
      ∧ (∀ w, (changeWaiting r ws s).mayAct w = s.mayAct w)
      ∧ (∀ w, (changeWaiting r ws s).isFrozen w = s.isFrozen w)
      ∧ (∀ d, (changeWaiting r ws s).channel d = s.channel d) ∧ (changeWaiting r ws s).running = s.running
      ∧ (changeWaiting r ws s).fastLocked = s.fastLocked := by
  have d := State.derived (s := changeWaiting r ws s) (t := s)
  exact ⟨(d.2.2.1 (by simp)), (d.2.2.2.1 (by simp)).1, (d.2.2.2.1 (by simp)).2, (d.2.2.2.2.1 (by simp)), (d.2.2.2.2.2 (by simp)).1, (d.2.2.2.2.2 (by simp)).2⟩

@[simp] theorem changeWaiting_inbound (r : Resource) (ws : List Waiter) (j : Link) (s : State) :
    ((changeWaiting r ws s).port j).inbound = (s.port j).inbound := by
  unfold changeWaiting; (try dsimp only); (repeat' split) <;> simp


/-- What every step of a fold keeps, the fold keeps. -/
theorem foldl_keeps {α β γ : Type} (view : α → γ) (f : α → β → α) (h : ∀ a b, view (f a b) = view a) (l : List β)
    (a : α) : view (l.foldl f a) = view a := by
  induction l generalizing a with
  | nil => rfl
  | cons b l ih => rw [List.foldl_cons, ih, h]

@[simp] theorem withdrawAppWaiters_frame (r : Resource) (s : State) :
    (withdrawAppWaiters r s).clock = s.clock ∧ (withdrawAppWaiters r s).policy = s.policy
      ∧ (withdrawAppWaiters r s).tenants = s.tenants ∧ (withdrawAppWaiters r s).custody = s.custody
      ∧ (withdrawAppWaiters r s).keys = s.keys ∧ (withdrawAppWaiters r s).display = s.display
      ∧ (withdrawAppWaiters r s).printer = s.printer ∧ (withdrawAppWaiters r s).bridge = s.bridge
      ∧ (withdrawAppWaiters r s).air = s.air ∧ (withdrawAppWaiters r s).relay = s.relay
      ∧ (withdrawAppWaiters r s).lines = s.lines ∧ (withdrawAppWaiters r s).pending = s.pending := by
  refine ⟨foldl_keeps (fun x : State => x.clock) _ (fun _ _ => by simp) _ _, foldl_keeps (fun x : State => x.policy) _ (fun _ _ => by simp) _ _, foldl_keeps (fun x : State => x.tenants) _ (fun _ _ => by simp) _ _, foldl_keeps (fun x : State => x.custody) _ (fun _ _ => by simp) _ _, foldl_keeps (fun x : State => x.keys) _ (fun _ _ => by simp) _ _, foldl_keeps (fun x : State => x.display) _ (fun _ _ => by simp) _ _, foldl_keeps (fun x : State => x.printer) _ (fun _ _ => by simp) _ _, foldl_keeps (fun x : State => x.bridge) _ (fun _ _ => by simp) _ _, foldl_keeps (fun x : State => x.air) _ (fun _ _ => by simp) _ _, foldl_keeps (fun x : State => x.relay) _ (fun _ _ => by simp) _ _, foldl_keeps (fun x : State => x.lines) _ (fun _ _ => by simp) _ _, foldl_keeps (fun x : State => x.pending) _ (fun _ _ => by simp) _ _⟩

@[simp] theorem withdrawAppWaiters_reads (r : Resource) (s : State) :
    (∀ q, (withdrawAppWaiters r s).entry q = s.entry q) ∧ (∀ q, (withdrawAppWaiters r s).holder q = s.holder q)
      ∧ (∀ w q, (withdrawAppWaiters r s).holds w q = s.holds w q)
      ∧ (∀ w q, (withdrawAppWaiters r s).policyOf w q = s.policyOf w q)
      ∧ (∀ w, (withdrawAppWaiters r s).mayAct w = s.mayAct w)
      ∧ (∀ w, (withdrawAppWaiters r s).isFrozen w = s.isFrozen w)
      ∧ (∀ d, (withdrawAppWaiters r s).channel d = s.channel d) ∧ (withdrawAppWaiters r s).running = s.running
      ∧ (withdrawAppWaiters r s).fastLocked = s.fastLocked := by
  have d := State.derived (s := withdrawAppWaiters r s) (t := s)
  exact ⟨(d.2.1 (by simp)).1, (d.2.1 (by simp)).2.1, (d.2.1 (by simp)).2.2, (d.2.2.1 (by simp)), (d.2.2.2.1 (by simp)).1, (d.2.2.2.1 (by simp)).2, (d.2.2.2.2.1 (by simp)), (d.2.2.2.2.2 (by simp)).1, (d.2.2.2.2.2 (by simp)).2⟩

@[simp] theorem withdrawAppWaiters_inbound (r : Resource) (j : Link) (s : State) :
    ((withdrawAppWaiters r s).port j).inbound = (s.port j).inbound := by
  exact foldl_keeps (fun x : State => (x.port j).inbound) _ (fun _ _ => by simp) _ _

@[simp] theorem placePay_frame (r : Resource) (s : State) :
    (placePay r s).clock = s.clock ∧ (placePay r s).ports = s.ports ∧ (placePay r s).policy = s.policy
      ∧ (placePay r s).tenants = s.tenants ∧ (placePay r s).keys = s.keys ∧ (placePay r s).display = s.display
      ∧ (placePay r s).printer = s.printer ∧ (placePay r s).bridge = s.bridge ∧ (placePay r s).air = s.air
      ∧ (placePay r s).relay = s.relay ∧ (placePay r s).lines = s.lines ∧ (placePay r s).pending = s.pending := by
  unfold placePay takeArrival; dsimp only; split <;> simp

@[simp] theorem placePay_reads (r : Resource) (s : State) :
    (∀ k, (placePay r s).port k = s.port k)
      ∧ (∀ k src, (placePay r s).inFlightFrom k src = s.inFlightFrom k src)
      ∧ (∀ w q, (placePay r s).policyOf w q = s.policyOf w q) ∧ (∀ w, (placePay r s).mayAct w = s.mayAct w)
      ∧ (∀ w, (placePay r s).isFrozen w = s.isFrozen w) ∧ (∀ d, (placePay r s).channel d = s.channel d)
      ∧ (placePay r s).running = s.running ∧ (placePay r s).fastLocked = s.fastLocked := by
  have d := State.derived (s := placePay r s) (t := s)
  exact ⟨(d.1 (by simp)).1, (d.1 (by simp)).2, (d.2.2.1 (by simp)), (d.2.2.2.1 (by simp)).1, (d.2.2.2.1 (by simp)).2, (d.2.2.2.2.1 (by simp)), (d.2.2.2.2.2 (by simp)).1, (d.2.2.2.2.2 (by simp)).2⟩

@[simp] theorem takeOver_frame (r : Resource) (s : State) :
    (takeOver r s).clock = s.clock ∧ (takeOver r s).policy = s.policy ∧ (takeOver r s).tenants = s.tenants
      ∧ (takeOver r s).relay = s.relay ∧ (takeOver r s).lines = s.lines ∧ (takeOver r s).pending = s.pending := by
  unfold takeOver; (try dsimp only); (repeat' split) <;> simp

@[simp] theorem takeOver_reads (r : Resource) (s : State) :
    (∀ w q, (takeOver r s).policyOf w q = s.policyOf w q) ∧ (∀ w, (takeOver r s).mayAct w = s.mayAct w)
      ∧ (∀ w, (takeOver r s).isFrozen w = s.isFrozen w) ∧ (∀ d, (takeOver r s).channel d = s.channel d)
      ∧ (takeOver r s).running = s.running ∧ (takeOver r s).fastLocked = s.fastLocked := by
  have d := State.derived (s := takeOver r s) (t := s)
  exact ⟨(d.2.2.1 (by simp)), (d.2.2.2.1 (by simp)).1, (d.2.2.2.1 (by simp)).2, (d.2.2.2.2.1 (by simp)), (d.2.2.2.2.2 (by simp)).1, (d.2.2.2.2.2 (by simp)).2⟩

@[simp] theorem takeOver_inbound (r : Resource) (j : Link) (s : State) :
    ((takeOver r s).port j).inbound = (s.port j).inbound := by
  unfold takeOver; (try dsimp only); (repeat' split) <;> simp

@[simp] theorem takeOver_keypad_frame (s : State) :
    (takeOver .keypad s).clock = s.clock ∧ (takeOver .keypad s).policy = s.policy
      ∧ (takeOver .keypad s).tenants = s.tenants ∧ (takeOver .keypad s).printer = s.printer
      ∧ (takeOver .keypad s).bridge = s.bridge ∧ (takeOver .keypad s).air = s.air
      ∧ (takeOver .keypad s).relay = s.relay ∧ (takeOver .keypad s).lines = s.lines
      ∧ (takeOver .keypad s).pending = s.pending := by
  unfold takeOver; (repeat' split) <;> first | contradiction | simp

@[simp] theorem takeOver_keypad_reads (s : State) :
    (∀ w q, (takeOver .keypad s).policyOf w q = s.policyOf w q)
      ∧ (∀ w, (takeOver .keypad s).mayAct w = s.mayAct w)
      ∧ (∀ w, (takeOver .keypad s).isFrozen w = s.isFrozen w)
      ∧ (∀ d, (takeOver .keypad s).channel d = s.channel d) ∧ (takeOver .keypad s).running = s.running
      ∧ (takeOver .keypad s).fastLocked = s.fastLocked := by
  have d := State.derived (s := takeOver .keypad s) (t := s)
  exact ⟨(d.2.2.1 (by simp)), (d.2.2.2.1 (by simp)).1, (d.2.2.2.1 (by simp)).2, (d.2.2.2.2.1 (by simp)), (d.2.2.2.2.2 (by simp)).1, (d.2.2.2.2.2 (by simp)).2⟩

@[simp] theorem takeOver_keypad_inbound (j : Link) (s : State) :
    ((takeOver .keypad s).port j).inbound = (s.port j).inbound := by
  unfold takeOver; (repeat' split) <;> first | contradiction | simp

@[simp] theorem takeOver_display_frame (s : State) :
    (takeOver .display s).clock = s.clock ∧ (takeOver .display s).policy = s.policy
      ∧ (takeOver .display s).tenants = s.tenants ∧ (takeOver .display s).keys = s.keys
      ∧ (takeOver .display s).printer = s.printer ∧ (takeOver .display s).bridge = s.bridge
      ∧ (takeOver .display s).air = s.air ∧ (takeOver .display s).relay = s.relay
      ∧ (takeOver .display s).lines = s.lines ∧ (takeOver .display s).pending = s.pending := by
  unfold takeOver; (repeat' split) <;> first | contradiction | simp

@[simp] theorem takeOver_display_reads (s : State) :
    (∀ w q, (takeOver .display s).policyOf w q = s.policyOf w q)
      ∧ (∀ w, (takeOver .display s).mayAct w = s.mayAct w)
      ∧ (∀ w, (takeOver .display s).isFrozen w = s.isFrozen w)
      ∧ (∀ d, (takeOver .display s).channel d = s.channel d) ∧ (takeOver .display s).running = s.running
      ∧ (takeOver .display s).fastLocked = s.fastLocked := by
  have d := State.derived (s := takeOver .display s) (t := s)
  exact ⟨(d.2.2.1 (by simp)), (d.2.2.2.1 (by simp)).1, (d.2.2.2.1 (by simp)).2, (d.2.2.2.2.1 (by simp)), (d.2.2.2.2.2 (by simp)).1, (d.2.2.2.2.2 (by simp)).2⟩

@[simp] theorem takeOver_display_inbound (j : Link) (s : State) :
    ((takeOver .display s).port j).inbound = (s.port j).inbound := by
  unfold takeOver; (repeat' split) <;> first | contradiction | simp

@[simp] theorem attentionTakeover_frame (s : State) :
    (attentionTakeover s).clock = s.clock ∧ (attentionTakeover s).policy = s.policy
      ∧ (attentionTakeover s).tenants = s.tenants ∧ (attentionTakeover s).printer = s.printer
      ∧ (attentionTakeover s).bridge = s.bridge ∧ (attentionTakeover s).air = s.air
      ∧ (attentionTakeover s).relay = s.relay ∧ (attentionTakeover s).lines = s.lines
      ∧ (attentionTakeover s).pending = s.pending := by
  unfold attentionTakeover; (try dsimp only); (repeat' split) <;> simp

@[simp] theorem attentionTakeover_reads (s : State) :
    (∀ w q, (attentionTakeover s).policyOf w q = s.policyOf w q)
      ∧ (∀ w, (attentionTakeover s).mayAct w = s.mayAct w)
      ∧ (∀ w, (attentionTakeover s).isFrozen w = s.isFrozen w)
      ∧ (∀ d, (attentionTakeover s).channel d = s.channel d) ∧ (attentionTakeover s).running = s.running
      ∧ (attentionTakeover s).fastLocked = s.fastLocked := by
  have d := State.derived (s := attentionTakeover s) (t := s)
  exact ⟨(d.2.2.1 (by simp)), (d.2.2.2.1 (by simp)).1, (d.2.2.2.1 (by simp)).2, (d.2.2.2.2.1 (by simp)), (d.2.2.2.2.2 (by simp)).1, (d.2.2.2.2.2 (by simp)).2⟩

@[simp] theorem attentionTakeover_inbound (j : Link) (s : State) :
    ((attentionTakeover s).port j).inbound = (s.port j).inbound := by
  unfold attentionTakeover; (try dsimp only); (repeat' split) <;> simp

@[simp] theorem reportMatch_frame (s : State) :
    (reportMatch s).clock = s.clock ∧ (reportMatch s).policy = s.policy ∧ (reportMatch s).tenants = s.tenants
      ∧ (reportMatch s).printer = s.printer ∧ (reportMatch s).bridge = s.bridge ∧ (reportMatch s).air = s.air
      ∧ (reportMatch s).relay = s.relay ∧ (reportMatch s).lines = s.lines ∧ (reportMatch s).pending = s.pending := by
  unfold reportMatch; (try dsimp only); (repeat' split) <;> simp

@[simp] theorem reportMatch_reads (s : State) :
    (∀ w q, (reportMatch s).policyOf w q = s.policyOf w q) ∧ (∀ w, (reportMatch s).mayAct w = s.mayAct w)
      ∧ (∀ w, (reportMatch s).isFrozen w = s.isFrozen w) ∧ (∀ d, (reportMatch s).channel d = s.channel d)
      ∧ (reportMatch s).running = s.running ∧ (reportMatch s).fastLocked = s.fastLocked := by
  have d := State.derived (s := reportMatch s) (t := s)
  exact ⟨(d.2.2.1 (by simp)), (d.2.2.2.1 (by simp)).1, (d.2.2.2.1 (by simp)).2, (d.2.2.2.2.1 (by simp)), (d.2.2.2.2.2 (by simp)).1, (d.2.2.2.2.2 (by simp)).2⟩

@[simp] theorem reportMatch_inbound (j : Link) (s : State) :
    ((reportMatch s).port j).inbound = (s.port j).inbound := by
  unfold reportMatch; (try dsimp only); (repeat' split) <;> simp

@[simp] theorem expireHold_frame (r : Resource) (g : Grant) (s : State) :
    (expireHold r g s).clock = s.clock ∧ (expireHold r g s).policy = s.policy
      ∧ (expireHold r g s).tenants = s.tenants ∧ (expireHold r g s).keys = s.keys
      ∧ (expireHold r g s).display = s.display ∧ (expireHold r g s).printer = s.printer
      ∧ (expireHold r g s).bridge = s.bridge ∧ (expireHold r g s).air = s.air
      ∧ (expireHold r g s).relay = s.relay ∧ (expireHold r g s).lines = s.lines
      ∧ (expireHold r g s).pending = s.pending := by
  unfold expireHold; (try dsimp only); (repeat' split) <;> simp

@[simp] theorem expireHold_reads (r : Resource) (g : Grant) (s : State) :
    (∀ w q, (expireHold r g s).policyOf w q = s.policyOf w q) ∧ (∀ w, (expireHold r g s).mayAct w = s.mayAct w)
      ∧ (∀ w, (expireHold r g s).isFrozen w = s.isFrozen w) ∧ (∀ d, (expireHold r g s).channel d = s.channel d)
      ∧ (expireHold r g s).running = s.running ∧ (expireHold r g s).fastLocked = s.fastLocked := by
  have d := State.derived (s := expireHold r g s) (t := s)
  exact ⟨(d.2.2.1 (by simp)), (d.2.2.2.1 (by simp)).1, (d.2.2.2.1 (by simp)).2, (d.2.2.2.2.1 (by simp)), (d.2.2.2.2.2 (by simp)).1, (d.2.2.2.2.2 (by simp)).2⟩

@[simp] theorem expireHold_inbound (r : Resource) (g : Grant) (j : Link) (s : State) :
    ((expireHold r g s).port j).inbound = (s.port j).inbound := by
  unfold expireHold; (try dsimp only); (repeat' split) <;> simp

@[simp] theorem quarterBoundary_frame (r : Resource) (s : State) :
    (quarterBoundary r s).clock = s.clock ∧ (quarterBoundary r s).policy = s.policy
      ∧ (quarterBoundary r s).tenants = s.tenants ∧ (quarterBoundary r s).relay = s.relay
      ∧ (quarterBoundary r s).lines = s.lines ∧ (quarterBoundary r s).pending = s.pending := by
  unfold quarterBoundary; (try dsimp only); (repeat' split) <;> simp

@[simp] theorem quarterBoundary_reads (r : Resource) (s : State) :
    (∀ w q, (quarterBoundary r s).policyOf w q = s.policyOf w q)
      ∧ (∀ w, (quarterBoundary r s).mayAct w = s.mayAct w)
      ∧ (∀ w, (quarterBoundary r s).isFrozen w = s.isFrozen w)
      ∧ (∀ d, (quarterBoundary r s).channel d = s.channel d) ∧ (quarterBoundary r s).running = s.running
      ∧ (quarterBoundary r s).fastLocked = s.fastLocked := by
  have d := State.derived (s := quarterBoundary r s) (t := s)
  exact ⟨(d.2.2.1 (by simp)), (d.2.2.2.1 (by simp)).1, (d.2.2.2.1 (by simp)).2, (d.2.2.2.2.1 (by simp)), (d.2.2.2.2.2 (by simp)).1, (d.2.2.2.2.2 (by simp)).2⟩

@[simp] theorem quarterBoundary_inbound (r : Resource) (j : Link) (s : State) :
    ((quarterBoundary r s).port j).inbound = (s.port j).inbound := by
  unfold quarterBoundary; (try dsimp only); (repeat' split) <;> simp

@[simp] theorem heldQuarter_frame (r : Resource) (s : State) :
    (heldQuarter r s).clock = s.clock ∧ (heldQuarter r s).policy = s.policy
      ∧ (heldQuarter r s).tenants = s.tenants ∧ (heldQuarter r s).keys = s.keys
      ∧ (heldQuarter r s).display = s.display ∧ (heldQuarter r s).printer = s.printer
      ∧ (heldQuarter r s).bridge = s.bridge ∧ (heldQuarter r s).air = s.air ∧ (heldQuarter r s).relay = s.relay
      ∧ (heldQuarter r s).lines = s.lines ∧ (heldQuarter r s).pending = s.pending := by
  unfold heldQuarter; (try dsimp only); (repeat' split) <;> simp

@[simp] theorem heldQuarter_reads (r : Resource) (s : State) :
    (∀ w q, (heldQuarter r s).policyOf w q = s.policyOf w q) ∧ (∀ w, (heldQuarter r s).mayAct w = s.mayAct w)
      ∧ (∀ w, (heldQuarter r s).isFrozen w = s.isFrozen w) ∧ (∀ d, (heldQuarter r s).channel d = s.channel d)
      ∧ (heldQuarter r s).running = s.running ∧ (heldQuarter r s).fastLocked = s.fastLocked := by
  have d := State.derived (s := heldQuarter r s) (t := s)
  exact ⟨(d.2.2.1 (by simp)), (d.2.2.2.1 (by simp)).1, (d.2.2.2.1 (by simp)).2, (d.2.2.2.2.1 (by simp)), (d.2.2.2.2.2 (by simp)).1, (d.2.2.2.2.2 (by simp)).2⟩

@[simp] theorem heldQuarter_inbound (r : Resource) (j : Link) (s : State) :
    ((heldQuarter r s).port j).inbound = (s.port j).inbound := by
  unfold heldQuarter; (try dsimp only); (repeat' split) <;> simp

@[simp] theorem mapGrants_frame (f : Grant → Grant) (s : State) :
    (mapGrants f s).clock = s.clock ∧ (mapGrants f s).ports = s.ports ∧ (mapGrants f s).policy = s.policy
      ∧ (mapGrants f s).tenants = s.tenants ∧ (mapGrants f s).keys = s.keys
      ∧ (mapGrants f s).display = s.display ∧ (mapGrants f s).printer = s.printer
      ∧ (mapGrants f s).bridge = s.bridge ∧ (mapGrants f s).air = s.air ∧ (mapGrants f s).relay = s.relay
      ∧ (mapGrants f s).lines = s.lines ∧ (mapGrants f s).pending = s.pending := by
  unfold mapGrants; (try dsimp only); (repeat' split) <;> simp

@[simp] theorem mapGrants_reads (f : Grant → Grant) (s : State) :
    (∀ k, (mapGrants f s).port k = s.port k)
      ∧ (∀ k src, (mapGrants f s).inFlightFrom k src = s.inFlightFrom k src)
      ∧ (∀ w q, (mapGrants f s).policyOf w q = s.policyOf w q) ∧ (∀ w, (mapGrants f s).mayAct w = s.mayAct w)
      ∧ (∀ w, (mapGrants f s).isFrozen w = s.isFrozen w) ∧ (∀ d, (mapGrants f s).channel d = s.channel d)
      ∧ (mapGrants f s).running = s.running ∧ (mapGrants f s).fastLocked = s.fastLocked := by
  have d := State.derived (s := mapGrants f s) (t := s)
  exact ⟨(d.1 (by simp)).1, (d.1 (by simp)).2, (d.2.2.1 (by simp)), (d.2.2.2.1 (by simp)).1, (d.2.2.2.1 (by simp)).2, (d.2.2.2.2.1 (by simp)), (d.2.2.2.2.2 (by simp)).1, (d.2.2.2.2.2 (by simp)).2⟩

@[simp] theorem applyHoldLimit_frame (r : Resource) (limit : Nat) (s : State) :
    (applyHoldLimit r limit s).clock = s.clock ∧ (applyHoldLimit r limit s).policy = s.policy
      ∧ (applyHoldLimit r limit s).tenants = s.tenants ∧ (applyHoldLimit r limit s).keys = s.keys
      ∧ (applyHoldLimit r limit s).display = s.display ∧ (applyHoldLimit r limit s).printer = s.printer
      ∧ (applyHoldLimit r limit s).bridge = s.bridge ∧ (applyHoldLimit r limit s).air = s.air
      ∧ (applyHoldLimit r limit s).relay = s.relay ∧ (applyHoldLimit r limit s).lines = s.lines
      ∧ (applyHoldLimit r limit s).pending = s.pending := by
  unfold applyHoldLimit; (try dsimp only); (repeat' split) <;> simp

@[simp] theorem applyHoldLimit_reads (r : Resource) (limit : Nat) (s : State) :
    (∀ w q, (applyHoldLimit r limit s).policyOf w q = s.policyOf w q)
      ∧ (∀ w, (applyHoldLimit r limit s).mayAct w = s.mayAct w)
      ∧ (∀ w, (applyHoldLimit r limit s).isFrozen w = s.isFrozen w)
      ∧ (∀ d, (applyHoldLimit r limit s).channel d = s.channel d)
      ∧ (applyHoldLimit r limit s).running = s.running ∧ (applyHoldLimit r limit s).fastLocked = s.fastLocked := by
  have d := State.derived (s := applyHoldLimit r limit s) (t := s)
  exact ⟨(d.2.2.1 (by simp)), (d.2.2.2.1 (by simp)).1, (d.2.2.2.1 (by simp)).2, (d.2.2.2.2.1 (by simp)), (d.2.2.2.2.2 (by simp)).1, (d.2.2.2.2.2 (by simp)).2⟩

@[simp] theorem applyHoldLimit_inbound (r : Resource) (limit : Nat) (j : Link) (s : State) :
    ((applyHoldLimit r limit s).port j).inbound = (s.port j).inbound := by
  unfold applyHoldLimit; (try dsimp only); (repeat' split) <;> simp

@[simp] theorem policyOnHolder_frame (who : Subject) (r : Resource) (old new : PolicyEntry) (s : State) :
    (policyOnHolder who r old new s).clock = s.clock ∧ (policyOnHolder who r old new s).policy = s.policy
      ∧ (policyOnHolder who r old new s).tenants = s.tenants ∧ (policyOnHolder who r old new s).keys = s.keys
      ∧ (policyOnHolder who r old new s).display = s.display
      ∧ (policyOnHolder who r old new s).printer = s.printer
      ∧ (policyOnHolder who r old new s).bridge = s.bridge ∧ (policyOnHolder who r old new s).air = s.air
      ∧ (policyOnHolder who r old new s).relay = s.relay ∧ (policyOnHolder who r old new s).lines = s.lines
      ∧ (policyOnHolder who r old new s).pending = s.pending := by
  unfold policyOnHolder; dsimp only; (repeat' split) <;> simp

@[simp] theorem policyOnHolder_reads (who : Subject) (r : Resource) (old new : PolicyEntry) (s : State) :
    (∀ w q, (policyOnHolder who r old new s).policyOf w q = s.policyOf w q)
      ∧ (∀ w, (policyOnHolder who r old new s).mayAct w = s.mayAct w)
      ∧ (∀ w, (policyOnHolder who r old new s).isFrozen w = s.isFrozen w)
      ∧ (∀ d, (policyOnHolder who r old new s).channel d = s.channel d)
      ∧ (policyOnHolder who r old new s).running = s.running
      ∧ (policyOnHolder who r old new s).fastLocked = s.fastLocked := by
  have d := State.derived (s := policyOnHolder who r old new s) (t := s)
  exact ⟨(d.2.2.1 (by simp)), (d.2.2.2.1 (by simp)).1, (d.2.2.2.1 (by simp)).2, (d.2.2.2.2.1 (by simp)), (d.2.2.2.2.2 (by simp)).1, (d.2.2.2.2.2 (by simp)).2⟩

@[simp] theorem policyOnHolder_inbound (who : Subject) (r : Resource) (old new : PolicyEntry) (j : Link) (s : State) :
    ((policyOnHolder who r old new s).port j).inbound = (s.port j).inbound := by
  unfold policyOnHolder; dsimp only; (repeat' split) <;> simp

@[simp] theorem policyOnWaiter_frame (who : Subject) (r : Resource) (old new : PolicyEntry) (s : State) :
    (policyOnWaiter who r old new s).clock = s.clock ∧ (policyOnWaiter who r old new s).policy = s.policy
      ∧ (policyOnWaiter who r old new s).tenants = s.tenants ∧ (policyOnWaiter who r old new s).keys = s.keys
      ∧ (policyOnWaiter who r old new s).printer = s.printer
      ∧ (policyOnWaiter who r old new s).bridge = s.bridge ∧ (policyOnWaiter who r old new s).air = s.air
      ∧ (policyOnWaiter who r old new s).relay = s.relay ∧ (policyOnWaiter who r old new s).lines = s.lines
      ∧ (policyOnWaiter who r old new s).pending = s.pending := by
  unfold policyOnWaiter; (try dsimp only); (repeat' split) <;> simp

@[simp] theorem policyOnWaiter_reads (who : Subject) (r : Resource) (old new : PolicyEntry) (s : State) :
    (∀ w q, (policyOnWaiter who r old new s).policyOf w q = s.policyOf w q)
      ∧ (∀ w, (policyOnWaiter who r old new s).mayAct w = s.mayAct w)
      ∧ (∀ w, (policyOnWaiter who r old new s).isFrozen w = s.isFrozen w)
      ∧ (∀ d, (policyOnWaiter who r old new s).channel d = s.channel d)
      ∧ (policyOnWaiter who r old new s).running = s.running
      ∧ (policyOnWaiter who r old new s).fastLocked = s.fastLocked := by
  have d := State.derived (s := policyOnWaiter who r old new s) (t := s)
  exact ⟨(d.2.2.1 (by simp)), (d.2.2.2.1 (by simp)).1, (d.2.2.2.1 (by simp)).2, (d.2.2.2.2.1 (by simp)), (d.2.2.2.2.2 (by simp)).1, (d.2.2.2.2.2 (by simp)).2⟩

@[simp] theorem policyOnWaiter_inbound (who : Subject) (r : Resource) (old new : PolicyEntry) (j : Link) (s : State) :
    ((policyOnWaiter who r old new s).port j).inbound = (s.port j).inbound := by
  unfold policyOnWaiter; (try dsimp only); (repeat' split) <;> simp

@[simp] theorem tellStandingEnds_frame (who : Subject) (r : Resource) (s : State) :
    (tellStandingEnds who r s).clock = s.clock ∧ (tellStandingEnds who r s).policy = s.policy
      ∧ (tellStandingEnds who r s).tenants = s.tenants ∧ (tellStandingEnds who r s).custody = s.custody
      ∧ (tellStandingEnds who r s).keys = s.keys ∧ (tellStandingEnds who r s).display = s.display
      ∧ (tellStandingEnds who r s).printer = s.printer ∧ (tellStandingEnds who r s).bridge = s.bridge
      ∧ (tellStandingEnds who r s).air = s.air ∧ (tellStandingEnds who r s).relay = s.relay
      ∧ (tellStandingEnds who r s).lines = s.lines ∧ (tellStandingEnds who r s).pending = s.pending := by
  unfold tellStandingEnds; (try dsimp only); (repeat' split) <;> simp

@[simp] theorem tellStandingEnds_reads (who : Subject) (r : Resource) (s : State) :
    (∀ q, (tellStandingEnds who r s).entry q = s.entry q)
      ∧ (∀ q, (tellStandingEnds who r s).holder q = s.holder q)
      ∧ (∀ w q, (tellStandingEnds who r s).holds w q = s.holds w q)
      ∧ (∀ w q, (tellStandingEnds who r s).policyOf w q = s.policyOf w q)
      ∧ (∀ w, (tellStandingEnds who r s).mayAct w = s.mayAct w)
      ∧ (∀ w, (tellStandingEnds who r s).isFrozen w = s.isFrozen w)
      ∧ (∀ d, (tellStandingEnds who r s).channel d = s.channel d)
      ∧ (tellStandingEnds who r s).running = s.running ∧ (tellStandingEnds who r s).fastLocked = s.fastLocked := by
  have d := State.derived (s := tellStandingEnds who r s) (t := s)
  exact ⟨(d.2.1 (by simp)).1, (d.2.1 (by simp)).2.1, (d.2.1 (by simp)).2.2, (d.2.2.1 (by simp)), (d.2.2.2.1 (by simp)).1, (d.2.2.2.1 (by simp)).2, (d.2.2.2.2.1 (by simp)), (d.2.2.2.2.2 (by simp)).1, (d.2.2.2.2.2 (by simp)).2⟩

@[simp] theorem tellStandingEnds_inbound (who : Subject) (r : Resource) (j : Link) (s : State) :
    ((tellStandingEnds who r s).port j).inbound = (s.port j).inbound := by
  unfold tellStandingEnds; (try dsimp only); (repeat' split) <;> simp

@[simp] theorem dropStanding_frame (who : Subject) (r : Resource) (s : State) :
    (dropStanding who r s).clock = s.clock ∧ (dropStanding who r s).policy = s.policy
      ∧ (dropStanding who r s).tenants = s.tenants ∧ (dropStanding who r s).relay = s.relay
      ∧ (dropStanding who r s).lines = s.lines ∧ (dropStanding who r s).pending = s.pending := by
  unfold dropStanding; (try dsimp only); (repeat' split) <;> simp

@[simp] theorem dropStanding_reads (who : Subject) (r : Resource) (s : State) :
    (∀ w q, (dropStanding who r s).policyOf w q = s.policyOf w q)
      ∧ (∀ w, (dropStanding who r s).mayAct w = s.mayAct w)
      ∧ (∀ w, (dropStanding who r s).isFrozen w = s.isFrozen w)
      ∧ (∀ d, (dropStanding who r s).channel d = s.channel d) ∧ (dropStanding who r s).running = s.running
      ∧ (dropStanding who r s).fastLocked = s.fastLocked := by
  have d := State.derived (s := dropStanding who r s) (t := s)
  exact ⟨(d.2.2.1 (by simp)), (d.2.2.2.1 (by simp)).1, (d.2.2.2.1 (by simp)).2, (d.2.2.2.2.1 (by simp)), (d.2.2.2.2.2 (by simp)).1, (d.2.2.2.2.2 (by simp)).2⟩

@[simp] theorem dropStanding_inbound (who : Subject) (r : Resource) (j : Link) (s : State) :
    ((dropStanding who r s).port j).inbound = (s.port j).inbound := by
  unfold dropStanding; (try dsimp only); (repeat' split) <;> simp

@[simp] theorem endStanding_frame (who : Subject) (r : Resource) (s : State) :
    (endStanding who r s).clock = s.clock ∧ (endStanding who r s).policy = s.policy
      ∧ (endStanding who r s).tenants = s.tenants ∧ (endStanding who r s).relay = s.relay
      ∧ (endStanding who r s).lines = s.lines ∧ (endStanding who r s).pending = s.pending := by
  simp [endStanding]

@[simp] theorem endStanding_reads (who : Subject) (r : Resource) (s : State) :
    (∀ w q, (endStanding who r s).policyOf w q = s.policyOf w q)
      ∧ (∀ w, (endStanding who r s).mayAct w = s.mayAct w)
      ∧ (∀ w, (endStanding who r s).isFrozen w = s.isFrozen w)
      ∧ (∀ d, (endStanding who r s).channel d = s.channel d) ∧ (endStanding who r s).running = s.running
      ∧ (endStanding who r s).fastLocked = s.fastLocked := by
  have d := State.derived (s := endStanding who r s) (t := s)
  exact ⟨(d.2.2.1 (by simp)), (d.2.2.2.1 (by simp)).1, (d.2.2.2.1 (by simp)).2, (d.2.2.2.2.1 (by simp)), (d.2.2.2.2.2 (by simp)).1, (d.2.2.2.2.2 (by simp)).2⟩

@[simp] theorem endStanding_inbound (who : Subject) (r : Resource) (j : Link) (s : State) :
    ((endStanding who r s).port j).inbound = (s.port j).inbound := by
  simp [endStanding]

@[simp] theorem endAllStanding_frame (who : Subject) (s : State) :
    (endAllStanding who s).clock = s.clock ∧ (endAllStanding who s).policy = s.policy
      ∧ (endAllStanding who s).tenants = s.tenants ∧ (endAllStanding who s).relay = s.relay
      ∧ (endAllStanding who s).lines = s.lines ∧ (endAllStanding who s).pending = s.pending := by
  simp [endAllStanding, allResources]

@[simp] theorem endAllStanding_reads (who : Subject) (s : State) :
    (∀ w q, (endAllStanding who s).policyOf w q = s.policyOf w q)
      ∧ (∀ w, (endAllStanding who s).mayAct w = s.mayAct w)
      ∧ (∀ w, (endAllStanding who s).isFrozen w = s.isFrozen w)
      ∧ (∀ d, (endAllStanding who s).channel d = s.channel d) ∧ (endAllStanding who s).running = s.running
      ∧ (endAllStanding who s).fastLocked = s.fastLocked := by
  have d := State.derived (s := endAllStanding who s) (t := s)
  exact ⟨(d.2.2.1 (by simp)), (d.2.2.2.1 (by simp)).1, (d.2.2.2.1 (by simp)).2, (d.2.2.2.2.1 (by simp)), (d.2.2.2.2.2 (by simp)).1, (d.2.2.2.2.2 (by simp)).2⟩

@[simp] theorem endAllStanding_inbound (who : Subject) (j : Link) (s : State) :
    ((endAllStanding who s).port j).inbound = (s.port j).inbound := by
  simp [endAllStanding, allResources]

@[simp] theorem policyEffects_frame (who : Subject) (r : Resource) (old new : PolicyEntry) (s : State) :
    (policyEffects who r old new s).clock = s.clock ∧ (policyEffects who r old new s).policy = s.policy
      ∧ (policyEffects who r old new s).tenants = s.tenants ∧ (policyEffects who r old new s).relay = s.relay
      ∧ (policyEffects who r old new s).lines = s.lines ∧ (policyEffects who r old new s).pending = s.pending := by
  unfold policyEffects; (try dsimp only); (repeat' split) <;> simp

@[simp] theorem policyEffects_reads (who : Subject) (r : Resource) (old new : PolicyEntry) (s : State) :
    (∀ w q, (policyEffects who r old new s).policyOf w q = s.policyOf w q)
      ∧ (∀ w, (policyEffects who r old new s).mayAct w = s.mayAct w)
      ∧ (∀ w, (policyEffects who r old new s).isFrozen w = s.isFrozen w)
      ∧ (∀ d, (policyEffects who r old new s).channel d = s.channel d)
      ∧ (policyEffects who r old new s).running = s.running
      ∧ (policyEffects who r old new s).fastLocked = s.fastLocked := by
  have d := State.derived (s := policyEffects who r old new s) (t := s)
  exact ⟨(d.2.2.1 (by simp)), (d.2.2.2.1 (by simp)).1, (d.2.2.2.1 (by simp)).2, (d.2.2.2.2.1 (by simp)), (d.2.2.2.2.2 (by simp)).1, (d.2.2.2.2.2 (by simp)).2⟩

@[simp] theorem policyEffects_inbound (who : Subject) (r : Resource) (old new : PolicyEntry) (j : Link) (s : State) :
    ((policyEffects who r old new s).port j).inbound = (s.port j).inbound := by
  unfold policyEffects; (try dsimp only); (repeat' split) <;> simp

@[simp] theorem recordToFifo_frame (k : KeyRecord) (s : State) :
    (recordToFifo k s).clock = s.clock ∧ (recordToFifo k s).policy = s.policy
      ∧ (recordToFifo k s).tenants = s.tenants ∧ (recordToFifo k s).custody = s.custody
      ∧ (recordToFifo k s).display = s.display ∧ (recordToFifo k s).printer = s.printer
      ∧ (recordToFifo k s).bridge = s.bridge ∧ (recordToFifo k s).air = s.air
      ∧ (recordToFifo k s).relay = s.relay ∧ (recordToFifo k s).lines = s.lines
      ∧ (recordToFifo k s).pending = s.pending := by
  unfold recordToFifo; (try dsimp only); (repeat' split) <;> simp

@[simp] theorem recordToFifo_reads (k : KeyRecord) (s : State) :
    (∀ q, (recordToFifo k s).entry q = s.entry q) ∧ (∀ q, (recordToFifo k s).holder q = s.holder q)
      ∧ (∀ w q, (recordToFifo k s).holds w q = s.holds w q)
      ∧ (∀ w q, (recordToFifo k s).policyOf w q = s.policyOf w q)
      ∧ (∀ w, (recordToFifo k s).mayAct w = s.mayAct w) ∧ (∀ w, (recordToFifo k s).isFrozen w = s.isFrozen w)
      ∧ (∀ d, (recordToFifo k s).channel d = s.channel d) ∧ (recordToFifo k s).running = s.running
      ∧ (recordToFifo k s).fastLocked = s.fastLocked := by
  have d := State.derived (s := recordToFifo k s) (t := s)
  exact ⟨(d.2.1 (by simp)).1, (d.2.1 (by simp)).2.1, (d.2.1 (by simp)).2.2, (d.2.2.1 (by simp)), (d.2.2.2.1 (by simp)).1, (d.2.2.2.1 (by simp)).2, (d.2.2.2.2.1 (by simp)), (d.2.2.2.2.2 (by simp)).1, (d.2.2.2.2.2 (by simp)).2⟩

@[simp] theorem recordToFifo_inbound (k : KeyRecord) (j : Link) (s : State) :
    ((recordToFifo k s).port j).inbound = (s.port j).inbound := by
  unfold recordToFifo; (try dsimp only); (repeat' split) <;> simp

@[simp] theorem echoPress_frame (k : KeyRecord) (s : State) :
    (echoPress k s).clock = s.clock ∧ (echoPress k s).policy = s.policy ∧ (echoPress k s).tenants = s.tenants
      ∧ (echoPress k s).custody = s.custody ∧ (echoPress k s).keys = s.keys
      ∧ (echoPress k s).display = s.display ∧ (echoPress k s).printer = s.printer
      ∧ (echoPress k s).bridge = s.bridge ∧ (echoPress k s).air = s.air ∧ (echoPress k s).relay = s.relay
      ∧ (echoPress k s).lines = s.lines ∧ (echoPress k s).pending = s.pending := by
  unfold echoPress; (try dsimp only); (repeat' split) <;> simp

@[simp] theorem echoPress_reads (k : KeyRecord) (s : State) :
    (∀ q, (echoPress k s).entry q = s.entry q) ∧ (∀ q, (echoPress k s).holder q = s.holder q)
      ∧ (∀ w q, (echoPress k s).holds w q = s.holds w q)
      ∧ (∀ w q, (echoPress k s).policyOf w q = s.policyOf w q) ∧ (∀ w, (echoPress k s).mayAct w = s.mayAct w)
      ∧ (∀ w, (echoPress k s).isFrozen w = s.isFrozen w) ∧ (∀ d, (echoPress k s).channel d = s.channel d)
      ∧ (echoPress k s).running = s.running ∧ (echoPress k s).fastLocked = s.fastLocked := by
  have d := State.derived (s := echoPress k s) (t := s)
  exact ⟨(d.2.1 (by simp)).1, (d.2.1 (by simp)).2.1, (d.2.1 (by simp)).2.2, (d.2.2.1 (by simp)), (d.2.2.2.1 (by simp)).1, (d.2.2.2.1 (by simp)).2, (d.2.2.2.2.1 (by simp)), (d.2.2.2.2.2 (by simp)).1, (d.2.2.2.2.2 (by simp)).2⟩

@[simp] theorem echoPress_inbound (k : KeyRecord) (j : Link) (s : State) :
    ((echoPress k s).port j).inbound = (s.port j).inbound := by
  unfold echoPress; (try dsimp only); (repeat' split) <;> simp

@[simp] theorem deliverRecord_frame (k : KeyRecord) (s : State) :
    (deliverRecord s k).clock = s.clock ∧ (deliverRecord s k).policy = s.policy
      ∧ (deliverRecord s k).tenants = s.tenants ∧ (deliverRecord s k).custody = s.custody
      ∧ (deliverRecord s k).display = s.display ∧ (deliverRecord s k).printer = s.printer
      ∧ (deliverRecord s k).bridge = s.bridge ∧ (deliverRecord s k).air = s.air
      ∧ (deliverRecord s k).relay = s.relay ∧ (deliverRecord s k).lines = s.lines
      ∧ (deliverRecord s k).pending = s.pending := by
  simp [deliverRecord]

@[simp] theorem deliverRecord_reads (k : KeyRecord) (s : State) :
    (∀ q, (deliverRecord s k).entry q = s.entry q) ∧ (∀ q, (deliverRecord s k).holder q = s.holder q)
      ∧ (∀ w q, (deliverRecord s k).holds w q = s.holds w q)
      ∧ (∀ w q, (deliverRecord s k).policyOf w q = s.policyOf w q)
      ∧ (∀ w, (deliverRecord s k).mayAct w = s.mayAct w) ∧ (∀ w, (deliverRecord s k).isFrozen w = s.isFrozen w)
      ∧ (∀ d, (deliverRecord s k).channel d = s.channel d) ∧ (deliverRecord s k).running = s.running
      ∧ (deliverRecord s k).fastLocked = s.fastLocked := by
  have d := State.derived (s := deliverRecord s k) (t := s)
  exact ⟨(d.2.1 (by simp)).1, (d.2.1 (by simp)).2.1, (d.2.1 (by simp)).2.2, (d.2.2.1 (by simp)), (d.2.2.2.1 (by simp)).1, (d.2.2.2.1 (by simp)).2, (d.2.2.2.2.1 (by simp)), (d.2.2.2.2.2 (by simp)).1, (d.2.2.2.2.2 (by simp)).2⟩

@[simp] theorem deliverRecord_inbound (k : KeyRecord) (j : Link) (s : State) :
    ((deliverRecord s k).port j).inbound = (s.port j).inbound := by
  simp [deliverRecord]

@[simp] theorem deliverRecords_frame (ks : List KeyRecord) (s : State) :
    (ks.foldl deliverRecord s).clock = s.clock ∧ (ks.foldl deliverRecord s).policy = s.policy
      ∧ (ks.foldl deliverRecord s).tenants = s.tenants ∧ (ks.foldl deliverRecord s).custody = s.custody
      ∧ (ks.foldl deliverRecord s).display = s.display ∧ (ks.foldl deliverRecord s).printer = s.printer
      ∧ (ks.foldl deliverRecord s).bridge = s.bridge ∧ (ks.foldl deliverRecord s).air = s.air
      ∧ (ks.foldl deliverRecord s).relay = s.relay ∧ (ks.foldl deliverRecord s).lines = s.lines
      ∧ (ks.foldl deliverRecord s).pending = s.pending := by
  refine ⟨foldl_keeps (fun x : State => x.clock) _ (fun _ _ => by simp) _ _, foldl_keeps (fun x : State => x.policy) _ (fun _ _ => by simp) _ _, foldl_keeps (fun x : State => x.tenants) _ (fun _ _ => by simp) _ _, foldl_keeps (fun x : State => x.custody) _ (fun _ _ => by simp) _ _, foldl_keeps (fun x : State => x.display) _ (fun _ _ => by simp) _ _, foldl_keeps (fun x : State => x.printer) _ (fun _ _ => by simp) _ _, foldl_keeps (fun x : State => x.bridge) _ (fun _ _ => by simp) _ _, foldl_keeps (fun x : State => x.air) _ (fun _ _ => by simp) _ _, foldl_keeps (fun x : State => x.relay) _ (fun _ _ => by simp) _ _, foldl_keeps (fun x : State => x.lines) _ (fun _ _ => by simp) _ _, foldl_keeps (fun x : State => x.pending) _ (fun _ _ => by simp) _ _⟩

@[simp] theorem deliverRecords_reads (ks : List KeyRecord) (s : State) :
    (∀ q, (ks.foldl deliverRecord s).entry q = s.entry q)
      ∧ (∀ q, (ks.foldl deliverRecord s).holder q = s.holder q)
      ∧ (∀ w q, (ks.foldl deliverRecord s).holds w q = s.holds w q)
      ∧ (∀ w q, (ks.foldl deliverRecord s).policyOf w q = s.policyOf w q)
      ∧ (∀ w, (ks.foldl deliverRecord s).mayAct w = s.mayAct w)
      ∧ (∀ w, (ks.foldl deliverRecord s).isFrozen w = s.isFrozen w)
      ∧ (∀ d, (ks.foldl deliverRecord s).channel d = s.channel d)
      ∧ (ks.foldl deliverRecord s).running = s.running ∧ (ks.foldl deliverRecord s).fastLocked = s.fastLocked := by
  have d := State.derived (s := ks.foldl deliverRecord s) (t := s)
  exact ⟨(d.2.1 (by simp)).1, (d.2.1 (by simp)).2.1, (d.2.1 (by simp)).2.2, (d.2.2.1 (by simp)), (d.2.2.2.1 (by simp)).1, (d.2.2.2.1 (by simp)).2, (d.2.2.2.2.1 (by simp)), (d.2.2.2.2.2 (by simp)).1, (d.2.2.2.2.2 (by simp)).2⟩

@[simp] theorem deliverRecords_inbound (ks : List KeyRecord) (j : Link) (s : State) :
    ((ks.foldl deliverRecord s).port j).inbound = (s.port j).inbound := by
  exact foldl_keeps (fun x : State => (x.port j).inbound) _ (fun _ _ => by simp) _ _

@[simp] theorem matchFound_frame (s : State) :
    (matchFound s).policy = s.policy ∧ (matchFound s).tenants = s.tenants ∧ (matchFound s).printer = s.printer
      ∧ (matchFound s).bridge = s.bridge ∧ (matchFound s).air = s.air ∧ (matchFound s).relay = s.relay
      ∧ (matchFound s).lines = s.lines ∧ (matchFound s).pending = s.pending := by
  unfold matchFound; (try dsimp only); (repeat' split) <;> simp

@[simp] theorem matchFound_reads (s : State) :
    (∀ w q, (matchFound s).policyOf w q = s.policyOf w q) ∧ (∀ w, (matchFound s).mayAct w = s.mayAct w)
      ∧ (∀ w, (matchFound s).isFrozen w = s.isFrozen w) ∧ (∀ d, (matchFound s).channel d = s.channel d) := by
  have d := State.derived (s := matchFound s) (t := s)
  exact ⟨(d.2.2.1 (by simp)), (d.2.2.2.1 (by simp)).1, (d.2.2.2.1 (by simp)).2, (d.2.2.2.2.1 (by simp))⟩

@[simp] theorem matchFound_inbound (j : Link) (s : State) :
    ((matchFound s).port j).inbound = (s.port j).inbound := by
  unfold matchFound; (try dsimp only); (repeat' split) <;> simp

/-- A key's code names its row and column (5.1). -/
@[simp] theorem keyCode_of_key (i : Fin 24) : keyCode (rowOf i) (columnOf i) = codeOf i := by
  simp only [keyCode, rowOf, columnOf, codeOf]; omega

/-- Four rows, each driven once, sense every key as it stands (R80). -/
@[simp] theorem sampleOf_matrixScan (contacts : BitVec 24) : sampleOf (matrixScan contacts) = contacts := by
  apply BitVec.eq_of_getLsbD_eq
  intro i hi
  rw [sampleOf, BitVec.getLsbD_ofFnLE, dif_pos hi, Bool.eq_iff_iff]
  simp only [matrixScan, readRow, List.any_map, List.any_eq_true, List.mem_finRange, Function.comp_apply, true_and,
    Bool.and_eq_true, beq_iff_eq, Fin.getElem_fin, Vector.getElem_ofFn]
  constructor
  · rintro ⟨r, rfl, h⟩; simpa [codeOf] using h
  · intro h; exact ⟨_, rfl, by simpa [codeOf] using h⟩

/-- While a scan event is taken, each row is driven exactly once and one at a time; where none falls, no row is
driven (R80). -/
theorem keyScanKrow_rows (contacts : BitVec 24) (s : State) :
    keyScanKrow contacts s =
      if s.keys.scanDue then [rowDrives (some 0), rowDrives (some 1), rowDrives (some 2), rowDrives (some 3)]
      else [] := by
  unfold keyScanKrow; split <;> rfl

/-- A row's line is driven exactly where it is the row being driven. -/
@[simp] theorem rowDrives_row (driven : Option (Fin 4)) (r : Fin 4) :
    (rowDrives driven)[r] = (driven == some r) := by simp [rowDrives]

@[simp] theorem State.krow_row (s : State) (r : Fin 4) : s.krow[r] = false := by simp [State.krow, rowDrives]

/-- The sample of a scan event is the matrix as its keys stand. -/
theorem scanEvent_eq (sample : BitVec 24) (s : State) :
    scanEvent sample s =
      (let w := scanMatrix s.keys.settings.debounce s.clock.partTime sample s.keys.keys
       let t := w.records.foldl deliverRecord { s with
         lines := { s.lines with matrix := sample }
         keys := { s.keys with keys := w.keys, scanDue := false } }
       let m := if t.holds .pay .keypad then (t.keys, false) else matchRecords s.clock.partTime w.records t.keys
       let u := { t with keys := m.1 }
       let v := if (w.records.any fun r => r.edge == .press) ∧ u.keys.settings.wake = .any then wake .key u else u
       if m.2 then matchFound v else v) := by
  simp only [scanEvent, sampleOf_matrixScan]

@[simp] theorem scanEvent_frame (sample : BitVec 24) (s : State) :
    (scanEvent sample s).policy = s.policy ∧ (scanEvent sample s).tenants = s.tenants
      ∧ (scanEvent sample s).printer = s.printer ∧ (scanEvent sample s).bridge = s.bridge
      ∧ (scanEvent sample s).air = s.air ∧ (scanEvent sample s).relay = s.relay
      ∧ (scanEvent sample s).pending = s.pending := by
  unfold scanEvent; dsimp only; (repeat' split) <;> simp

@[simp] theorem scanEvent_reads (sample : BitVec 24) (s : State) :
    (∀ w q, (scanEvent sample s).policyOf w q = s.policyOf w q)
      ∧ (∀ w, (scanEvent sample s).mayAct w = s.mayAct w)
      ∧ (∀ w, (scanEvent sample s).isFrozen w = s.isFrozen w)
      ∧ (∀ d, (scanEvent sample s).channel d = s.channel d) := by
  have d := State.derived (s := scanEvent sample s) (t := s)
  exact ⟨(d.2.2.1 (by simp)), (d.2.2.2.1 (by simp)).1, (d.2.2.2.1 (by simp)).2, (d.2.2.2.2.1 (by simp))⟩

@[simp] theorem scanEvent_inbound (sample : BitVec 24) (j : Link) (s : State) :
    ((scanEvent sample s).port j).inbound = (s.port j).inbound := by
  unfold scanEvent; dsimp only; (repeat' split) <;> simp

@[simp] theorem keyScan_frame (sample : BitVec 24) (s : State) :
    (keyScan sample s).policy = s.policy ∧ (keyScan sample s).tenants = s.tenants
      ∧ (keyScan sample s).printer = s.printer ∧ (keyScan sample s).bridge = s.bridge
      ∧ (keyScan sample s).air = s.air ∧ (keyScan sample s).relay = s.relay
      ∧ (keyScan sample s).pending = s.pending := by
  unfold keyScan; (try dsimp only); (repeat' split) <;> simp

@[simp] theorem keyScan_reads (sample : BitVec 24) (s : State) :
    (∀ w q, (keyScan sample s).policyOf w q = s.policyOf w q) ∧ (∀ w, (keyScan sample s).mayAct w = s.mayAct w)
      ∧ (∀ w, (keyScan sample s).isFrozen w = s.isFrozen w) ∧ (∀ d, (keyScan sample s).channel d = s.channel d) := by
  have d := State.derived (s := keyScan sample s) (t := s)
  exact ⟨(d.2.2.1 (by simp)), (d.2.2.2.1 (by simp)).1, (d.2.2.2.1 (by simp)).2, (d.2.2.2.2.1 (by simp))⟩

@[simp] theorem keyScan_inbound (sample : BitVec 24) (j : Link) (s : State) :
    ((keyScan sample s).port j).inbound = (s.port j).inbound := by
  unfold keyScan; (try dsimp only); (repeat' split) <;> simp

@[simp] theorem holdTimerMatch_frame (s : State) :
    (holdTimerMatch s).policy = s.policy ∧ (holdTimerMatch s).tenants = s.tenants
      ∧ (holdTimerMatch s).printer = s.printer ∧ (holdTimerMatch s).bridge = s.bridge
      ∧ (holdTimerMatch s).air = s.air ∧ (holdTimerMatch s).relay = s.relay
      ∧ (holdTimerMatch s).lines = s.lines ∧ (holdTimerMatch s).pending = s.pending := by
  unfold holdTimerMatch; (try dsimp only); (repeat' split) <;> simp

@[simp] theorem holdTimerMatch_reads (s : State) :
    (∀ w q, (holdTimerMatch s).policyOf w q = s.policyOf w q) ∧ (∀ w, (holdTimerMatch s).mayAct w = s.mayAct w)
      ∧ (∀ w, (holdTimerMatch s).isFrozen w = s.isFrozen w) ∧ (∀ d, (holdTimerMatch s).channel d = s.channel d) := by
  have d := State.derived (s := holdTimerMatch s) (t := s)
  exact ⟨(d.2.2.1 (by simp)), (d.2.2.2.1 (by simp)).1, (d.2.2.2.1 (by simp)).2, (d.2.2.2.2.1 (by simp))⟩

@[simp] theorem holdTimerMatch_inbound (j : Link) (s : State) :
    ((holdTimerMatch s).port j).inbound = (s.port j).inbound := by
  unfold holdTimerMatch; (try dsimp only); (repeat' split) <;> simp

@[simp] theorem switchDisplay_frame (target : Source) (s : State) :
    (switchDisplay target s).clock = s.clock ∧ (switchDisplay target s).policy = s.policy
      ∧ (switchDisplay target s).tenants = s.tenants ∧ (switchDisplay target s).keys = s.keys
      ∧ (switchDisplay target s).printer = s.printer ∧ (switchDisplay target s).bridge = s.bridge
      ∧ (switchDisplay target s).air = s.air ∧ (switchDisplay target s).relay = s.relay
      ∧ (switchDisplay target s).lines = s.lines ∧ (switchDisplay target s).pending = s.pending := by
  unfold switchDisplay; (try dsimp only); (repeat' split) <;> simp

@[simp] theorem switchDisplay_reads (target : Source) (s : State) :
    (∀ w q, (switchDisplay target s).policyOf w q = s.policyOf w q)
      ∧ (∀ w, (switchDisplay target s).mayAct w = s.mayAct w)
      ∧ (∀ w, (switchDisplay target s).isFrozen w = s.isFrozen w)
      ∧ (∀ d, (switchDisplay target s).channel d = s.channel d) ∧ (switchDisplay target s).running = s.running
      ∧ (switchDisplay target s).fastLocked = s.fastLocked := by
  have d := State.derived (s := switchDisplay target s) (t := s)
  exact ⟨(d.2.2.1 (by simp)), (d.2.2.2.1 (by simp)).1, (d.2.2.2.1 (by simp)).2, (d.2.2.2.2.1 (by simp)), (d.2.2.2.2.2 (by simp)).1, (d.2.2.2.2.2 (by simp)).2⟩

@[simp] theorem switchDisplay_inbound (target : Source) (j : Link) (s : State) :
    ((switchDisplay target s).port j).inbound = (s.port j).inbound := by
  unfold switchDisplay; (try dsimp only); (repeat' split) <;> simp

@[simp] theorem fsyncEdge_frame (s : State) :
    (fsyncEdge s).clock = s.clock ∧ (fsyncEdge s).policy = s.policy ∧ (fsyncEdge s).tenants = s.tenants
      ∧ (fsyncEdge s).keys = s.keys ∧ (fsyncEdge s).printer = s.printer ∧ (fsyncEdge s).bridge = s.bridge
      ∧ (fsyncEdge s).air = s.air ∧ (fsyncEdge s).relay = s.relay ∧ (fsyncEdge s).lines = s.lines
      ∧ (fsyncEdge s).pending = s.pending := by
  unfold fsyncEdge; (try dsimp only); (repeat' split) <;> simp

@[simp] theorem fsyncEdge_reads (s : State) :
    (∀ w q, (fsyncEdge s).policyOf w q = s.policyOf w q) ∧ (∀ w, (fsyncEdge s).mayAct w = s.mayAct w)
      ∧ (∀ w, (fsyncEdge s).isFrozen w = s.isFrozen w) ∧ (∀ d, (fsyncEdge s).channel d = s.channel d)
      ∧ (fsyncEdge s).running = s.running ∧ (fsyncEdge s).fastLocked = s.fastLocked := by
  have d := State.derived (s := fsyncEdge s) (t := s)
  exact ⟨(d.2.2.1 (by simp)), (d.2.2.2.1 (by simp)).1, (d.2.2.2.1 (by simp)).2, (d.2.2.2.2.1 (by simp)), (d.2.2.2.2.2 (by simp)).1, (d.2.2.2.2.2 (by simp)).2⟩

@[simp] theorem fsyncEdge_inbound (j : Link) (s : State) :
    ((fsyncEdge s).port j).inbound = (s.port j).inbound := by
  unfold fsyncEdge; (try dsimp only); (repeat' split) <;> simp

@[simp] theorem forcedSwitch_frame (s : State) :
    (forcedSwitch s).clock = s.clock ∧ (forcedSwitch s).policy = s.policy
      ∧ (forcedSwitch s).tenants = s.tenants ∧ (forcedSwitch s).keys = s.keys
      ∧ (forcedSwitch s).printer = s.printer ∧ (forcedSwitch s).bridge = s.bridge
      ∧ (forcedSwitch s).air = s.air ∧ (forcedSwitch s).relay = s.relay ∧ (forcedSwitch s).lines = s.lines
      ∧ (forcedSwitch s).pending = s.pending := by
  unfold forcedSwitch; (try dsimp only); (repeat' split) <;> simp

@[simp] theorem forcedSwitch_reads (s : State) :
    (∀ w q, (forcedSwitch s).policyOf w q = s.policyOf w q) ∧ (∀ w, (forcedSwitch s).mayAct w = s.mayAct w)
      ∧ (∀ w, (forcedSwitch s).isFrozen w = s.isFrozen w) ∧ (∀ d, (forcedSwitch s).channel d = s.channel d)
      ∧ (forcedSwitch s).running = s.running ∧ (forcedSwitch s).fastLocked = s.fastLocked := by
  have d := State.derived (s := forcedSwitch s) (t := s)
  exact ⟨(d.2.2.1 (by simp)), (d.2.2.2.1 (by simp)).1, (d.2.2.2.1 (by simp)).2, (d.2.2.2.2.1 (by simp)), (d.2.2.2.2.2 (by simp)).1, (d.2.2.2.2.2 (by simp)).2⟩

@[simp] theorem forcedSwitch_inbound (j : Link) (s : State) :
    ((forcedSwitch s).port j).inbound = (s.port j).inbound := by
  unfold forcedSwitch; (try dsimp only); (repeat' split) <;> simp

@[simp] theorem blinkToggle_frame (s : State) :
    (blinkToggle s).clock = s.clock ∧ (blinkToggle s).ports = s.ports ∧ (blinkToggle s).policy = s.policy
      ∧ (blinkToggle s).tenants = s.tenants ∧ (blinkToggle s).custody = s.custody
      ∧ (blinkToggle s).keys = s.keys ∧ (blinkToggle s).printer = s.printer ∧ (blinkToggle s).bridge = s.bridge
      ∧ (blinkToggle s).air = s.air ∧ (blinkToggle s).relay = s.relay ∧ (blinkToggle s).lines = s.lines
      ∧ (blinkToggle s).pending = s.pending := by
  unfold blinkToggle; (try dsimp only); (repeat' split) <;> simp

@[simp] theorem blinkToggle_reads (s : State) :
    (∀ k, (blinkToggle s).port k = s.port k)
      ∧ (∀ k src, (blinkToggle s).inFlightFrom k src = s.inFlightFrom k src)
      ∧ (∀ q, (blinkToggle s).entry q = s.entry q) ∧ (∀ q, (blinkToggle s).holder q = s.holder q)
      ∧ (∀ w q, (blinkToggle s).holds w q = s.holds w q)
      ∧ (∀ w q, (blinkToggle s).policyOf w q = s.policyOf w q) ∧ (∀ w, (blinkToggle s).mayAct w = s.mayAct w)
      ∧ (∀ w, (blinkToggle s).isFrozen w = s.isFrozen w) ∧ (∀ d, (blinkToggle s).channel d = s.channel d)
      ∧ (blinkToggle s).running = s.running ∧ (blinkToggle s).fastLocked = s.fastLocked := by
  have d := State.derived (s := blinkToggle s) (t := s)
  exact ⟨(d.1 (by simp)).1, (d.1 (by simp)).2, (d.2.1 (by simp)).1, (d.2.1 (by simp)).2.1, (d.2.1 (by simp)).2.2, (d.2.2.1 (by simp)), (d.2.2.2.1 (by simp)).1, (d.2.2.2.1 (by simp)).2, (d.2.2.2.2.1 (by simp)), (d.2.2.2.2.2 (by simp)).1, (d.2.2.2.2.2 (by simp)).2⟩

@[simp] theorem prdyLevel_frame (level : Bool) (s : State) :
    (prdyLevel level s).clock = s.clock ∧ (prdyLevel level s).ports = s.ports
      ∧ (prdyLevel level s).policy = s.policy ∧ (prdyLevel level s).tenants = s.tenants
      ∧ (prdyLevel level s).custody = s.custody ∧ (prdyLevel level s).keys = s.keys
      ∧ (prdyLevel level s).display = s.display ∧ (prdyLevel level s).bridge = s.bridge
      ∧ (prdyLevel level s).air = s.air ∧ (prdyLevel level s).relay = s.relay
      ∧ (prdyLevel level s).pending = s.pending := by
  unfold prdyLevel; (try dsimp only); (repeat' split) <;> simp

@[simp] theorem prdyLevel_reads (level : Bool) (s : State) :
    (∀ k, (prdyLevel level s).port k = s.port k)
      ∧ (∀ k src, (prdyLevel level s).inFlightFrom k src = s.inFlightFrom k src)
      ∧ (∀ q, (prdyLevel level s).entry q = s.entry q) ∧ (∀ q, (prdyLevel level s).holder q = s.holder q)
      ∧ (∀ w q, (prdyLevel level s).holds w q = s.holds w q)
      ∧ (∀ w q, (prdyLevel level s).policyOf w q = s.policyOf w q)
      ∧ (∀ w, (prdyLevel level s).mayAct w = s.mayAct w) ∧ (∀ w, (prdyLevel level s).isFrozen w = s.isFrozen w)
      ∧ (∀ d, (prdyLevel level s).channel d = s.channel d) ∧ (prdyLevel level s).running = s.running
      ∧ (prdyLevel level s).fastLocked = s.fastLocked := by
  have d := State.derived (s := prdyLevel level s) (t := s)
  exact ⟨(d.1 (by simp)).1, (d.1 (by simp)).2, (d.2.1 (by simp)).1, (d.2.1 (by simp)).2.1, (d.2.1 (by simp)).2.2, (d.2.2.1 (by simp)), (d.2.2.2.1 (by simp)).1, (d.2.2.2.1 (by simp)).2, (d.2.2.2.2.1 (by simp)), (d.2.2.2.2.2 (by simp)).1, (d.2.2.2.2.2 (by simp)).2⟩

@[simp] theorem reportDrained_frame (s : State) :
    (reportDrained s).clock = s.clock ∧ (reportDrained s).policy = s.policy
      ∧ (reportDrained s).tenants = s.tenants ∧ (reportDrained s).custody = s.custody
      ∧ (reportDrained s).keys = s.keys ∧ (reportDrained s).display = s.display
      ∧ (reportDrained s).bridge = s.bridge ∧ (reportDrained s).air = s.air ∧ (reportDrained s).relay = s.relay
      ∧ (reportDrained s).lines = s.lines ∧ (reportDrained s).pending = s.pending := by
  unfold reportDrained; (try dsimp only); (repeat' split) <;> simp

@[simp] theorem reportDrained_reads (s : State) :
    (∀ q, (reportDrained s).entry q = s.entry q) ∧ (∀ q, (reportDrained s).holder q = s.holder q)
      ∧ (∀ w q, (reportDrained s).holds w q = s.holds w q)
      ∧ (∀ w q, (reportDrained s).policyOf w q = s.policyOf w q)
      ∧ (∀ w, (reportDrained s).mayAct w = s.mayAct w) ∧ (∀ w, (reportDrained s).isFrozen w = s.isFrozen w)
      ∧ (∀ d, (reportDrained s).channel d = s.channel d) ∧ (reportDrained s).running = s.running
      ∧ (reportDrained s).fastLocked = s.fastLocked := by
  have d := State.derived (s := reportDrained s) (t := s)
  exact ⟨(d.2.1 (by simp)).1, (d.2.1 (by simp)).2.1, (d.2.1 (by simp)).2.2, (d.2.2.1 (by simp)), (d.2.2.2.1 (by simp)).1, (d.2.2.2.1 (by simp)).2, (d.2.2.2.2.1 (by simp)), (d.2.2.2.2.2 (by simp)).1, (d.2.2.2.2.2 (by simp)).2⟩

@[simp] theorem reportDrained_inbound (j : Link) (s : State) :
    ((reportDrained s).port j).inbound = (s.port j).inbound := by
  unfold reportDrained; (try dsimp only); (repeat' split) <;> simp

@[simp] theorem stopFastClock_frame (s : State) :
    (stopFastClock s).ports = s.ports ∧ (stopFastClock s).policy = s.policy
      ∧ (stopFastClock s).tenants = s.tenants ∧ (stopFastClock s).custody = s.custody
      ∧ (stopFastClock s).keys = s.keys ∧ (stopFastClock s).display = s.display
      ∧ (stopFastClock s).printer = s.printer ∧ (stopFastClock s).bridge = s.bridge
      ∧ (stopFastClock s).air = s.air ∧ (stopFastClock s).relay = s.relay ∧ (stopFastClock s).lines = s.lines
      ∧ (stopFastClock s).pending = s.pending := by
  unfold stopFastClock; (try dsimp only); (repeat' split) <;> simp

@[simp] theorem stopFastClock_reads (s : State) :
    (∀ k, (stopFastClock s).port k = s.port k)
      ∧ (∀ k src, (stopFastClock s).inFlightFrom k src = s.inFlightFrom k src)
      ∧ (∀ q, (stopFastClock s).entry q = s.entry q) ∧ (∀ q, (stopFastClock s).holder q = s.holder q)
      ∧ (∀ w q, (stopFastClock s).holds w q = s.holds w q)
      ∧ (∀ w q, (stopFastClock s).policyOf w q = s.policyOf w q)
      ∧ (∀ w, (stopFastClock s).mayAct w = s.mayAct w) ∧ (∀ w, (stopFastClock s).isFrozen w = s.isFrozen w)
      ∧ (∀ d, (stopFastClock s).channel d = s.channel d) := by
  have d := State.derived (s := stopFastClock s) (t := s)
  exact ⟨(d.1 (by simp)).1, (d.1 (by simp)).2, (d.2.1 (by simp)).1, (d.2.1 (by simp)).2.1, (d.2.1 (by simp)).2.2, (d.2.2.1 (by simp)), (d.2.2.2.1 (by simp)).1, (d.2.2.2.1 (by simp)).2, (d.2.2.2.2.1 (by simp))⟩

@[simp] theorem restartStall_frame (s : State) :
    (restartStall s).clock = s.clock ∧ (restartStall s).ports = s.ports ∧ (restartStall s).policy = s.policy
      ∧ (restartStall s).tenants = s.tenants ∧ (restartStall s).custody = s.custody
      ∧ (restartStall s).keys = s.keys ∧ (restartStall s).display = s.display
      ∧ (restartStall s).bridge = s.bridge ∧ (restartStall s).air = s.air ∧ (restartStall s).relay = s.relay
      ∧ (restartStall s).lines = s.lines ∧ (restartStall s).pending = s.pending := by
  unfold restartStall; (try dsimp only); (repeat' split) <;> simp

@[simp] theorem restartStall_reads (s : State) :
    (∀ k, (restartStall s).port k = s.port k)
      ∧ (∀ k src, (restartStall s).inFlightFrom k src = s.inFlightFrom k src)
      ∧ (∀ q, (restartStall s).entry q = s.entry q) ∧ (∀ q, (restartStall s).holder q = s.holder q)
      ∧ (∀ w q, (restartStall s).holds w q = s.holds w q)
      ∧ (∀ w q, (restartStall s).policyOf w q = s.policyOf w q) ∧ (∀ w, (restartStall s).mayAct w = s.mayAct w)
      ∧ (∀ w, (restartStall s).isFrozen w = s.isFrozen w) ∧ (∀ d, (restartStall s).channel d = s.channel d)
      ∧ (restartStall s).running = s.running ∧ (restartStall s).fastLocked = s.fastLocked := by
  have d := State.derived (s := restartStall s) (t := s)
  exact ⟨(d.1 (by simp)).1, (d.1 (by simp)).2, (d.2.1 (by simp)).1, (d.2.1 (by simp)).2.1, (d.2.1 (by simp)).2.2, (d.2.2.1 (by simp)), (d.2.2.2.1 (by simp)).1, (d.2.2.2.1 (by simp)).2, (d.2.2.2.2.1 (by simp)), (d.2.2.2.2.2 (by simp)).1, (d.2.2.2.2.2 (by simp)).2⟩

@[simp] theorem characterComplete_frame (s : State) :
    (characterComplete s).policy = s.policy ∧ (characterComplete s).tenants = s.tenants
      ∧ (characterComplete s).keys = s.keys ∧ (characterComplete s).display = s.display
      ∧ (characterComplete s).bridge = s.bridge ∧ (characterComplete s).air = s.air
      ∧ (characterComplete s).relay = s.relay ∧ (characterComplete s).lines = s.lines
      ∧ (characterComplete s).pending = s.pending := by
  unfold characterComplete; (try dsimp only); (repeat' split) <;> simp

@[simp] theorem characterComplete_reads (s : State) :
    (∀ w q, (characterComplete s).policyOf w q = s.policyOf w q)
      ∧ (∀ w, (characterComplete s).mayAct w = s.mayAct w)
      ∧ (∀ w, (characterComplete s).isFrozen w = s.isFrozen w)
      ∧ (∀ d, (characterComplete s).channel d = s.channel d) := by
  have d := State.derived (s := characterComplete s) (t := s)
  exact ⟨(d.2.2.1 (by simp)), (d.2.2.2.1 (by simp)).1, (d.2.2.2.1 (by simp)).2, (d.2.2.2.2.1 (by simp))⟩

@[simp] theorem characterComplete_inbound (j : Link) (s : State) :
    ((characterComplete s).port j).inbound = (s.port j).inbound := by
  unfold characterComplete; (try dsimp only); (repeat' split) <;> simp

@[simp] theorem printerStall_frame (s : State) :
    (printerStall s).clock = s.clock ∧ (printerStall s).policy = s.policy
      ∧ (printerStall s).tenants = s.tenants ∧ (printerStall s).keys = s.keys
      ∧ (printerStall s).display = s.display ∧ (printerStall s).bridge = s.bridge
      ∧ (printerStall s).air = s.air ∧ (printerStall s).relay = s.relay ∧ (printerStall s).lines = s.lines
      ∧ (printerStall s).pending = s.pending := by
  unfold printerStall; (try dsimp only); (repeat' split) <;> simp

@[simp] theorem printerStall_reads (s : State) :
    (∀ w q, (printerStall s).policyOf w q = s.policyOf w q) ∧ (∀ w, (printerStall s).mayAct w = s.mayAct w)
      ∧ (∀ w, (printerStall s).isFrozen w = s.isFrozen w) ∧ (∀ d, (printerStall s).channel d = s.channel d)
      ∧ (printerStall s).running = s.running ∧ (printerStall s).fastLocked = s.fastLocked := by
  have d := State.derived (s := printerStall s) (t := s)
  exact ⟨(d.2.2.1 (by simp)), (d.2.2.2.1 (by simp)).1, (d.2.2.2.1 (by simp)).2, (d.2.2.2.2.1 (by simp)), (d.2.2.2.2.2 (by simp)).1, (d.2.2.2.2.2 (by simp)).2⟩

@[simp] theorem printerStall_inbound (j : Link) (s : State) :
    ((printerStall s).port j).inbound = (s.port j).inbound := by
  unfold printerStall; (try dsimp only); (repeat' split) <;> simp

@[simp] theorem tryReceive_frame (x : Exchange) (s : State) :
    (tryReceive x s).clock = s.clock ∧ (tryReceive x s).ports = s.ports ∧ (tryReceive x s).policy = s.policy
      ∧ (tryReceive x s).tenants = s.tenants ∧ (tryReceive x s).custody = s.custody
      ∧ (tryReceive x s).keys = s.keys ∧ (tryReceive x s).display = s.display
      ∧ (tryReceive x s).printer = s.printer ∧ (tryReceive x s).air = s.air ∧ (tryReceive x s).relay = s.relay
      ∧ (tryReceive x s).lines = s.lines ∧ (tryReceive x s).pending = s.pending := by
  unfold tryReceive; (try dsimp only); (repeat' split) <;> simp

@[simp] theorem tryReceive_reads (x : Exchange) (s : State) :
    (∀ k, (tryReceive x s).port k = s.port k)
      ∧ (∀ k src, (tryReceive x s).inFlightFrom k src = s.inFlightFrom k src)
      ∧ (∀ q, (tryReceive x s).entry q = s.entry q) ∧ (∀ q, (tryReceive x s).holder q = s.holder q)
      ∧ (∀ w q, (tryReceive x s).holds w q = s.holds w q)
      ∧ (∀ w q, (tryReceive x s).policyOf w q = s.policyOf w q) ∧ (∀ w, (tryReceive x s).mayAct w = s.mayAct w)
      ∧ (∀ w, (tryReceive x s).isFrozen w = s.isFrozen w) ∧ (∀ d, (tryReceive x s).channel d = s.channel d)
      ∧ (tryReceive x s).running = s.running ∧ (tryReceive x s).fastLocked = s.fastLocked := by
  have d := State.derived (s := tryReceive x s) (t := s)
  exact ⟨(d.1 (by simp)).1, (d.1 (by simp)).2, (d.2.1 (by simp)).1, (d.2.1 (by simp)).2.1, (d.2.1 (by simp)).2.2, (d.2.2.1 (by simp)), (d.2.2.2.1 (by simp)).1, (d.2.2.2.1 (by simp)).2, (d.2.2.2.2.1 (by simp)), (d.2.2.2.2.2 (by simp)).1, (d.2.2.2.2.2 (by simp)).2⟩

@[simp] theorem writeComplete_frame (s : State) :
    (writeComplete s).clock = s.clock ∧ (writeComplete s).ports = s.ports ∧ (writeComplete s).policy = s.policy
      ∧ (writeComplete s).tenants = s.tenants ∧ (writeComplete s).custody = s.custody
      ∧ (writeComplete s).keys = s.keys ∧ (writeComplete s).display = s.display
      ∧ (writeComplete s).printer = s.printer ∧ (writeComplete s).air = s.air
      ∧ (writeComplete s).relay = s.relay ∧ (writeComplete s).lines = s.lines
      ∧ (writeComplete s).pending = s.pending := by
  unfold writeComplete; (try dsimp only); (repeat' split) <;> simp

@[simp] theorem writeComplete_reads (s : State) :
    (∀ k, (writeComplete s).port k = s.port k)
      ∧ (∀ k src, (writeComplete s).inFlightFrom k src = s.inFlightFrom k src)
      ∧ (∀ q, (writeComplete s).entry q = s.entry q) ∧ (∀ q, (writeComplete s).holder q = s.holder q)
      ∧ (∀ w q, (writeComplete s).holds w q = s.holds w q)
      ∧ (∀ w q, (writeComplete s).policyOf w q = s.policyOf w q)
      ∧ (∀ w, (writeComplete s).mayAct w = s.mayAct w) ∧ (∀ w, (writeComplete s).isFrozen w = s.isFrozen w)
      ∧ (∀ d, (writeComplete s).channel d = s.channel d) ∧ (writeComplete s).running = s.running
      ∧ (writeComplete s).fastLocked = s.fastLocked := by
  have d := State.derived (s := writeComplete s) (t := s)
  exact ⟨(d.1 (by simp)).1, (d.1 (by simp)).2, (d.2.1 (by simp)).1, (d.2.1 (by simp)).2.1, (d.2.1 (by simp)).2.2, (d.2.2.1 (by simp)), (d.2.2.2.1 (by simp)).1, (d.2.2.2.1 (by simp)).2, (d.2.2.2.2.1 (by simp)), (d.2.2.2.2.2 (by simp)).1, (d.2.2.2.2.2 (by simp)).2⟩

@[simp] theorem clrdyLevel_frame (level : Bool) (s : State) :
    (clrdyLevel level s).clock = s.clock ∧ (clrdyLevel level s).ports = s.ports
      ∧ (clrdyLevel level s).policy = s.policy ∧ (clrdyLevel level s).tenants = s.tenants
      ∧ (clrdyLevel level s).custody = s.custody ∧ (clrdyLevel level s).keys = s.keys
      ∧ (clrdyLevel level s).display = s.display ∧ (clrdyLevel level s).printer = s.printer
      ∧ (clrdyLevel level s).air = s.air ∧ (clrdyLevel level s).relay = s.relay
      ∧ (clrdyLevel level s).pending = s.pending := by
  unfold clrdyLevel; (try dsimp only); (repeat' split) <;> simp

@[simp] theorem clrdyLevel_reads (level : Bool) (s : State) :
    (∀ k, (clrdyLevel level s).port k = s.port k)
      ∧ (∀ k src, (clrdyLevel level s).inFlightFrom k src = s.inFlightFrom k src)
      ∧ (∀ q, (clrdyLevel level s).entry q = s.entry q) ∧ (∀ q, (clrdyLevel level s).holder q = s.holder q)
      ∧ (∀ w q, (clrdyLevel level s).holds w q = s.holds w q)
      ∧ (∀ w q, (clrdyLevel level s).policyOf w q = s.policyOf w q)
      ∧ (∀ w, (clrdyLevel level s).mayAct w = s.mayAct w)
      ∧ (∀ w, (clrdyLevel level s).isFrozen w = s.isFrozen w)
      ∧ (∀ d, (clrdyLevel level s).channel d = s.channel d) ∧ (clrdyLevel level s).running = s.running
      ∧ (clrdyLevel level s).fastLocked = s.fastLocked := by
  have d := State.derived (s := clrdyLevel level s) (t := s)
  exact ⟨(d.1 (by simp)).1, (d.1 (by simp)).2, (d.2.1 (by simp)).1, (d.2.1 (by simp)).2.1, (d.2.1 (by simp)).2.2, (d.2.2.1 (by simp)), (d.2.2.2.1 (by simp)).1, (d.2.2.2.1 (by simp)).2, (d.2.2.2.2.1 (by simp)), (d.2.2.2.2.2 (by simp)).1, (d.2.2.2.2.2 (by simp)).2⟩

@[simp] theorem exchangeTimeout_frame (s : State) :
    (exchangeTimeout s).clock = s.clock ∧ (exchangeTimeout s).ports = s.ports
      ∧ (exchangeTimeout s).policy = s.policy ∧ (exchangeTimeout s).tenants = s.tenants
      ∧ (exchangeTimeout s).custody = s.custody ∧ (exchangeTimeout s).keys = s.keys
      ∧ (exchangeTimeout s).display = s.display ∧ (exchangeTimeout s).printer = s.printer
      ∧ (exchangeTimeout s).air = s.air ∧ (exchangeTimeout s).relay = s.relay
      ∧ (exchangeTimeout s).lines = s.lines ∧ (exchangeTimeout s).pending = s.pending := by
  unfold exchangeTimeout; (try dsimp only); (repeat' split) <;> simp

@[simp] theorem exchangeTimeout_reads (s : State) :
    (∀ k, (exchangeTimeout s).port k = s.port k)
      ∧ (∀ k src, (exchangeTimeout s).inFlightFrom k src = s.inFlightFrom k src)
      ∧ (∀ q, (exchangeTimeout s).entry q = s.entry q) ∧ (∀ q, (exchangeTimeout s).holder q = s.holder q)
      ∧ (∀ w q, (exchangeTimeout s).holds w q = s.holds w q)
      ∧ (∀ w q, (exchangeTimeout s).policyOf w q = s.policyOf w q)
      ∧ (∀ w, (exchangeTimeout s).mayAct w = s.mayAct w) ∧ (∀ w, (exchangeTimeout s).isFrozen w = s.isFrozen w)
      ∧ (∀ d, (exchangeTimeout s).channel d = s.channel d) ∧ (exchangeTimeout s).running = s.running
      ∧ (exchangeTimeout s).fastLocked = s.fastLocked := by
  have d := State.derived (s := exchangeTimeout s) (t := s)
  exact ⟨(d.1 (by simp)).1, (d.1 (by simp)).2, (d.2.1 (by simp)).1, (d.2.1 (by simp)).2.1, (d.2.1 (by simp)).2.2, (d.2.2.1 (by simp)), (d.2.2.2.1 (by simp)).1, (d.2.2.2.1 (by simp)).2, (d.2.2.2.2.1 (by simp)), (d.2.2.2.2.2 (by simp)).1, (d.2.2.2.2.2 (by simp)).2⟩

@[simp] theorem endExchange_frame (x : Exchange) (outcome : ExchangeOutcome) (available : Byte) (response : List Byte) (s : State) :
    (endExchange x outcome available response s).clock = s.clock
      ∧ (endExchange x outcome available response s).ports = s.ports
      ∧ (endExchange x outcome available response s).policy = s.policy
      ∧ (endExchange x outcome available response s).tenants = s.tenants
      ∧ (endExchange x outcome available response s).custody = s.custody
      ∧ (endExchange x outcome available response s).keys = s.keys
      ∧ (endExchange x outcome available response s).display = s.display
      ∧ (endExchange x outcome available response s).printer = s.printer
      ∧ (endExchange x outcome available response s).relay = s.relay
      ∧ (endExchange x outcome available response s).lines = s.lines
      ∧ (endExchange x outcome available response s).pending = s.pending := by
  unfold endExchange; (try dsimp only); (repeat' split) <;> simp

@[simp] theorem endExchange_reads (x : Exchange) (outcome : ExchangeOutcome) (available : Byte) (response : List Byte) (s : State) :
    (∀ k, (endExchange x outcome available response s).port k = s.port k)
      ∧ (∀ k src, (endExchange x outcome available response s).inFlightFrom k src = s.inFlightFrom k src)
      ∧ (∀ q, (endExchange x outcome available response s).entry q = s.entry q)
      ∧ (∀ q, (endExchange x outcome available response s).holder q = s.holder q)
      ∧ (∀ w q, (endExchange x outcome available response s).holds w q = s.holds w q)
      ∧ (∀ w q, (endExchange x outcome available response s).policyOf w q = s.policyOf w q)
      ∧ (∀ w, (endExchange x outcome available response s).mayAct w = s.mayAct w)
      ∧ (∀ w, (endExchange x outcome available response s).isFrozen w = s.isFrozen w)
      ∧ (∀ d, (endExchange x outcome available response s).channel d = s.channel d)
      ∧ (endExchange x outcome available response s).running = s.running
      ∧ (endExchange x outcome available response s).fastLocked = s.fastLocked := by
  have d := State.derived (s := endExchange x outcome available response s) (t := s)
  exact ⟨(d.1 (by simp)).1, (d.1 (by simp)).2, (d.2.1 (by simp)).1, (d.2.1 (by simp)).2.1, (d.2.1 (by simp)).2.2, (d.2.2.1 (by simp)), (d.2.2.2.1 (by simp)).1, (d.2.2.2.1 (by simp)).2, (d.2.2.2.2.1 (by simp)), (d.2.2.2.2.2 (by simp)).1, (d.2.2.2.2.2 (by simp)).2⟩

@[simp] theorem abortComplete_frame (s : State) :
    (abortComplete s).clock = s.clock ∧ (abortComplete s).ports = s.ports ∧ (abortComplete s).policy = s.policy
      ∧ (abortComplete s).tenants = s.tenants ∧ (abortComplete s).custody = s.custody
      ∧ (abortComplete s).keys = s.keys ∧ (abortComplete s).display = s.display
      ∧ (abortComplete s).printer = s.printer ∧ (abortComplete s).relay = s.relay
      ∧ (abortComplete s).lines = s.lines ∧ (abortComplete s).pending = s.pending := by
  unfold abortComplete; (try dsimp only); (repeat' split) <;> simp

@[simp] theorem abortComplete_reads (s : State) :
    (∀ k, (abortComplete s).port k = s.port k)
      ∧ (∀ k src, (abortComplete s).inFlightFrom k src = s.inFlightFrom k src)
      ∧ (∀ q, (abortComplete s).entry q = s.entry q) ∧ (∀ q, (abortComplete s).holder q = s.holder q)
      ∧ (∀ w q, (abortComplete s).holds w q = s.holds w q)
      ∧ (∀ w q, (abortComplete s).policyOf w q = s.policyOf w q)
      ∧ (∀ w, (abortComplete s).mayAct w = s.mayAct w) ∧ (∀ w, (abortComplete s).isFrozen w = s.isFrozen w)
      ∧ (∀ d, (abortComplete s).channel d = s.channel d) ∧ (abortComplete s).running = s.running
      ∧ (abortComplete s).fastLocked = s.fastLocked := by
  have d := State.derived (s := abortComplete s) (t := s)
  exact ⟨(d.1 (by simp)).1, (d.1 (by simp)).2, (d.2.1 (by simp)).1, (d.2.1 (by simp)).2.1, (d.2.1 (by simp)).2.2, (d.2.2.1 (by simp)), (d.2.2.2.1 (by simp)).1, (d.2.2.2.1 (by simp)).2, (d.2.2.2.2.1 (by simp)), (d.2.2.2.2.2 (by simp)).1, (d.2.2.2.2.2 (by simp)).2⟩

@[simp] theorem readComplete_frame (available : Byte) (response : List Byte) (s : State) :
    (readComplete available response s).clock = s.clock ∧ (readComplete available response s).ports = s.ports
      ∧ (readComplete available response s).policy = s.policy
      ∧ (readComplete available response s).tenants = s.tenants
      ∧ (readComplete available response s).custody = s.custody
      ∧ (readComplete available response s).keys = s.keys
      ∧ (readComplete available response s).display = s.display
      ∧ (readComplete available response s).printer = s.printer
      ∧ (readComplete available response s).relay = s.relay
      ∧ (readComplete available response s).lines = s.lines
      ∧ (readComplete available response s).pending = s.pending := by
  unfold readComplete; (try dsimp only); (repeat' split) <;> simp

@[simp] theorem readComplete_reads (available : Byte) (response : List Byte) (s : State) :
    (∀ k, (readComplete available response s).port k = s.port k)
      ∧ (∀ k src, (readComplete available response s).inFlightFrom k src = s.inFlightFrom k src)
      ∧ (∀ q, (readComplete available response s).entry q = s.entry q)
      ∧ (∀ q, (readComplete available response s).holder q = s.holder q)
      ∧ (∀ w q, (readComplete available response s).holds w q = s.holds w q)
      ∧ (∀ w q, (readComplete available response s).policyOf w q = s.policyOf w q)
      ∧ (∀ w, (readComplete available response s).mayAct w = s.mayAct w)
      ∧ (∀ w, (readComplete available response s).isFrozen w = s.isFrozen w)
      ∧ (∀ d, (readComplete available response s).channel d = s.channel d)
      ∧ (readComplete available response s).running = s.running
      ∧ (readComplete available response s).fastLocked = s.fastLocked := by
  have d := State.derived (s := readComplete available response s) (t := s)
  exact ⟨(d.1 (by simp)).1, (d.1 (by simp)).2, (d.2.1 (by simp)).1, (d.2.1 (by simp)).2.1, (d.2.1 (by simp)).2.2, (d.2.2.1 (by simp)), (d.2.2.2.1 (by simp)).1, (d.2.2.2.1 (by simp)).2, (d.2.2.2.2.1 (by simp)), (d.2.2.2.2.2 (by simp)).1, (d.2.2.2.2.2 (by simp)).2⟩

@[simp] theorem fieldResetExpiry_frame (s : State) :
    (fieldResetExpiry s).clock = s.clock ∧ (fieldResetExpiry s).policy = s.policy
      ∧ (fieldResetExpiry s).tenants = s.tenants ∧ (fieldResetExpiry s).keys = s.keys
      ∧ (fieldResetExpiry s).display = s.display ∧ (fieldResetExpiry s).printer = s.printer
      ∧ (fieldResetExpiry s).air = s.air ∧ (fieldResetExpiry s).relay = s.relay
      ∧ (fieldResetExpiry s).lines = s.lines ∧ (fieldResetExpiry s).pending = s.pending := by
  unfold fieldResetExpiry; (try dsimp only); (repeat' split) <;> simp

@[simp] theorem fieldResetExpiry_reads (s : State) :
    (∀ w q, (fieldResetExpiry s).policyOf w q = s.policyOf w q)
      ∧ (∀ w, (fieldResetExpiry s).mayAct w = s.mayAct w)
      ∧ (∀ w, (fieldResetExpiry s).isFrozen w = s.isFrozen w)
      ∧ (∀ d, (fieldResetExpiry s).channel d = s.channel d) ∧ (fieldResetExpiry s).running = s.running
      ∧ (fieldResetExpiry s).fastLocked = s.fastLocked := by
  have d := State.derived (s := fieldResetExpiry s) (t := s)
  exact ⟨(d.2.2.1 (by simp)), (d.2.2.2.1 (by simp)).1, (d.2.2.2.1 (by simp)).2, (d.2.2.2.2.1 (by simp)), (d.2.2.2.2.2 (by simp)).1, (d.2.2.2.2.2 (by simp)).2⟩

@[simp] theorem fieldResetExpiry_inbound (j : Link) (s : State) :
    ((fieldResetExpiry s).port j).inbound = (s.port j).inbound := by
  unfold fieldResetExpiry; (try dsimp only); (repeat' split) <;> simp

@[simp] theorem clfevEdge_frame (level : Bool) (s : State) :
    (clfevEdge level s).policy = s.policy ∧ (clfevEdge level s).tenants = s.tenants
      ∧ (clfevEdge level s).custody = s.custody ∧ (clfevEdge level s).keys = s.keys
      ∧ (clfevEdge level s).display = s.display ∧ (clfevEdge level s).printer = s.printer
      ∧ (clfevEdge level s).bridge = s.bridge ∧ (clfevEdge level s).air = s.air
      ∧ (clfevEdge level s).relay = s.relay ∧ (clfevEdge level s).pending = s.pending := by
  unfold clfevEdge; (try dsimp only); (repeat' split) <;> simp

@[simp] theorem clfevEdge_reads (level : Bool) (s : State) :
    (∀ q, (clfevEdge level s).entry q = s.entry q) ∧ (∀ q, (clfevEdge level s).holder q = s.holder q)
      ∧ (∀ w q, (clfevEdge level s).holds w q = s.holds w q)
      ∧ (∀ w q, (clfevEdge level s).policyOf w q = s.policyOf w q)
      ∧ (∀ w, (clfevEdge level s).mayAct w = s.mayAct w) ∧ (∀ w, (clfevEdge level s).isFrozen w = s.isFrozen w)
      ∧ (∀ d, (clfevEdge level s).channel d = s.channel d) := by
  have d := State.derived (s := clfevEdge level s) (t := s)
  exact ⟨(d.2.1 (by simp)).1, (d.2.1 (by simp)).2.1, (d.2.1 (by simp)).2.2, (d.2.2.1 (by simp)), (d.2.2.2.1 (by simp)).1, (d.2.2.2.1 (by simp)).2, (d.2.2.2.2.1 (by simp))⟩

@[simp] theorem clfevEdge_inbound (level : Bool) (j : Link) (s : State) :
    ((clfevEdge level s).port j).inbound = (s.port j).inbound := by
  unfold clfevEdge; (try dsimp only); (repeat' split) <;> simp

@[simp] theorem slotBoundary_frame (s : State) :
    (slotBoundary s).clock = s.clock ∧ (slotBoundary s).policy = s.policy
      ∧ (slotBoundary s).tenants = s.tenants ∧ (slotBoundary s).custody = s.custody
      ∧ (slotBoundary s).keys = s.keys ∧ (slotBoundary s).display = s.display
      ∧ (slotBoundary s).printer = s.printer ∧ (slotBoundary s).relay = s.relay
      ∧ (slotBoundary s).lines = s.lines ∧ (slotBoundary s).pending = s.pending := by
  unfold slotBoundary; (try dsimp only); (repeat' split) <;> simp

@[simp] theorem slotBoundary_reads (s : State) :
    (∀ q, (slotBoundary s).entry q = s.entry q) ∧ (∀ q, (slotBoundary s).holder q = s.holder q)
      ∧ (∀ w q, (slotBoundary s).holds w q = s.holds w q)
      ∧ (∀ w q, (slotBoundary s).policyOf w q = s.policyOf w q) ∧ (∀ w, (slotBoundary s).mayAct w = s.mayAct w)
      ∧ (∀ w, (slotBoundary s).isFrozen w = s.isFrozen w) ∧ (∀ d, (slotBoundary s).channel d = s.channel d)
      ∧ (slotBoundary s).running = s.running ∧ (slotBoundary s).fastLocked = s.fastLocked := by
  have d := State.derived (s := slotBoundary s) (t := s)
  exact ⟨(d.2.1 (by simp)).1, (d.2.1 (by simp)).2.1, (d.2.1 (by simp)).2.2, (d.2.2.1 (by simp)), (d.2.2.2.1 (by simp)).1, (d.2.2.2.1 (by simp)).2, (d.2.2.2.2.1 (by simp)), (d.2.2.2.2.2 (by simp)).1, (d.2.2.2.2.2 (by simp)).2⟩

@[simp] theorem slotBoundary_inbound (j : Link) (s : State) :
    ((slotBoundary s).port j).inbound = (s.port j).inbound := by
  unfold slotBoundary; (try dsimp only); (repeat' split) <;> simp

@[simp] theorem txRequestRise_frame (f : RadioFn) (s : State) :
    (txRequestRise f s).clock = s.clock ∧ (txRequestRise f s).ports = s.ports
      ∧ (txRequestRise f s).policy = s.policy ∧ (txRequestRise f s).tenants = s.tenants
      ∧ (txRequestRise f s).custody = s.custody ∧ (txRequestRise f s).keys = s.keys
      ∧ (txRequestRise f s).display = s.display ∧ (txRequestRise f s).printer = s.printer
      ∧ (txRequestRise f s).bridge = s.bridge ∧ (txRequestRise f s).relay = s.relay
      ∧ (txRequestRise f s).lines = s.lines ∧ (txRequestRise f s).pending = s.pending := by
  unfold txRequestRise; (try dsimp only); (repeat' split) <;> simp [State.setRadio]

@[simp] theorem txRequestRise_reads (f : RadioFn) (s : State) :
    (∀ k, (txRequestRise f s).port k = s.port k)
      ∧ (∀ k src, (txRequestRise f s).inFlightFrom k src = s.inFlightFrom k src)
      ∧ (∀ q, (txRequestRise f s).entry q = s.entry q) ∧ (∀ q, (txRequestRise f s).holder q = s.holder q)
      ∧ (∀ w q, (txRequestRise f s).holds w q = s.holds w q)
      ∧ (∀ w q, (txRequestRise f s).policyOf w q = s.policyOf w q)
      ∧ (∀ w, (txRequestRise f s).mayAct w = s.mayAct w) ∧ (∀ w, (txRequestRise f s).isFrozen w = s.isFrozen w)
      ∧ (∀ d, (txRequestRise f s).channel d = s.channel d) ∧ (txRequestRise f s).running = s.running
      ∧ (txRequestRise f s).fastLocked = s.fastLocked := by
  have d := State.derived (s := txRequestRise f s) (t := s)
  exact ⟨(d.1 (by simp)).1, (d.1 (by simp)).2, (d.2.1 (by simp)).1, (d.2.1 (by simp)).2.1, (d.2.1 (by simp)).2.2, (d.2.2.1 (by simp)), (d.2.2.2.1 (by simp)).1, (d.2.2.2.1 (by simp)).2, (d.2.2.2.2.1 (by simp)), (d.2.2.2.2.2 (by simp)).1, (d.2.2.2.2.2 (by simp)).2⟩

@[simp] theorem txRequestFall_frame (f : RadioFn) (s : State) :
    (txRequestFall f s).clock = s.clock ∧ (txRequestFall f s).ports = s.ports
      ∧ (txRequestFall f s).policy = s.policy ∧ (txRequestFall f s).tenants = s.tenants
      ∧ (txRequestFall f s).custody = s.custody ∧ (txRequestFall f s).keys = s.keys
      ∧ (txRequestFall f s).display = s.display ∧ (txRequestFall f s).printer = s.printer
      ∧ (txRequestFall f s).relay = s.relay ∧ (txRequestFall f s).lines = s.lines
      ∧ (txRequestFall f s).pending = s.pending := by
  unfold txRequestFall; (try dsimp only); (repeat' split) <;> simp [State.setRadio]

@[simp] theorem txRequestFall_reads (f : RadioFn) (s : State) :
    (∀ k, (txRequestFall f s).port k = s.port k)
      ∧ (∀ k src, (txRequestFall f s).inFlightFrom k src = s.inFlightFrom k src)
      ∧ (∀ q, (txRequestFall f s).entry q = s.entry q) ∧ (∀ q, (txRequestFall f s).holder q = s.holder q)
      ∧ (∀ w q, (txRequestFall f s).holds w q = s.holds w q)
      ∧ (∀ w q, (txRequestFall f s).policyOf w q = s.policyOf w q)
      ∧ (∀ w, (txRequestFall f s).mayAct w = s.mayAct w) ∧ (∀ w, (txRequestFall f s).isFrozen w = s.isFrozen w)
      ∧ (∀ d, (txRequestFall f s).channel d = s.channel d) ∧ (txRequestFall f s).running = s.running
      ∧ (txRequestFall f s).fastLocked = s.fastLocked := by
  have d := State.derived (s := txRequestFall f s) (t := s)
  exact ⟨(d.1 (by simp)).1, (d.1 (by simp)).2, (d.2.1 (by simp)).1, (d.2.1 (by simp)).2.1, (d.2.1 (by simp)).2.2, (d.2.2.1 (by simp)), (d.2.2.2.1 (by simp)).1, (d.2.2.2.1 (by simp)).2, (d.2.2.2.2.1 (by simp)), (d.2.2.2.2.2 (by simp)).1, (d.2.2.2.2.2 (by simp)).2⟩

@[simp] theorem lowerRadioGrants_frame (s : State) :
    (lowerRadioGrants s).clock = s.clock ∧ (lowerRadioGrants s).ports = s.ports
      ∧ (lowerRadioGrants s).policy = s.policy ∧ (lowerRadioGrants s).tenants = s.tenants
      ∧ (lowerRadioGrants s).custody = s.custody ∧ (lowerRadioGrants s).keys = s.keys
      ∧ (lowerRadioGrants s).display = s.display ∧ (lowerRadioGrants s).printer = s.printer
      ∧ (lowerRadioGrants s).relay = s.relay ∧ (lowerRadioGrants s).lines = s.lines
      ∧ (lowerRadioGrants s).pending = s.pending := by
  unfold lowerRadioGrants; (try dsimp only); (repeat' split) <;> simp

@[simp] theorem lowerRadioGrants_reads (s : State) :
    (∀ k, (lowerRadioGrants s).port k = s.port k)
      ∧ (∀ k src, (lowerRadioGrants s).inFlightFrom k src = s.inFlightFrom k src)
      ∧ (∀ q, (lowerRadioGrants s).entry q = s.entry q) ∧ (∀ q, (lowerRadioGrants s).holder q = s.holder q)
      ∧ (∀ w q, (lowerRadioGrants s).holds w q = s.holds w q)
      ∧ (∀ w q, (lowerRadioGrants s).policyOf w q = s.policyOf w q)
      ∧ (∀ w, (lowerRadioGrants s).mayAct w = s.mayAct w)
      ∧ (∀ w, (lowerRadioGrants s).isFrozen w = s.isFrozen w)
      ∧ (∀ d, (lowerRadioGrants s).channel d = s.channel d) ∧ (lowerRadioGrants s).running = s.running
      ∧ (lowerRadioGrants s).fastLocked = s.fastLocked := by
  have d := State.derived (s := lowerRadioGrants s) (t := s)
  exact ⟨(d.1 (by simp)).1, (d.1 (by simp)).2, (d.2.1 (by simp)).1, (d.2.1 (by simp)).2.1, (d.2.1 (by simp)).2.2, (d.2.2.1 (by simp)), (d.2.2.2.1 (by simp)).1, (d.2.2.2.1 (by simp)).2, (d.2.2.2.2.1 (by simp)), (d.2.2.2.2.2 (by simp)).1, (d.2.2.2.2.2 (by simp)).2⟩

@[simp] theorem setBinding_frame (c : Fin 32) (b : Option Binding) (s : State) :
    (s.setBinding c b).clock = s.clock ∧ (s.setBinding c b).ports = s.ports
      ∧ (s.setBinding c b).policy = s.policy ∧ (s.setBinding c b).tenants = s.tenants
      ∧ (s.setBinding c b).custody = s.custody ∧ (s.setBinding c b).keys = s.keys
      ∧ (s.setBinding c b).display = s.display ∧ (s.setBinding c b).printer = s.printer
      ∧ (s.setBinding c b).bridge = s.bridge ∧ (s.setBinding c b).air = s.air
      ∧ (s.setBinding c b).lines = s.lines ∧ (s.setBinding c b).pending = s.pending := by
  simp [State.setBinding]

@[simp] theorem setBinding_reads (c : Fin 32) (b : Option Binding) (s : State) :
    (∀ k, (s.setBinding c b).port k = s.port k)
      ∧ (∀ k src, (s.setBinding c b).inFlightFrom k src = s.inFlightFrom k src)
      ∧ (∀ q, (s.setBinding c b).entry q = s.entry q) ∧ (∀ q, (s.setBinding c b).holder q = s.holder q)
      ∧ (∀ w q, (s.setBinding c b).holds w q = s.holds w q)
      ∧ (∀ w q, (s.setBinding c b).policyOf w q = s.policyOf w q)
      ∧ (∀ w, (s.setBinding c b).mayAct w = s.mayAct w) ∧ (∀ w, (s.setBinding c b).isFrozen w = s.isFrozen w)
      ∧ (s.setBinding c b).running = s.running ∧ (s.setBinding c b).fastLocked = s.fastLocked := by
  have d := State.derived (s := s.setBinding c b) (t := s)
  exact ⟨(d.1 (by simp)).1, (d.1 (by simp)).2, (d.2.1 (by simp)).1, (d.2.1 (by simp)).2.1, (d.2.1 (by simp)).2.2, (d.2.2.1 (by simp)), (d.2.2.2.1 (by simp)).1, (d.2.2.2.1 (by simp)).2, (d.2.2.2.2.2 (by simp)).1, (d.2.2.2.2.2 (by simp)).2⟩

@[simp] theorem unbindChannel_frame (c : Fin 32) (s : State) :
    (unbindChannel c s).clock = s.clock ∧ (unbindChannel c s).policy = s.policy
      ∧ (unbindChannel c s).tenants = s.tenants ∧ (unbindChannel c s).custody = s.custody
      ∧ (unbindChannel c s).keys = s.keys ∧ (unbindChannel c s).display = s.display
      ∧ (unbindChannel c s).printer = s.printer ∧ (unbindChannel c s).bridge = s.bridge
      ∧ (unbindChannel c s).air = s.air ∧ (unbindChannel c s).lines = s.lines
      ∧ (unbindChannel c s).pending = s.pending := by
  unfold unbindChannel; (try dsimp only); (repeat' split) <;> simp

@[simp] theorem unbindChannel_reads (c : Fin 32) (s : State) :
    (∀ q, (unbindChannel c s).entry q = s.entry q) ∧ (∀ q, (unbindChannel c s).holder q = s.holder q)
      ∧ (∀ w q, (unbindChannel c s).holds w q = s.holds w q)
      ∧ (∀ w q, (unbindChannel c s).policyOf w q = s.policyOf w q)
      ∧ (∀ w, (unbindChannel c s).mayAct w = s.mayAct w) ∧ (∀ w, (unbindChannel c s).isFrozen w = s.isFrozen w)
      ∧ (unbindChannel c s).running = s.running ∧ (unbindChannel c s).fastLocked = s.fastLocked := by
  have d := State.derived (s := unbindChannel c s) (t := s)
  exact ⟨(d.2.1 (by simp)).1, (d.2.1 (by simp)).2.1, (d.2.1 (by simp)).2.2, (d.2.2.1 (by simp)), (d.2.2.2.1 (by simp)).1, (d.2.2.2.1 (by simp)).2, (d.2.2.2.2.2 (by simp)).1, (d.2.2.2.2.2 (by simp)).2⟩

@[simp] theorem unbindChannel_inbound (c : Fin 32) (j : Link) (s : State) :
    ((unbindChannel c s).port j).inbound = (s.port j).inbound := by
  unfold unbindChannel; (try dsimp only); (repeat' split) <;> simp

@[simp] theorem notifyClosedRad_frame (c : Fin 32) (why : CloseReason) (s : State) :
    (notifyClosedRad c why s).clock = s.clock ∧ (notifyClosedRad c why s).policy = s.policy
      ∧ (notifyClosedRad c why s).tenants = s.tenants ∧ (notifyClosedRad c why s).custody = s.custody
      ∧ (notifyClosedRad c why s).keys = s.keys ∧ (notifyClosedRad c why s).display = s.display
      ∧ (notifyClosedRad c why s).printer = s.printer ∧ (notifyClosedRad c why s).bridge = s.bridge
      ∧ (notifyClosedRad c why s).air = s.air ∧ (notifyClosedRad c why s).relay = s.relay
      ∧ (notifyClosedRad c why s).lines = s.lines ∧ (notifyClosedRad c why s).pending = s.pending := by
  unfold notifyClosedRad; (try dsimp only); (repeat' split) <;> simp

@[simp] theorem notifyClosedRad_reads (c : Fin 32) (why : CloseReason) (s : State) :
    (∀ q, (notifyClosedRad c why s).entry q = s.entry q)
      ∧ (∀ q, (notifyClosedRad c why s).holder q = s.holder q)
      ∧ (∀ w q, (notifyClosedRad c why s).holds w q = s.holds w q)
      ∧ (∀ w q, (notifyClosedRad c why s).policyOf w q = s.policyOf w q)
      ∧ (∀ w, (notifyClosedRad c why s).mayAct w = s.mayAct w)
      ∧ (∀ w, (notifyClosedRad c why s).isFrozen w = s.isFrozen w)
      ∧ (∀ d, (notifyClosedRad c why s).channel d = s.channel d)
      ∧ (notifyClosedRad c why s).running = s.running ∧ (notifyClosedRad c why s).fastLocked = s.fastLocked := by
  have d := State.derived (s := notifyClosedRad c why s) (t := s)
  exact ⟨(d.2.1 (by simp)).1, (d.2.1 (by simp)).2.1, (d.2.1 (by simp)).2.2, (d.2.2.1 (by simp)), (d.2.2.2.1 (by simp)).1, (d.2.2.2.1 (by simp)).2, (d.2.2.2.2.1 (by simp)), (d.2.2.2.2.2 (by simp)).1, (d.2.2.2.2.2 (by simp)).2⟩

@[simp] theorem notifyClosedRad_inbound (c : Fin 32) (why : CloseReason) (j : Link) (s : State) :
    ((notifyClosedRad c why s).port j).inbound = (s.port j).inbound := by
  unfold notifyClosedRad; (try dsimp only); (repeat' split) <;> simp

@[simp] theorem notifyClosedOwner_frame (owner : Subject) (c : Fin 32) (why : CloseReason) (s : State) :
    (notifyClosedOwner owner c why s).clock = s.clock ∧ (notifyClosedOwner owner c why s).policy = s.policy
      ∧ (notifyClosedOwner owner c why s).tenants = s.tenants
      ∧ (notifyClosedOwner owner c why s).custody = s.custody ∧ (notifyClosedOwner owner c why s).keys = s.keys
      ∧ (notifyClosedOwner owner c why s).display = s.display
      ∧ (notifyClosedOwner owner c why s).printer = s.printer
      ∧ (notifyClosedOwner owner c why s).bridge = s.bridge ∧ (notifyClosedOwner owner c why s).air = s.air
      ∧ (notifyClosedOwner owner c why s).relay = s.relay ∧ (notifyClosedOwner owner c why s).lines = s.lines
      ∧ (notifyClosedOwner owner c why s).pending = s.pending := by
  unfold notifyClosedOwner; (try dsimp only); (repeat' split) <;> simp

@[simp] theorem notifyClosedOwner_reads (owner : Subject) (c : Fin 32) (why : CloseReason) (s : State) :
    (∀ q, (notifyClosedOwner owner c why s).entry q = s.entry q)
      ∧ (∀ q, (notifyClosedOwner owner c why s).holder q = s.holder q)
      ∧ (∀ w q, (notifyClosedOwner owner c why s).holds w q = s.holds w q)
      ∧ (∀ w q, (notifyClosedOwner owner c why s).policyOf w q = s.policyOf w q)
      ∧ (∀ w, (notifyClosedOwner owner c why s).mayAct w = s.mayAct w)
      ∧ (∀ w, (notifyClosedOwner owner c why s).isFrozen w = s.isFrozen w)
      ∧ (∀ d, (notifyClosedOwner owner c why s).channel d = s.channel d)
      ∧ (notifyClosedOwner owner c why s).running = s.running
      ∧ (notifyClosedOwner owner c why s).fastLocked = s.fastLocked := by
  have d := State.derived (s := notifyClosedOwner owner c why s) (t := s)
  exact ⟨(d.2.1 (by simp)).1, (d.2.1 (by simp)).2.1, (d.2.1 (by simp)).2.2, (d.2.2.1 (by simp)), (d.2.2.2.1 (by simp)).1, (d.2.2.2.1 (by simp)).2, (d.2.2.2.2.1 (by simp)), (d.2.2.2.2.2 (by simp)).1, (d.2.2.2.2.2 (by simp)).2⟩

@[simp] theorem notifyClosedOwner_inbound (owner : Subject) (c : Fin 32) (why : CloseReason) (j : Link) (s : State) :
    ((notifyClosedOwner owner c why s).port j).inbound = (s.port j).inbound := by
  unfold notifyClosedOwner; (try dsimp only); (repeat' split) <;> simp

@[simp] theorem retireChannel_frame (t : Fin 16) (c : Fin 32) (s : State) :
    (retireChannel t s c).clock = s.clock ∧ (retireChannel t s c).policy = s.policy
      ∧ (retireChannel t s c).tenants = s.tenants ∧ (retireChannel t s c).custody = s.custody
      ∧ (retireChannel t s c).keys = s.keys ∧ (retireChannel t s c).display = s.display
      ∧ (retireChannel t s c).printer = s.printer ∧ (retireChannel t s c).bridge = s.bridge
      ∧ (retireChannel t s c).air = s.air ∧ (retireChannel t s c).lines = s.lines
      ∧ (retireChannel t s c).pending = s.pending := by
  unfold retireChannel; (repeat' split) <;> simp

@[simp] theorem retireChannel_reads (t : Fin 16) (c : Fin 32) (s : State) :
    (∀ q, (retireChannel t s c).entry q = s.entry q) ∧ (∀ q, (retireChannel t s c).holder q = s.holder q)
      ∧ (∀ w q, (retireChannel t s c).holds w q = s.holds w q)
      ∧ (∀ w q, (retireChannel t s c).policyOf w q = s.policyOf w q)
      ∧ (∀ w, (retireChannel t s c).mayAct w = s.mayAct w)
      ∧ (∀ w, (retireChannel t s c).isFrozen w = s.isFrozen w) ∧ (retireChannel t s c).running = s.running
      ∧ (retireChannel t s c).fastLocked = s.fastLocked := by
  have d := State.derived (s := retireChannel t s c) (t := s)
  exact ⟨(d.2.1 (by simp)).1, (d.2.1 (by simp)).2.1, (d.2.1 (by simp)).2.2, (d.2.2.1 (by simp)), (d.2.2.2.1 (by simp)).1, (d.2.2.2.1 (by simp)).2, (d.2.2.2.2.2 (by simp)).1, (d.2.2.2.2.2 (by simp)).2⟩

@[simp] theorem retireChannel_inbound (t : Fin 16) (c : Fin 32) (j : Link) (s : State) :
    ((retireChannel t s c).port j).inbound = (s.port j).inbound := by
  unfold retireChannel; (repeat' split) <;> simp

@[simp] theorem restartChannel_frame (l : Link) (c : Fin 32) (s : State) :
    (restartChannel l s c).clock = s.clock ∧ (restartChannel l s c).policy = s.policy
      ∧ (restartChannel l s c).tenants = s.tenants ∧ (restartChannel l s c).custody = s.custody
      ∧ (restartChannel l s c).keys = s.keys ∧ (restartChannel l s c).display = s.display
      ∧ (restartChannel l s c).printer = s.printer ∧ (restartChannel l s c).bridge = s.bridge
      ∧ (restartChannel l s c).air = s.air ∧ (restartChannel l s c).lines = s.lines
      ∧ (restartChannel l s c).pending = s.pending := by
  unfold restartChannel; (repeat' split) <;> simp

@[simp] theorem restartChannel_reads (l : Link) (c : Fin 32) (s : State) :
    (∀ q, (restartChannel l s c).entry q = s.entry q) ∧ (∀ q, (restartChannel l s c).holder q = s.holder q)
      ∧ (∀ w q, (restartChannel l s c).holds w q = s.holds w q)
      ∧ (∀ w q, (restartChannel l s c).policyOf w q = s.policyOf w q)
      ∧ (∀ w, (restartChannel l s c).mayAct w = s.mayAct w)
      ∧ (∀ w, (restartChannel l s c).isFrozen w = s.isFrozen w) ∧ (restartChannel l s c).running = s.running
      ∧ (restartChannel l s c).fastLocked = s.fastLocked := by
  have d := State.derived (s := restartChannel l s c) (t := s)
  exact ⟨(d.2.1 (by simp)).1, (d.2.1 (by simp)).2.1, (d.2.1 (by simp)).2.2, (d.2.2.1 (by simp)), (d.2.2.2.1 (by simp)).1, (d.2.2.2.1 (by simp)).2, (d.2.2.2.2.2 (by simp)).1, (d.2.2.2.2.2 (by simp)).2⟩

@[simp] theorem restartChannel_inbound (l : Link) (c : Fin 32) (j : Link) (s : State) :
    ((restartChannel l s c).port j).inbound = (s.port j).inbound := by
  unfold restartChannel; (repeat' split) <;> simp

@[simp] theorem resetChannel_frame (before : State) (c : Fin 32) (s : State) :
    (resetChannel before s c).clock = s.clock ∧ (resetChannel before s c).policy = s.policy
      ∧ (resetChannel before s c).tenants = s.tenants ∧ (resetChannel before s c).custody = s.custody
      ∧ (resetChannel before s c).keys = s.keys ∧ (resetChannel before s c).display = s.display
      ∧ (resetChannel before s c).printer = s.printer ∧ (resetChannel before s c).bridge = s.bridge
      ∧ (resetChannel before s c).air = s.air ∧ (resetChannel before s c).lines = s.lines
      ∧ (resetChannel before s c).pending = s.pending := by
  unfold resetChannel; (repeat' split) <;> simp

@[simp] theorem resetChannel_reads (before : State) (c : Fin 32) (s : State) :
    (∀ q, (resetChannel before s c).entry q = s.entry q)
      ∧ (∀ q, (resetChannel before s c).holder q = s.holder q)
      ∧ (∀ w q, (resetChannel before s c).holds w q = s.holds w q)
      ∧ (∀ w q, (resetChannel before s c).policyOf w q = s.policyOf w q)
      ∧ (∀ w, (resetChannel before s c).mayAct w = s.mayAct w)
      ∧ (∀ w, (resetChannel before s c).isFrozen w = s.isFrozen w)
      ∧ (resetChannel before s c).running = s.running ∧ (resetChannel before s c).fastLocked = s.fastLocked := by
  have d := State.derived (s := resetChannel before s c) (t := s)
  exact ⟨(d.2.1 (by simp)).1, (d.2.1 (by simp)).2.1, (d.2.1 (by simp)).2.2, (d.2.2.1 (by simp)), (d.2.2.2.1 (by simp)).1, (d.2.2.2.1 (by simp)).2, (d.2.2.2.2.2 (by simp)).1, (d.2.2.2.2.2 (by simp)).2⟩

@[simp] theorem resetChannel_inbound (before : State) (c : Fin 32) (j : Link) (s : State) :
    ((resetChannel before s c).port j).inbound = (s.port j).inbound := by
  unfold resetChannel; (repeat' split) <;> simp

@[simp] theorem recordServed_frame (l : Link) (level : Fin 4) (c : Fin 32) (s : State) :
    (s.recordServed l level c).clock = s.clock ∧ (s.recordServed l level c).ports = s.ports
      ∧ (s.recordServed l level c).policy = s.policy ∧ (s.recordServed l level c).tenants = s.tenants
      ∧ (s.recordServed l level c).custody = s.custody ∧ (s.recordServed l level c).keys = s.keys
      ∧ (s.recordServed l level c).display = s.display ∧ (s.recordServed l level c).printer = s.printer
      ∧ (s.recordServed l level c).bridge = s.bridge ∧ (s.recordServed l level c).air = s.air
      ∧ (s.recordServed l level c).lines = s.lines ∧ (s.recordServed l level c).pending = s.pending := by
  simp [State.recordServed]

@[simp] theorem recordServed_reads (l : Link) (level : Fin 4) (c : Fin 32) (s : State) :
    (∀ k, (s.recordServed l level c).port k = s.port k)
      ∧ (∀ k src, (s.recordServed l level c).inFlightFrom k src = s.inFlightFrom k src)
      ∧ (∀ q, (s.recordServed l level c).entry q = s.entry q)
      ∧ (∀ q, (s.recordServed l level c).holder q = s.holder q)
      ∧ (∀ w q, (s.recordServed l level c).holds w q = s.holds w q)
      ∧ (∀ w q, (s.recordServed l level c).policyOf w q = s.policyOf w q)
      ∧ (∀ w, (s.recordServed l level c).mayAct w = s.mayAct w)
      ∧ (∀ w, (s.recordServed l level c).isFrozen w = s.isFrozen w)
      ∧ (s.recordServed l level c).running = s.running ∧ (s.recordServed l level c).fastLocked = s.fastLocked := by
  have d := State.derived (s := s.recordServed l level c) (t := s)
  exact ⟨(d.1 (by simp)).1, (d.1 (by simp)).2, (d.2.1 (by simp)).1, (d.2.1 (by simp)).2.1, (d.2.1 (by simp)).2.2, (d.2.2.1 (by simp)), (d.2.2.2.1 (by simp)).1, (d.2.2.2.1 (by simp)).2, (d.2.2.2.2.2 (by simp)).1, (d.2.2.2.2.2 (by simp)).2⟩

@[simp] theorem enterDoze_frame (s : State) :
    (enterDoze s).ports = s.ports ∧ (enterDoze s).policy = s.policy ∧ (enterDoze s).tenants = s.tenants
      ∧ (enterDoze s).display = s.display ∧ (enterDoze s).printer = s.printer ∧ (enterDoze s).bridge = s.bridge
      ∧ (enterDoze s).air = s.air ∧ (enterDoze s).relay = s.relay ∧ (enterDoze s).lines = s.lines
      ∧ (enterDoze s).pending = s.pending := by
  unfold enterDoze; (try dsimp only); (repeat' split) <;> simp

@[simp] theorem enterDoze_reads (s : State) :
    (∀ k, (enterDoze s).port k = s.port k) ∧ (∀ k src, (enterDoze s).inFlightFrom k src = s.inFlightFrom k src)
      ∧ (∀ w q, (enterDoze s).policyOf w q = s.policyOf w q) ∧ (∀ w, (enterDoze s).mayAct w = s.mayAct w)
      ∧ (∀ w, (enterDoze s).isFrozen w = s.isFrozen w) ∧ (∀ d, (enterDoze s).channel d = s.channel d) := by
  have d := State.derived (s := enterDoze s) (t := s)
  exact ⟨(d.1 (by simp)).1, (d.1 (by simp)).2, (d.2.2.1 (by simp)), (d.2.2.2.1 (by simp)).1, (d.2.2.2.1 (by simp)).2, (d.2.2.2.2.1 (by simp))⟩

@[simp] theorem dozeReplyCompleted_frame (s : State) :
    (dozeReplyCompleted s).policy = s.policy ∧ (dozeReplyCompleted s).tenants = s.tenants
      ∧ (dozeReplyCompleted s).display = s.display ∧ (dozeReplyCompleted s).printer = s.printer
      ∧ (dozeReplyCompleted s).bridge = s.bridge ∧ (dozeReplyCompleted s).air = s.air
      ∧ (dozeReplyCompleted s).relay = s.relay ∧ (dozeReplyCompleted s).lines = s.lines
      ∧ (dozeReplyCompleted s).pending = s.pending := by
  unfold dozeReplyCompleted; (try dsimp only); (repeat' split) <;> simp

@[simp] theorem dozeReplyCompleted_reads (s : State) :
    (∀ w q, (dozeReplyCompleted s).policyOf w q = s.policyOf w q)
      ∧ (∀ w, (dozeReplyCompleted s).mayAct w = s.mayAct w)
      ∧ (∀ w, (dozeReplyCompleted s).isFrozen w = s.isFrozen w)
      ∧ (∀ d, (dozeReplyCompleted s).channel d = s.channel d) := by
  have d := State.derived (s := dozeReplyCompleted s) (t := s)
  exact ⟨(d.2.2.1 (by simp)), (d.2.2.2.1 (by simp)).1, (d.2.2.2.1 (by simp)).2, (d.2.2.2.2.1 (by simp))⟩

@[simp] theorem dozeReplyCompleted_inbound (j : Link) (s : State) :
    ((dozeReplyCompleted s).port j).inbound = (s.port j).inbound := by
  unfold dozeReplyCompleted; (try dsimp only); (repeat' split) <;> simp

@[simp] theorem notifyDozeEnded_frame (c : WakeCause) (entered : BitVec 32) (s : State) :
    (notifyDozeEnded c entered s).clock = s.clock ∧ (notifyDozeEnded c entered s).policy = s.policy
      ∧ (notifyDozeEnded c entered s).tenants = s.tenants ∧ (notifyDozeEnded c entered s).custody = s.custody
      ∧ (notifyDozeEnded c entered s).keys = s.keys ∧ (notifyDozeEnded c entered s).display = s.display
      ∧ (notifyDozeEnded c entered s).printer = s.printer ∧ (notifyDozeEnded c entered s).bridge = s.bridge
      ∧ (notifyDozeEnded c entered s).air = s.air ∧ (notifyDozeEnded c entered s).relay = s.relay
      ∧ (notifyDozeEnded c entered s).lines = s.lines ∧ (notifyDozeEnded c entered s).pending = s.pending := by
  unfold notifyDozeEnded; (try dsimp only); (repeat' split) <;> simp

@[simp] theorem notifyDozeEnded_reads (c : WakeCause) (entered : BitVec 32) (s : State) :
    (∀ q, (notifyDozeEnded c entered s).entry q = s.entry q)
      ∧ (∀ q, (notifyDozeEnded c entered s).holder q = s.holder q)
      ∧ (∀ w q, (notifyDozeEnded c entered s).holds w q = s.holds w q)
      ∧ (∀ w q, (notifyDozeEnded c entered s).policyOf w q = s.policyOf w q)
      ∧ (∀ w, (notifyDozeEnded c entered s).mayAct w = s.mayAct w)
      ∧ (∀ w, (notifyDozeEnded c entered s).isFrozen w = s.isFrozen w)
      ∧ (∀ d, (notifyDozeEnded c entered s).channel d = s.channel d)
      ∧ (notifyDozeEnded c entered s).running = s.running
      ∧ (notifyDozeEnded c entered s).fastLocked = s.fastLocked := by
  have d := State.derived (s := notifyDozeEnded c entered s) (t := s)
  exact ⟨(d.2.1 (by simp)).1, (d.2.1 (by simp)).2.1, (d.2.1 (by simp)).2.2, (d.2.2.1 (by simp)), (d.2.2.2.1 (by simp)).1, (d.2.2.2.1 (by simp)).2, (d.2.2.2.2.1 (by simp)), (d.2.2.2.2.2 (by simp)).1, (d.2.2.2.2.2 (by simp)).2⟩

@[simp] theorem notifyDozeEnded_inbound (c : WakeCause) (entered : BitVec 32) (j : Link) (s : State) :
    ((notifyDozeEnded c entered s).port j).inbound = (s.port j).inbound := by
  unfold notifyDozeEnded; (try dsimp only); (repeat' split) <;> simp

@[simp] theorem runPendingTakeover_frame (s : State) :
    (runPendingTakeover s).clock = s.clock ∧ (runPendingTakeover s).policy = s.policy
      ∧ (runPendingTakeover s).tenants = s.tenants ∧ (runPendingTakeover s).printer = s.printer
      ∧ (runPendingTakeover s).bridge = s.bridge ∧ (runPendingTakeover s).air = s.air
      ∧ (runPendingTakeover s).relay = s.relay ∧ (runPendingTakeover s).lines = s.lines
      ∧ (runPendingTakeover s).pending = s.pending := by
  unfold runPendingTakeover; (try dsimp only); (repeat' split) <;> simp

@[simp] theorem runPendingTakeover_reads (s : State) :
    (∀ w q, (runPendingTakeover s).policyOf w q = s.policyOf w q)
      ∧ (∀ w, (runPendingTakeover s).mayAct w = s.mayAct w)
      ∧ (∀ w, (runPendingTakeover s).isFrozen w = s.isFrozen w)
      ∧ (∀ d, (runPendingTakeover s).channel d = s.channel d) ∧ (runPendingTakeover s).running = s.running
      ∧ (runPendingTakeover s).fastLocked = s.fastLocked := by
  have d := State.derived (s := runPendingTakeover s) (t := s)
  exact ⟨(d.2.2.1 (by simp)), (d.2.2.2.1 (by simp)).1, (d.2.2.2.1 (by simp)).2, (d.2.2.2.2.1 (by simp)), (d.2.2.2.2.2 (by simp)).1, (d.2.2.2.2.2 (by simp)).2⟩

@[simp] theorem runPendingTakeover_inbound (j : Link) (s : State) :
    ((runPendingTakeover s).port j).inbound = (s.port j).inbound := by
  unfold runPendingTakeover; (try dsimp only); (repeat' split) <;> simp

@[simp] theorem lockEvent_frame (s : State) :
    (lockEvent s).policy = s.policy ∧ (lockEvent s).tenants = s.tenants ∧ (lockEvent s).printer = s.printer
      ∧ (lockEvent s).bridge = s.bridge ∧ (lockEvent s).air = s.air ∧ (lockEvent s).relay = s.relay
      ∧ (lockEvent s).lines = s.lines ∧ (lockEvent s).pending = s.pending := by
  unfold lockEvent; dsimp only; split <;> simp

@[simp] theorem lockEvent_reads (s : State) :
    (∀ w q, (lockEvent s).policyOf w q = s.policyOf w q) ∧ (∀ w, (lockEvent s).mayAct w = s.mayAct w)
      ∧ (∀ w, (lockEvent s).isFrozen w = s.isFrozen w) ∧ (∀ d, (lockEvent s).channel d = s.channel d) := by
  have d := State.derived (s := lockEvent s) (t := s)
  exact ⟨(d.2.2.1 (by simp)), (d.2.2.2.1 (by simp)).1, (d.2.2.2.1 (by simp)).2, (d.2.2.2.2.1 (by simp))⟩

@[simp] theorem lockEvent_inbound (j : Link) (s : State) :
    ((lockEvent s).port j).inbound = (s.port j).inbound := by
  unfold lockEvent; dsimp only; split <;> simp

@[simp] theorem lockIfDue_frame (s : State) :
    (lockIfDue s).policy = s.policy ∧ (lockIfDue s).tenants = s.tenants ∧ (lockIfDue s).printer = s.printer
      ∧ (lockIfDue s).bridge = s.bridge ∧ (lockIfDue s).air = s.air ∧ (lockIfDue s).relay = s.relay
      ∧ (lockIfDue s).lines = s.lines ∧ (lockIfDue s).pending = s.pending := by
  unfold lockIfDue; (try dsimp only); (repeat' split) <;> simp

@[simp] theorem lockIfDue_reads (s : State) :
    (∀ w q, (lockIfDue s).policyOf w q = s.policyOf w q) ∧ (∀ w, (lockIfDue s).mayAct w = s.mayAct w)
      ∧ (∀ w, (lockIfDue s).isFrozen w = s.isFrozen w) ∧ (∀ d, (lockIfDue s).channel d = s.channel d) := by
  have d := State.derived (s := lockIfDue s) (t := s)
  exact ⟨(d.2.2.1 (by simp)), (d.2.2.2.1 (by simp)).1, (d.2.2.2.1 (by simp)).2, (d.2.2.2.2.1 (by simp))⟩

@[simp] theorem lockIfDue_inbound (j : Link) (s : State) :
    ((lockIfDue s).port j).inbound = (s.port j).inbound := by
  unfold lockIfDue; (try dsimp only); (repeat' split) <;> simp

@[simp] theorem frameStall_frame (l : Link) (s : State) :
    (frameStall l s).clock = s.clock ∧ (frameStall l s).policy = s.policy
      ∧ (frameStall l s).tenants = s.tenants ∧ (frameStall l s).custody = s.custody
      ∧ (frameStall l s).keys = s.keys ∧ (frameStall l s).display = s.display
      ∧ (frameStall l s).printer = s.printer ∧ (frameStall l s).bridge = s.bridge
      ∧ (frameStall l s).air = s.air ∧ (frameStall l s).relay = s.relay ∧ (frameStall l s).lines = s.lines
      ∧ (frameStall l s).pending = s.pending := by
  unfold frameStall; (try dsimp only); (repeat' split) <;> simp

@[simp] theorem frameStall_reads (l : Link) (s : State) :
    (∀ q, (frameStall l s).entry q = s.entry q) ∧ (∀ q, (frameStall l s).holder q = s.holder q)
      ∧ (∀ w q, (frameStall l s).holds w q = s.holds w q)
      ∧ (∀ w q, (frameStall l s).policyOf w q = s.policyOf w q) ∧ (∀ w, (frameStall l s).mayAct w = s.mayAct w)
      ∧ (∀ w, (frameStall l s).isFrozen w = s.isFrozen w) ∧ (∀ d, (frameStall l s).channel d = s.channel d)
      ∧ (frameStall l s).running = s.running ∧ (frameStall l s).fastLocked = s.fastLocked := by
  have d := State.derived (s := frameStall l s) (t := s)
  exact ⟨(d.2.1 (by simp)).1, (d.2.1 (by simp)).2.1, (d.2.1 (by simp)).2.2, (d.2.2.1 (by simp)), (d.2.2.2.1 (by simp)).1, (d.2.2.2.1 (by simp)).2, (d.2.2.2.2.1 (by simp)), (d.2.2.2.2.2 (by simp)).1, (d.2.2.2.2.2 (by simp)).2⟩

@[simp] theorem millisecond_frame (s : State) :
    (millisecond s).policy = s.policy ∧ (millisecond s).tenants = s.tenants ∧ (millisecond s).relay = s.relay
      ∧ (millisecond s).lines = s.lines ∧ (millisecond s).pending = s.pending := by
  unfold millisecond; (try dsimp only); (repeat' split) <;> simp

@[simp] theorem millisecond_reads (s : State) :
    (∀ w q, (millisecond s).policyOf w q = s.policyOf w q) ∧ (∀ w, (millisecond s).mayAct w = s.mayAct w)
      ∧ (∀ w, (millisecond s).isFrozen w = s.isFrozen w) ∧ (∀ d, (millisecond s).channel d = s.channel d) := by
  have d := State.derived (s := millisecond s) (t := s)
  exact ⟨(d.2.2.1 (by simp)), (d.2.2.2.1 (by simp)).1, (d.2.2.2.1 (by simp)).2, (d.2.2.2.2.1 (by simp))⟩


theorem keyScan_lines_same (sample : BitVec 24) (s : State) (h : sample = s.lines.matrix) :
    (keyScan sample s).lines = s.lines := by
  subst h
  unfold keyScan scanEvent
  dsimp only
  (repeat' split) <;> simp

@[simp] theorem takeDue_frame (s : State) :
    (takeDue s).policy = s.policy ∧ (takeDue s).tenants = s.tenants ∧ (takeDue s).relay = s.relay
      ∧ (takeDue s).lines = s.lines ∧ (takeDue s).pending = s.pending := by
  unfold takeDue; dsimp only; simp [keyScan_lines_same]

@[simp] theorem takeDue_reads (s : State) :
    (∀ w q, (takeDue s).policyOf w q = s.policyOf w q) ∧ (∀ w, (takeDue s).mayAct w = s.mayAct w)
      ∧ (∀ w, (takeDue s).isFrozen w = s.isFrozen w) ∧ (∀ d, (takeDue s).channel d = s.channel d) := by
  have d := State.derived (s := takeDue s) (t := s)
  exact ⟨(d.2.2.1 (by simp)), (d.2.2.2.1 (by simp)).1, (d.2.2.2.1 (by simp)).2, (d.2.2.2.2.1 (by simp))⟩

@[simp] theorem referenceCycle_frame (s : State) :
    (referenceCycle s).policy = s.policy ∧ (referenceCycle s).tenants = s.tenants
      ∧ (referenceCycle s).relay = s.relay ∧ (referenceCycle s).lines = s.lines
      ∧ (referenceCycle s).pending = s.pending := by
  unfold referenceCycle; dsimp only; split <;> simp

@[simp] theorem referenceCycle_reads (s : State) :
    (∀ w q, (referenceCycle s).policyOf w q = s.policyOf w q) ∧ (∀ w, (referenceCycle s).mayAct w = s.mayAct w)
      ∧ (∀ w, (referenceCycle s).isFrozen w = s.isFrozen w) ∧ (∀ d, (referenceCycle s).channel d = s.channel d) := by
  have d := State.derived (s := referenceCycle s) (t := s)
  exact ⟨(d.2.2.1 (by simp)), (d.2.2.2.1 (by simp)).1, (d.2.2.2.1 (by simp)).2, (d.2.2.2.2.1 (by simp))⟩

@[simp] theorem referenceCycles_frame (n : Nat) (s : State) :
    (referenceCycles n s).policy = s.policy ∧ (referenceCycles n s).tenants = s.tenants
      ∧ (referenceCycles n s).relay = s.relay ∧ (referenceCycles n s).lines = s.lines
      ∧ (referenceCycles n s).pending = s.pending := by
  induction n generalizing s with
  | zero => simp [referenceCycles]
  | succ n ih => simp [referenceCycles, ih]

@[simp] theorem referenceCycles_reads (n : Nat) (s : State) :
    (∀ w q, (referenceCycles n s).policyOf w q = s.policyOf w q)
      ∧ (∀ w, (referenceCycles n s).mayAct w = s.mayAct w)
      ∧ (∀ w, (referenceCycles n s).isFrozen w = s.isFrozen w)
      ∧ (∀ d, (referenceCycles n s).channel d = s.channel d) := by
  have d := State.derived (s := referenceCycles n s) (t := s)
  exact ⟨(d.2.2.1 (by simp)), (d.2.2.2.1 (by simp)).1, (d.2.2.2.1 (by simp)).2, (d.2.2.2.2.1 (by simp))⟩

@[simp] theorem partTimeTick_frame (s : State) :
    (partTimeTick s).policy = s.policy ∧ (partTimeTick s).tenants = s.tenants
      ∧ (partTimeTick s).relay = s.relay ∧ (partTimeTick s).lines = s.lines
      ∧ (partTimeTick s).pending = s.pending := by
  unfold partTimeTick; (try dsimp only); (repeat' split) <;> simp

@[simp] theorem partTimeTick_reads (s : State) :
    (∀ w q, (partTimeTick s).policyOf w q = s.policyOf w q) ∧ (∀ w, (partTimeTick s).mayAct w = s.mayAct w)
      ∧ (∀ w, (partTimeTick s).isFrozen w = s.isFrozen w) ∧ (∀ d, (partTimeTick s).channel d = s.channel d) := by
  have d := State.derived (s := partTimeTick s) (t := s)
  exact ⟨(d.2.2.1 (by simp)), (d.2.2.2.1 (by simp)).1, (d.2.2.2.1 (by simp)).2, (d.2.2.2.2.1 (by simp))⟩

@[simp] theorem fastClockLock_frame (s : State) :
    (fastClockLock s).policy = s.policy ∧ (fastClockLock s).tenants = s.tenants
      ∧ (fastClockLock s).relay = s.relay ∧ (fastClockLock s).lines = s.lines
      ∧ (fastClockLock s).pending = s.pending := by
  unfold fastClockLock; (try dsimp only); (repeat' split) <;> simp

@[simp] theorem fastClockLock_reads (s : State) :
    (∀ w q, (fastClockLock s).policyOf w q = s.policyOf w q) ∧ (∀ w, (fastClockLock s).mayAct w = s.mayAct w)
      ∧ (∀ w, (fastClockLock s).isFrozen w = s.isFrozen w) ∧ (∀ d, (fastClockLock s).channel d = s.channel d) := by
  have d := State.derived (s := fastClockLock s) (t := s)
  exact ⟨(d.2.2.1 (by simp)), (d.2.2.2.1 (by simp)).1, (d.2.2.2.1 (by simp)).2, (d.2.2.2.2.1 (by simp))⟩

@[simp] theorem rxEnds_frame (l : Link) (o : RxOutcome) (s : State) :
    (s.rxEnds l o).clock = s.clock ∧ (s.rxEnds l o).policy = s.policy ∧ (s.rxEnds l o).tenants = s.tenants
      ∧ (s.rxEnds l o).custody = s.custody ∧ (s.rxEnds l o).keys = s.keys ∧ (s.rxEnds l o).display = s.display
      ∧ (s.rxEnds l o).printer = s.printer ∧ (s.rxEnds l o).bridge = s.bridge ∧ (s.rxEnds l o).air = s.air
      ∧ (s.rxEnds l o).relay = s.relay ∧ (s.rxEnds l o).lines = s.lines ∧ (s.rxEnds l o).pending = s.pending := by
  simp [State.rxEnds]

@[simp] theorem rxEnds_reads (l : Link) (o : RxOutcome) (s : State) :
    (∀ q, (s.rxEnds l o).entry q = s.entry q) ∧ (∀ q, (s.rxEnds l o).holder q = s.holder q)
      ∧ (∀ w q, (s.rxEnds l o).holds w q = s.holds w q) ∧ (∀ w q, (s.rxEnds l o).policyOf w q = s.policyOf w q)
      ∧ (∀ w, (s.rxEnds l o).mayAct w = s.mayAct w) ∧ (∀ w, (s.rxEnds l o).isFrozen w = s.isFrozen w)
      ∧ (∀ d, (s.rxEnds l o).channel d = s.channel d) ∧ (s.rxEnds l o).running = s.running
      ∧ (s.rxEnds l o).fastLocked = s.fastLocked := by
  have d := State.derived (s := s.rxEnds l o) (t := s)
  exact ⟨(d.2.1 (by simp)).1, (d.2.1 (by simp)).2.1, (d.2.1 (by simp)).2.2, (d.2.2.1 (by simp)), (d.2.2.2.1 (by simp)).1, (d.2.2.2.1 (by simp)).2, (d.2.2.2.2.1 (by simp)), (d.2.2.2.2.2 (by simp)).1, (d.2.2.2.2.2 (by simp)).2⟩

@[simp] theorem judgeFrame_frame (l : Link) (bytes : List Byte) (s : State) :
    (judgeFrame l bytes s).policy = s.policy ∧ (judgeFrame l bytes s).tenants = s.tenants
      ∧ (judgeFrame l bytes s).custody = s.custody ∧ (judgeFrame l bytes s).keys = s.keys
      ∧ (judgeFrame l bytes s).display = s.display ∧ (judgeFrame l bytes s).printer = s.printer
      ∧ (judgeFrame l bytes s).bridge = s.bridge ∧ (judgeFrame l bytes s).air = s.air
      ∧ (judgeFrame l bytes s).relay = s.relay ∧ (judgeFrame l bytes s).lines = s.lines
      ∧ (judgeFrame l bytes s).pending = s.pending := by
  unfold judgeFrame; (try dsimp only); (repeat' split) <;> simp

@[simp] theorem judgeFrame_reads (l : Link) (bytes : List Byte) (s : State) :
    (∀ q, (judgeFrame l bytes s).entry q = s.entry q) ∧ (∀ q, (judgeFrame l bytes s).holder q = s.holder q)
      ∧ (∀ w q, (judgeFrame l bytes s).holds w q = s.holds w q)
      ∧ (∀ w q, (judgeFrame l bytes s).policyOf w q = s.policyOf w q)
      ∧ (∀ w, (judgeFrame l bytes s).mayAct w = s.mayAct w)
      ∧ (∀ w, (judgeFrame l bytes s).isFrozen w = s.isFrozen w)
      ∧ (∀ d, (judgeFrame l bytes s).channel d = s.channel d) := by
  have d := State.derived (s := judgeFrame l bytes s) (t := s)
  exact ⟨(d.2.1 (by simp)).1, (d.2.1 (by simp)).2.1, (d.2.1 (by simp)).2.2, (d.2.2.1 (by simp)), (d.2.2.2.1 (by simp)).1, (d.2.2.2.1 (by simp)).2, (d.2.2.2.2.1 (by simp))⟩

@[simp] theorem collectByte_frame (l : Link) (bytes : List Byte) (s : State) :
    (collectByte l bytes s).policy = s.policy ∧ (collectByte l bytes s).tenants = s.tenants
      ∧ (collectByte l bytes s).custody = s.custody ∧ (collectByte l bytes s).keys = s.keys
      ∧ (collectByte l bytes s).display = s.display ∧ (collectByte l bytes s).printer = s.printer
      ∧ (collectByte l bytes s).bridge = s.bridge ∧ (collectByte l bytes s).air = s.air
      ∧ (collectByte l bytes s).relay = s.relay ∧ (collectByte l bytes s).lines = s.lines
      ∧ (collectByte l bytes s).pending = s.pending := by
  unfold collectByte; (try dsimp only); (repeat' split) <;> simp

@[simp] theorem collectByte_reads (l : Link) (bytes : List Byte) (s : State) :
    (∀ q, (collectByte l bytes s).entry q = s.entry q) ∧ (∀ q, (collectByte l bytes s).holder q = s.holder q)
      ∧ (∀ w q, (collectByte l bytes s).holds w q = s.holds w q)
      ∧ (∀ w q, (collectByte l bytes s).policyOf w q = s.policyOf w q)
      ∧ (∀ w, (collectByte l bytes s).mayAct w = s.mayAct w)
      ∧ (∀ w, (collectByte l bytes s).isFrozen w = s.isFrozen w)
      ∧ (∀ d, (collectByte l bytes s).channel d = s.channel d) := by
  have d := State.derived (s := collectByte l bytes s) (t := s)
  exact ⟨(d.2.1 (by simp)).1, (d.2.1 (by simp)).2.1, (d.2.1 (by simp)).2.2, (d.2.2.1 (by simp)), (d.2.2.2.1 (by simp)).1, (d.2.2.2.1 (by simp)).2, (d.2.2.2.2.1 (by simp))⟩

@[simp] theorem receiveByte_frame (l : Link) (b : Byte) (s : State) :
    (receiveByte l b s).policy = s.policy ∧ (receiveByte l b s).tenants = s.tenants
      ∧ (receiveByte l b s).custody = s.custody ∧ (receiveByte l b s).keys = s.keys
      ∧ (receiveByte l b s).display = s.display ∧ (receiveByte l b s).printer = s.printer
      ∧ (receiveByte l b s).bridge = s.bridge ∧ (receiveByte l b s).air = s.air
      ∧ (receiveByte l b s).relay = s.relay ∧ (receiveByte l b s).lines = s.lines
      ∧ (receiveByte l b s).pending = s.pending := by
  unfold receiveByte; (try dsimp only); (repeat' split) <;> simp

@[simp] theorem receiveByte_reads (l : Link) (b : Byte) (s : State) :
    (∀ q, (receiveByte l b s).entry q = s.entry q) ∧ (∀ q, (receiveByte l b s).holder q = s.holder q)
      ∧ (∀ w q, (receiveByte l b s).holds w q = s.holds w q)
      ∧ (∀ w q, (receiveByte l b s).policyOf w q = s.policyOf w q)
      ∧ (∀ w, (receiveByte l b s).mayAct w = s.mayAct w) ∧ (∀ w, (receiveByte l b s).isFrozen w = s.isFrozen w)
      ∧ (∀ d, (receiveByte l b s).channel d = s.channel d) := by
  have d := State.derived (s := receiveByte l b s) (t := s)
  exact ⟨(d.2.1 (by simp)).1, (d.2.1 (by simp)).2.1, (d.2.1 (by simp)).2.2, (d.2.2.1 (by simp)), (d.2.2.2.1 (by simp)).1, (d.2.2.2.1 (by simp)).2, (d.2.2.2.2.1 (by simp))⟩

@[simp] theorem beginFrame_frame (l : Link) (f : Frame) (src : FrameSource) (s : State) :
    (beginFrame l f src s).clock = s.clock ∧ (beginFrame l f src s).policy = s.policy
      ∧ (beginFrame l f src s).tenants = s.tenants ∧ (beginFrame l f src s).custody = s.custody
      ∧ (beginFrame l f src s).keys = s.keys ∧ (beginFrame l f src s).display = s.display
      ∧ (beginFrame l f src s).printer = s.printer ∧ (beginFrame l f src s).bridge = s.bridge
      ∧ (beginFrame l f src s).air = s.air ∧ (beginFrame l f src s).relay = s.relay
      ∧ (beginFrame l f src s).lines = s.lines ∧ (beginFrame l f src s).pending = s.pending := by
  unfold beginFrame; (try dsimp only); (repeat' split) <;> simp

@[simp] theorem beginFrame_reads (l : Link) (f : Frame) (src : FrameSource) (s : State) :
    (∀ q, (beginFrame l f src s).entry q = s.entry q) ∧ (∀ q, (beginFrame l f src s).holder q = s.holder q)
      ∧ (∀ w q, (beginFrame l f src s).holds w q = s.holds w q)
      ∧ (∀ w q, (beginFrame l f src s).policyOf w q = s.policyOf w q)
      ∧ (∀ w, (beginFrame l f src s).mayAct w = s.mayAct w)
      ∧ (∀ w, (beginFrame l f src s).isFrozen w = s.isFrozen w)
      ∧ (∀ d, (beginFrame l f src s).channel d = s.channel d) ∧ (beginFrame l f src s).running = s.running
      ∧ (beginFrame l f src s).fastLocked = s.fastLocked := by
  have d := State.derived (s := beginFrame l f src s) (t := s)
  exact ⟨(d.2.1 (by simp)).1, (d.2.1 (by simp)).2.1, (d.2.1 (by simp)).2.2, (d.2.2.1 (by simp)), (d.2.2.2.1 (by simp)).1, (d.2.2.2.1 (by simp)).2, (d.2.2.2.2.1 (by simp)), (d.2.2.2.2.2 (by simp)).1, (d.2.2.2.2.2 (by simp)).2⟩

@[simp] theorem resend_frame (l : Link) (x : InFlight) (s : State) :
    (resend l x s).clock = s.clock ∧ (resend l x s).policy = s.policy ∧ (resend l x s).tenants = s.tenants
      ∧ (resend l x s).custody = s.custody ∧ (resend l x s).keys = s.keys ∧ (resend l x s).display = s.display
      ∧ (resend l x s).printer = s.printer ∧ (resend l x s).bridge = s.bridge ∧ (resend l x s).air = s.air
      ∧ (resend l x s).relay = s.relay ∧ (resend l x s).lines = s.lines ∧ (resend l x s).pending = s.pending := by
  unfold resend; (try dsimp only); (repeat' split) <;> simp

@[simp] theorem resend_reads (l : Link) (x : InFlight) (s : State) :
    (∀ q, (resend l x s).entry q = s.entry q) ∧ (∀ q, (resend l x s).holder q = s.holder q)
      ∧ (∀ w q, (resend l x s).holds w q = s.holds w q) ∧ (∀ w q, (resend l x s).policyOf w q = s.policyOf w q)
      ∧ (∀ w, (resend l x s).mayAct w = s.mayAct w) ∧ (∀ w, (resend l x s).isFrozen w = s.isFrozen w)
      ∧ (∀ d, (resend l x s).channel d = s.channel d) ∧ (resend l x s).running = s.running
      ∧ (resend l x s).fastLocked = s.fastLocked := by
  have d := State.derived (s := resend l x s) (t := s)
  exact ⟨(d.2.1 (by simp)).1, (d.2.1 (by simp)).2.1, (d.2.1 (by simp)).2.2, (d.2.2.1 (by simp)), (d.2.2.2.1 (by simp)).1, (d.2.2.2.1 (by simp)).2, (d.2.2.2.2.1 (by simp)), (d.2.2.2.2.2 (by simp)).1, (d.2.2.2.2.2 (by simp)).2⟩

@[simp] theorem sendNotice_frame (l : Link) (n : Notice) (s : State) :
    (sendNotice l n s).clock = s.clock ∧ (sendNotice l n s).policy = s.policy
      ∧ (sendNotice l n s).tenants = s.tenants ∧ (sendNotice l n s).custody = s.custody
      ∧ (sendNotice l n s).keys = s.keys ∧ (sendNotice l n s).display = s.display
      ∧ (sendNotice l n s).printer = s.printer ∧ (sendNotice l n s).bridge = s.bridge
      ∧ (sendNotice l n s).air = s.air ∧ (sendNotice l n s).relay = s.relay
      ∧ (sendNotice l n s).lines = s.lines ∧ (sendNotice l n s).pending = s.pending := by
  unfold sendNotice; (try dsimp only); (repeat' split) <;> simp

@[simp] theorem sendNotice_reads (l : Link) (n : Notice) (s : State) :
    (∀ q, (sendNotice l n s).entry q = s.entry q) ∧ (∀ q, (sendNotice l n s).holder q = s.holder q)
      ∧ (∀ w q, (sendNotice l n s).holds w q = s.holds w q)
      ∧ (∀ w q, (sendNotice l n s).policyOf w q = s.policyOf w q)
      ∧ (∀ w, (sendNotice l n s).mayAct w = s.mayAct w) ∧ (∀ w, (sendNotice l n s).isFrozen w = s.isFrozen w)
      ∧ (∀ d, (sendNotice l n s).channel d = s.channel d) ∧ (sendNotice l n s).running = s.running
      ∧ (sendNotice l n s).fastLocked = s.fastLocked := by
  have d := State.derived (s := sendNotice l n s) (t := s)
  exact ⟨(d.2.1 (by simp)).1, (d.2.1 (by simp)).2.1, (d.2.1 (by simp)).2.2, (d.2.2.1 (by simp)), (d.2.2.2.1 (by simp)).1, (d.2.2.2.1 (by simp)).2, (d.2.2.2.2.1 (by simp)), (d.2.2.2.2.2 (by simp)).1, (d.2.2.2.2.2 (by simp)).2⟩

@[simp] theorem sendReply_frame (l : Link) (f : Frame) (rest : List Frame) (s : State) :
    (sendReply l f rest s).clock = s.clock ∧ (sendReply l f rest s).policy = s.policy
      ∧ (sendReply l f rest s).tenants = s.tenants ∧ (sendReply l f rest s).custody = s.custody
      ∧ (sendReply l f rest s).keys = s.keys ∧ (sendReply l f rest s).display = s.display
      ∧ (sendReply l f rest s).printer = s.printer ∧ (sendReply l f rest s).bridge = s.bridge
      ∧ (sendReply l f rest s).air = s.air ∧ (sendReply l f rest s).relay = s.relay
      ∧ (sendReply l f rest s).lines = s.lines ∧ (sendReply l f rest s).pending = s.pending := by
  unfold sendReply; (try dsimp only); (repeat' split) <;> simp

@[simp] theorem sendReply_reads (l : Link) (f : Frame) (rest : List Frame) (s : State) :
    (∀ q, (sendReply l f rest s).entry q = s.entry q) ∧ (∀ q, (sendReply l f rest s).holder q = s.holder q)
      ∧ (∀ w q, (sendReply l f rest s).holds w q = s.holds w q)
      ∧ (∀ w q, (sendReply l f rest s).policyOf w q = s.policyOf w q)
      ∧ (∀ w, (sendReply l f rest s).mayAct w = s.mayAct w)
      ∧ (∀ w, (sendReply l f rest s).isFrozen w = s.isFrozen w)
      ∧ (∀ d, (sendReply l f rest s).channel d = s.channel d) ∧ (sendReply l f rest s).running = s.running
      ∧ (sendReply l f rest s).fastLocked = s.fastLocked := by
  have d := State.derived (s := sendReply l f rest s) (t := s)
  exact ⟨(d.2.1 (by simp)).1, (d.2.1 (by simp)).2.1, (d.2.1 (by simp)).2.2, (d.2.2.1 (by simp)), (d.2.2.2.1 (by simp)).1, (d.2.2.2.1 (by simp)).2, (d.2.2.2.2.1 (by simp)), (d.2.2.2.2.2 (by simp)).1, (d.2.2.2.2.2 (by simp)).2⟩

@[simp] theorem sendKeys_frame (l : Link) (h : Subject) (s : State) :
    (sendKeys l h s).clock = s.clock ∧ (sendKeys l h s).policy = s.policy
      ∧ (sendKeys l h s).tenants = s.tenants ∧ (sendKeys l h s).custody = s.custody
      ∧ (sendKeys l h s).display = s.display ∧ (sendKeys l h s).printer = s.printer
      ∧ (sendKeys l h s).bridge = s.bridge ∧ (sendKeys l h s).air = s.air ∧ (sendKeys l h s).relay = s.relay
      ∧ (sendKeys l h s).lines = s.lines ∧ (sendKeys l h s).pending = s.pending := by
  unfold sendKeys; (try dsimp only); (repeat' split) <;> simp

@[simp] theorem sendKeys_reads (l : Link) (h : Subject) (s : State) :
    (∀ q, (sendKeys l h s).entry q = s.entry q) ∧ (∀ q, (sendKeys l h s).holder q = s.holder q)
      ∧ (∀ w q, (sendKeys l h s).holds w q = s.holds w q)
      ∧ (∀ w q, (sendKeys l h s).policyOf w q = s.policyOf w q) ∧ (∀ w, (sendKeys l h s).mayAct w = s.mayAct w)
      ∧ (∀ w, (sendKeys l h s).isFrozen w = s.isFrozen w) ∧ (∀ d, (sendKeys l h s).channel d = s.channel d)
      ∧ (sendKeys l h s).running = s.running ∧ (sendKeys l h s).fastLocked = s.fastLocked := by
  have d := State.derived (s := sendKeys l h s) (t := s)
  exact ⟨(d.2.1 (by simp)).1, (d.2.1 (by simp)).2.1, (d.2.1 (by simp)).2.2, (d.2.2.1 (by simp)), (d.2.2.2.1 (by simp)).1, (d.2.2.2.1 (by simp)).2, (d.2.2.2.2.1 (by simp)), (d.2.2.2.2.2 (by simp)).1, (d.2.2.2.2.2 (by simp)).2⟩

@[simp] theorem sendResult_frame (l : Link) (h : Subject) (x : ClResult) (s : State) :
    (sendResult l h x s).clock = s.clock ∧ (sendResult l h x s).policy = s.policy
      ∧ (sendResult l h x s).tenants = s.tenants ∧ (sendResult l h x s).custody = s.custody
      ∧ (sendResult l h x s).keys = s.keys ∧ (sendResult l h x s).display = s.display
      ∧ (sendResult l h x s).printer = s.printer ∧ (sendResult l h x s).air = s.air
      ∧ (sendResult l h x s).relay = s.relay ∧ (sendResult l h x s).lines = s.lines
      ∧ (sendResult l h x s).pending = s.pending := by
  unfold sendResult; (try dsimp only); (repeat' split) <;> simp

@[simp] theorem sendResult_reads (l : Link) (h : Subject) (x : ClResult) (s : State) :
    (∀ q, (sendResult l h x s).entry q = s.entry q) ∧ (∀ q, (sendResult l h x s).holder q = s.holder q)
      ∧ (∀ w q, (sendResult l h x s).holds w q = s.holds w q)
      ∧ (∀ w q, (sendResult l h x s).policyOf w q = s.policyOf w q)
      ∧ (∀ w, (sendResult l h x s).mayAct w = s.mayAct w)
      ∧ (∀ w, (sendResult l h x s).isFrozen w = s.isFrozen w)
      ∧ (∀ d, (sendResult l h x s).channel d = s.channel d) ∧ (sendResult l h x s).running = s.running
      ∧ (sendResult l h x s).fastLocked = s.fastLocked := by
  have d := State.derived (s := sendResult l h x s) (t := s)
  exact ⟨(d.2.1 (by simp)).1, (d.2.1 (by simp)).2.1, (d.2.1 (by simp)).2.2, (d.2.2.1 (by simp)), (d.2.2.2.1 (by simp)).1, (d.2.2.2.1 (by simp)).2, (d.2.2.2.2.1 (by simp)), (d.2.2.2.2.2 (by simp)).1, (d.2.2.2.2.2 (by simp)).2⟩

@[simp] theorem sendRelay_frame (l : Link) (level : Fin 4) (c : Fin 32) (s : State) :
    (sendRelay l level c s).clock = s.clock ∧ (sendRelay l level c s).policy = s.policy
      ∧ (sendRelay l level c s).tenants = s.tenants ∧ (sendRelay l level c s).custody = s.custody
      ∧ (sendRelay l level c s).keys = s.keys ∧ (sendRelay l level c s).display = s.display
      ∧ (sendRelay l level c s).printer = s.printer ∧ (sendRelay l level c s).bridge = s.bridge
      ∧ (sendRelay l level c s).air = s.air ∧ (sendRelay l level c s).lines = s.lines
      ∧ (sendRelay l level c s).pending = s.pending := by
  unfold sendRelay; (try dsimp only); (repeat' split) <;> simp

@[simp] theorem sendRelay_reads (l : Link) (level : Fin 4) (c : Fin 32) (s : State) :
    (∀ q, (sendRelay l level c s).entry q = s.entry q) ∧ (∀ q, (sendRelay l level c s).holder q = s.holder q)
      ∧ (∀ w q, (sendRelay l level c s).holds w q = s.holds w q)
      ∧ (∀ w q, (sendRelay l level c s).policyOf w q = s.policyOf w q)
      ∧ (∀ w, (sendRelay l level c s).mayAct w = s.mayAct w)
      ∧ (∀ w, (sendRelay l level c s).isFrozen w = s.isFrozen w) ∧ (sendRelay l level c s).running = s.running
      ∧ (sendRelay l level c s).fastLocked = s.fastLocked := by
  have d := State.derived (s := sendRelay l level c s) (t := s)
  exact ⟨(d.2.1 (by simp)).1, (d.2.1 (by simp)).2.1, (d.2.1 (by simp)).2.2, (d.2.2.1 (by simp)), (d.2.2.2.1 (by simp)).1, (d.2.2.2.1 (by simp)).2, (d.2.2.2.2.2 (by simp)).1, (d.2.2.2.2.2 (by simp)).2⟩

@[simp] theorem chooseFrame_frame (l : Link) (s : State) :
    (chooseFrame l s).clock = s.clock ∧ (chooseFrame l s).policy = s.policy
      ∧ (chooseFrame l s).tenants = s.tenants ∧ (chooseFrame l s).custody = s.custody
      ∧ (chooseFrame l s).display = s.display ∧ (chooseFrame l s).printer = s.printer
      ∧ (chooseFrame l s).air = s.air ∧ (chooseFrame l s).lines = s.lines
      ∧ (chooseFrame l s).pending = s.pending := by
  unfold chooseFrame; (try dsimp only); (repeat' split) <;> simp

@[simp] theorem chooseFrame_reads (l : Link) (s : State) :
    (∀ q, (chooseFrame l s).entry q = s.entry q) ∧ (∀ q, (chooseFrame l s).holder q = s.holder q)
      ∧ (∀ w q, (chooseFrame l s).holds w q = s.holds w q)
      ∧ (∀ w q, (chooseFrame l s).policyOf w q = s.policyOf w q)
      ∧ (∀ w, (chooseFrame l s).mayAct w = s.mayAct w) ∧ (∀ w, (chooseFrame l s).isFrozen w = s.isFrozen w)
      ∧ (chooseFrame l s).running = s.running ∧ (chooseFrame l s).fastLocked = s.fastLocked := by
  have d := State.derived (s := chooseFrame l s) (t := s)
  exact ⟨(d.2.1 (by simp)).1, (d.2.1 (by simp)).2.1, (d.2.1 (by simp)).2.2, (d.2.2.1 (by simp)), (d.2.2.2.1 (by simp)).1, (d.2.2.2.1 (by simp)).2, (d.2.2.2.2.2 (by simp)).1, (d.2.2.2.2.2 (by simp)).2⟩

@[simp] theorem beginByte_frame (l : Link) (s : State) :
    (beginByte l s).clock = s.clock ∧ (beginByte l s).policy = s.policy ∧ (beginByte l s).tenants = s.tenants
      ∧ (beginByte l s).custody = s.custody ∧ (beginByte l s).keys = s.keys
      ∧ (beginByte l s).display = s.display ∧ (beginByte l s).printer = s.printer
      ∧ (beginByte l s).bridge = s.bridge ∧ (beginByte l s).air = s.air ∧ (beginByte l s).relay = s.relay
      ∧ (beginByte l s).lines = s.lines ∧ (beginByte l s).pending = s.pending := by
  unfold beginByte; (try dsimp only); (repeat' split) <;> simp

@[simp] theorem beginByte_reads (l : Link) (s : State) :
    (∀ q, (beginByte l s).entry q = s.entry q) ∧ (∀ q, (beginByte l s).holder q = s.holder q)
      ∧ (∀ w q, (beginByte l s).holds w q = s.holds w q)
      ∧ (∀ w q, (beginByte l s).policyOf w q = s.policyOf w q) ∧ (∀ w, (beginByte l s).mayAct w = s.mayAct w)
      ∧ (∀ w, (beginByte l s).isFrozen w = s.isFrozen w) ∧ (∀ d, (beginByte l s).channel d = s.channel d)
      ∧ (beginByte l s).running = s.running ∧ (beginByte l s).fastLocked = s.fastLocked := by
  have d := State.derived (s := beginByte l s) (t := s)
  exact ⟨(d.2.1 (by simp)).1, (d.2.1 (by simp)).2.1, (d.2.1 (by simp)).2.2, (d.2.2.1 (by simp)), (d.2.2.2.1 (by simp)).1, (d.2.2.2.1 (by simp)).2, (d.2.2.2.2.1 (by simp)), (d.2.2.2.2.2 (by simp)).1, (d.2.2.2.2.2 (by simp)).2⟩

@[simp] theorem outboundChoice_frame (l : Link) (s : State) :
    (outboundChoice l s).clock = s.clock ∧ (outboundChoice l s).policy = s.policy
      ∧ (outboundChoice l s).tenants = s.tenants ∧ (outboundChoice l s).custody = s.custody
      ∧ (outboundChoice l s).display = s.display ∧ (outboundChoice l s).printer = s.printer
      ∧ (outboundChoice l s).air = s.air ∧ (outboundChoice l s).lines = s.lines
      ∧ (outboundChoice l s).pending = s.pending := by
  unfold outboundChoice; (try dsimp only); (repeat' split) <;> simp

@[simp] theorem outboundChoice_reads (l : Link) (s : State) :
    (∀ q, (outboundChoice l s).entry q = s.entry q) ∧ (∀ q, (outboundChoice l s).holder q = s.holder q)
      ∧ (∀ w q, (outboundChoice l s).holds w q = s.holds w q)
      ∧ (∀ w q, (outboundChoice l s).policyOf w q = s.policyOf w q)
      ∧ (∀ w, (outboundChoice l s).mayAct w = s.mayAct w)
      ∧ (∀ w, (outboundChoice l s).isFrozen w = s.isFrozen w) ∧ (outboundChoice l s).running = s.running
      ∧ (outboundChoice l s).fastLocked = s.fastLocked := by
  have d := State.derived (s := outboundChoice l s) (t := s)
  exact ⟨(d.2.1 (by simp)).1, (d.2.1 (by simp)).2.1, (d.2.1 (by simp)).2.2, (d.2.2.1 (by simp)), (d.2.2.2.1 (by simp)).1, (d.2.2.2.1 (by simp)).2, (d.2.2.2.2.2 (by simp)).1, (d.2.2.2.2.2 (by simp)).2⟩

@[simp] theorem reportCompletion_frame (x : InFlight) (s : State) :
    (reportCompletion x s).policy = s.policy ∧ (reportCompletion x s).tenants = s.tenants
      ∧ (reportCompletion x s).display = s.display ∧ (reportCompletion x s).printer = s.printer
      ∧ (reportCompletion x s).air = s.air ∧ (reportCompletion x s).relay = s.relay
      ∧ (reportCompletion x s).lines = s.lines ∧ (reportCompletion x s).pending = s.pending := by
  unfold reportCompletion; (try dsimp only); (repeat' split) <;> simp

@[simp] theorem reportCompletion_reads (x : InFlight) (s : State) :
    (∀ w q, (reportCompletion x s).policyOf w q = s.policyOf w q)
      ∧ (∀ w, (reportCompletion x s).mayAct w = s.mayAct w)
      ∧ (∀ w, (reportCompletion x s).isFrozen w = s.isFrozen w)
      ∧ (∀ d, (reportCompletion x s).channel d = s.channel d) := by
  have d := State.derived (s := reportCompletion x s) (t := s)
  exact ⟨(d.2.2.1 (by simp)), (d.2.2.2.1 (by simp)).1, (d.2.2.2.1 (by simp)).2, (d.2.2.2.2.1 (by simp))⟩

@[simp] theorem reportCompletion_inbound (x : InFlight) (j : Link) (s : State) :
    ((reportCompletion x s).port j).inbound = (s.port j).inbound := by
  unfold reportCompletion; (try dsimp only); (repeat' split) <;> simp

@[simp] theorem frameComplete_frame (l : Link) (s : State) :
    (frameComplete l s).policy = s.policy ∧ (frameComplete l s).tenants = s.tenants
      ∧ (frameComplete l s).display = s.display ∧ (frameComplete l s).printer = s.printer
      ∧ (frameComplete l s).air = s.air ∧ (frameComplete l s).relay = s.relay
      ∧ (frameComplete l s).lines = s.lines ∧ (frameComplete l s).pending = s.pending := by
  unfold frameComplete; (try dsimp only); (repeat' split) <;> simp

@[simp] theorem frameComplete_reads (l : Link) (s : State) :
    (∀ w q, (frameComplete l s).policyOf w q = s.policyOf w q)
      ∧ (∀ w, (frameComplete l s).mayAct w = s.mayAct w) ∧ (∀ w, (frameComplete l s).isFrozen w = s.isFrozen w)
      ∧ (∀ d, (frameComplete l s).channel d = s.channel d) := by
  have d := State.derived (s := frameComplete l s) (t := s)
  exact ⟨(d.2.2.1 (by simp)), (d.2.2.2.1 (by simp)).1, (d.2.2.2.1 (by simp)).2, (d.2.2.2.2.1 (by simp))⟩

@[simp] theorem frameComplete_inbound (l : Link) (j : Link) (s : State) :
    ((frameComplete l s).port j).inbound = (s.port j).inbound := by
  unfold frameComplete; (repeat' split) <;> simp [setPort_port] <;> split <;> simp_all [Port.inbound]

@[simp] theorem restartStallTimer_frame (l : Link) (s : State) :
    (restartStallTimer l s).clock = s.clock ∧ (restartStallTimer l s).policy = s.policy
      ∧ (restartStallTimer l s).tenants = s.tenants ∧ (restartStallTimer l s).custody = s.custody
      ∧ (restartStallTimer l s).keys = s.keys ∧ (restartStallTimer l s).display = s.display
      ∧ (restartStallTimer l s).printer = s.printer ∧ (restartStallTimer l s).bridge = s.bridge
      ∧ (restartStallTimer l s).air = s.air ∧ (restartStallTimer l s).relay = s.relay
      ∧ (restartStallTimer l s).lines = s.lines ∧ (restartStallTimer l s).pending = s.pending := by
  unfold restartStallTimer; (try dsimp only); (repeat' split) <;> simp

@[simp] theorem restartStallTimer_reads (l : Link) (s : State) :
    (∀ q, (restartStallTimer l s).entry q = s.entry q) ∧ (∀ q, (restartStallTimer l s).holder q = s.holder q)
      ∧ (∀ w q, (restartStallTimer l s).holds w q = s.holds w q)
      ∧ (∀ w q, (restartStallTimer l s).policyOf w q = s.policyOf w q)
      ∧ (∀ w, (restartStallTimer l s).mayAct w = s.mayAct w)
      ∧ (∀ w, (restartStallTimer l s).isFrozen w = s.isFrozen w)
      ∧ (∀ d, (restartStallTimer l s).channel d = s.channel d) ∧ (restartStallTimer l s).running = s.running
      ∧ (restartStallTimer l s).fastLocked = s.fastLocked := by
  have d := State.derived (s := restartStallTimer l s) (t := s)
  exact ⟨(d.2.1 (by simp)).1, (d.2.1 (by simp)).2.1, (d.2.1 (by simp)).2.2, (d.2.2.1 (by simp)), (d.2.2.2.1 (by simp)).1, (d.2.2.2.1 (by simp)).2, (d.2.2.2.2.1 (by simp)), (d.2.2.2.2.2 (by simp)).1, (d.2.2.2.2.2 (by simp)).2⟩

@[simp] theorem clockEdge_frame (l : Link) (s : State) :
    (clockEdge l s).policy = s.policy ∧ (clockEdge l s).tenants = s.tenants
      ∧ (clockEdge l s).display = s.display ∧ (clockEdge l s).printer = s.printer ∧ (clockEdge l s).air = s.air
      ∧ (clockEdge l s).lines = s.lines ∧ (clockEdge l s).pending = s.pending := by
  unfold clockEdge; (try dsimp only); (repeat' split) <;> simp

@[simp] theorem clockEdge_reads (l : Link) (s : State) :
    (∀ w q, (clockEdge l s).policyOf w q = s.policyOf w q) ∧ (∀ w, (clockEdge l s).mayAct w = s.mayAct w)
      ∧ (∀ w, (clockEdge l s).isFrozen w = s.isFrozen w) := by
  have d := State.derived (s := clockEdge l s) (t := s)
  exact ⟨(d.2.2.1 (by simp)), (d.2.2.2.1 (by simp)).1, (d.2.2.2.1 (by simp)).2⟩

@[simp] theorem moveByte_frame (l : Link) (b : Byte) (s : State) :
    (moveByte l b s).policy = s.policy ∧ (moveByte l b s).tenants = s.tenants
      ∧ (moveByte l b s).display = s.display ∧ (moveByte l b s).printer = s.printer
      ∧ (moveByte l b s).air = s.air ∧ (moveByte l b s).lines = s.lines ∧ (moveByte l b s).pending = s.pending := by
  unfold moveByte; (try dsimp only); (repeat' split) <;> simp

@[simp] theorem moveByte_reads (l : Link) (b : Byte) (s : State) :
    (∀ w q, (moveByte l b s).policyOf w q = s.policyOf w q) ∧ (∀ w, (moveByte l b s).mayAct w = s.mayAct w)
      ∧ (∀ w, (moveByte l b s).isFrozen w = s.isFrozen w) := by
  have d := State.derived (s := moveByte l b s) (t := s)
  exact ⟨(d.2.2.1 (by simp)), (d.2.2.2.1 (by simp)).1, (d.2.2.2.1 (by simp)).2⟩

@[simp] theorem transferStart_frame (l : Link) (s : State) :
    (transferStart l s).clock = s.clock ∧ (transferStart l s).policy = s.policy
      ∧ (transferStart l s).tenants = s.tenants ∧ (transferStart l s).custody = s.custody
      ∧ (transferStart l s).keys = s.keys ∧ (transferStart l s).display = s.display
      ∧ (transferStart l s).printer = s.printer ∧ (transferStart l s).bridge = s.bridge
      ∧ (transferStart l s).air = s.air ∧ (transferStart l s).relay = s.relay
      ∧ (transferStart l s).lines = s.lines ∧ (transferStart l s).pending = s.pending := by
  unfold transferStart; (try dsimp only); (repeat' split) <;> simp

@[simp] theorem transferStart_reads (l : Link) (s : State) :
    (∀ q, (transferStart l s).entry q = s.entry q) ∧ (∀ q, (transferStart l s).holder q = s.holder q)
      ∧ (∀ w q, (transferStart l s).holds w q = s.holds w q)
      ∧ (∀ w q, (transferStart l s).policyOf w q = s.policyOf w q)
      ∧ (∀ w, (transferStart l s).mayAct w = s.mayAct w) ∧ (∀ w, (transferStart l s).isFrozen w = s.isFrozen w)
      ∧ (∀ d, (transferStart l s).channel d = s.channel d) ∧ (transferStart l s).running = s.running
      ∧ (transferStart l s).fastLocked = s.fastLocked := by
  have d := State.derived (s := transferStart l s) (t := s)
  exact ⟨(d.2.1 (by simp)).1, (d.2.1 (by simp)).2.1, (d.2.1 (by simp)).2.2, (d.2.2.1 (by simp)), (d.2.2.2.1 (by simp)).1, (d.2.2.2.1 (by simp)).2, (d.2.2.2.2.1 (by simp)), (d.2.2.2.2.2 (by simp)).1, (d.2.2.2.2.2 (by simp)).2⟩

@[simp] theorem truncateAtEnd_frame (l : Link) (s : State) :
    (truncateAtEnd l s).clock = s.clock ∧ (truncateAtEnd l s).policy = s.policy
      ∧ (truncateAtEnd l s).tenants = s.tenants ∧ (truncateAtEnd l s).custody = s.custody
      ∧ (truncateAtEnd l s).keys = s.keys ∧ (truncateAtEnd l s).display = s.display
      ∧ (truncateAtEnd l s).printer = s.printer ∧ (truncateAtEnd l s).bridge = s.bridge
      ∧ (truncateAtEnd l s).air = s.air ∧ (truncateAtEnd l s).relay = s.relay
      ∧ (truncateAtEnd l s).lines = s.lines ∧ (truncateAtEnd l s).pending = s.pending := by
  unfold truncateAtEnd; (try dsimp only); (repeat' split) <;> simp

@[simp] theorem truncateAtEnd_reads (l : Link) (s : State) :
    (∀ q, (truncateAtEnd l s).entry q = s.entry q) ∧ (∀ q, (truncateAtEnd l s).holder q = s.holder q)
      ∧ (∀ w q, (truncateAtEnd l s).holds w q = s.holds w q)
      ∧ (∀ w q, (truncateAtEnd l s).policyOf w q = s.policyOf w q)
      ∧ (∀ w, (truncateAtEnd l s).mayAct w = s.mayAct w) ∧ (∀ w, (truncateAtEnd l s).isFrozen w = s.isFrozen w)
      ∧ (∀ d, (truncateAtEnd l s).channel d = s.channel d) ∧ (truncateAtEnd l s).running = s.running
      ∧ (truncateAtEnd l s).fastLocked = s.fastLocked := by
  have d := State.derived (s := truncateAtEnd l s) (t := s)
  exact ⟨(d.2.1 (by simp)).1, (d.2.1 (by simp)).2.1, (d.2.1 (by simp)).2.2, (d.2.2.1 (by simp)), (d.2.2.2.1 (by simp)).1, (d.2.2.2.1 (by simp)).2, (d.2.2.2.2.1 (by simp)), (d.2.2.2.2.2 (by simp)).1, (d.2.2.2.2.2 (by simp)).2⟩

@[simp] theorem arrive_frame (l : Link) (arrival : Arrival) (s : State) :
    (arrive l arrival s).policy = s.policy ∧ (arrive l arrival s).tenants = s.tenants
      ∧ (arrive l arrival s).display = s.display ∧ (arrive l arrival s).printer = s.printer
      ∧ (arrive l arrival s).air = s.air ∧ (arrive l arrival s).lines = s.lines
      ∧ (arrive l arrival s).pending = s.pending := by
  unfold arrive; (try dsimp only); (repeat' split) <;> simp

@[simp] theorem arrive_reads (l : Link) (arrival : Arrival) (s : State) :
    (∀ w q, (arrive l arrival s).policyOf w q = s.policyOf w q)
      ∧ (∀ w, (arrive l arrival s).mayAct w = s.mayAct w)
      ∧ (∀ w, (arrive l arrival s).isFrozen w = s.isFrozen w) := by
  have d := State.derived (s := arrive l arrival s) (t := s)
  exact ⟨(d.2.2.1 (by simp)), (d.2.2.2.1 (by simp)).1, (d.2.2.2.1 (by simp)).2⟩

@[simp] theorem transferEnd_frame (l : Link) (s : State) :
    (transferEnd l s).policy = s.policy ∧ (transferEnd l s).tenants = s.tenants
      ∧ (transferEnd l s).display = s.display ∧ (transferEnd l s).printer = s.printer
      ∧ (transferEnd l s).air = s.air ∧ (transferEnd l s).relay = s.relay ∧ (transferEnd l s).lines = s.lines
      ∧ (transferEnd l s).pending = s.pending := by
  unfold transferEnd; (try dsimp only); (repeat' split) <;> simp

@[simp] theorem transferEnd_reads (l : Link) (s : State) :
    (∀ w q, (transferEnd l s).policyOf w q = s.policyOf w q) ∧ (∀ w, (transferEnd l s).mayAct w = s.mayAct w)
      ∧ (∀ w, (transferEnd l s).isFrozen w = s.isFrozen w) ∧ (∀ d, (transferEnd l s).channel d = s.channel d) := by
  have d := State.derived (s := transferEnd l s) (t := s)
  exact ⟨(d.2.2.1 (by simp)), (d.2.2.2.1 (by simp)).1, (d.2.2.2.1 (by simp)).2, (d.2.2.2.2.1 (by simp))⟩

@[simp] theorem placeReply_frame (l : Link) (f : Frame) (s : State) :
    (placeReply l f s).clock = s.clock ∧ (placeReply l f s).policy = s.policy
      ∧ (placeReply l f s).tenants = s.tenants ∧ (placeReply l f s).custody = s.custody
      ∧ (placeReply l f s).keys = s.keys ∧ (placeReply l f s).display = s.display
      ∧ (placeReply l f s).printer = s.printer ∧ (placeReply l f s).bridge = s.bridge
      ∧ (placeReply l f s).air = s.air ∧ (placeReply l f s).relay = s.relay
      ∧ (placeReply l f s).lines = s.lines ∧ (placeReply l f s).pending = s.pending := by
  unfold placeReply; (try dsimp only); (repeat' split) <;> simp

@[simp] theorem placeReply_reads (l : Link) (f : Frame) (s : State) :
    (∀ q, (placeReply l f s).entry q = s.entry q) ∧ (∀ q, (placeReply l f s).holder q = s.holder q)
      ∧ (∀ w q, (placeReply l f s).holds w q = s.holds w q)
      ∧ (∀ w q, (placeReply l f s).policyOf w q = s.policyOf w q)
      ∧ (∀ w, (placeReply l f s).mayAct w = s.mayAct w) ∧ (∀ w, (placeReply l f s).isFrozen w = s.isFrozen w)
      ∧ (∀ d, (placeReply l f s).channel d = s.channel d) ∧ (placeReply l f s).running = s.running
      ∧ (placeReply l f s).fastLocked = s.fastLocked := by
  have d := State.derived (s := placeReply l f s) (t := s)
  exact ⟨(d.2.1 (by simp)).1, (d.2.1 (by simp)).2.1, (d.2.1 (by simp)).2.2, (d.2.2.1 (by simp)), (d.2.2.2.1 (by simp)).1, (d.2.2.2.1 (by simp)).2, (d.2.2.2.2.1 (by simp)), (d.2.2.2.2.2 (by simp)).1, (d.2.2.2.2.2 (by simp)).2⟩

@[simp] theorem dropOldest_frame (l : Link) (s : State) :
    (dropOldest l s).clock = s.clock ∧ (dropOldest l s).policy = s.policy
      ∧ (dropOldest l s).tenants = s.tenants ∧ (dropOldest l s).custody = s.custody
      ∧ (dropOldest l s).keys = s.keys ∧ (dropOldest l s).display = s.display
      ∧ (dropOldest l s).printer = s.printer ∧ (dropOldest l s).bridge = s.bridge
      ∧ (dropOldest l s).air = s.air ∧ (dropOldest l s).relay = s.relay ∧ (dropOldest l s).lines = s.lines
      ∧ (dropOldest l s).pending = s.pending := by
  unfold dropOldest; (try dsimp only); (repeat' split) <;> simp

@[simp] theorem dropOldest_reads (l : Link) (s : State) :
    (∀ q, (dropOldest l s).entry q = s.entry q) ∧ (∀ q, (dropOldest l s).holder q = s.holder q)
      ∧ (∀ w q, (dropOldest l s).holds w q = s.holds w q)
      ∧ (∀ w q, (dropOldest l s).policyOf w q = s.policyOf w q) ∧ (∀ w, (dropOldest l s).mayAct w = s.mayAct w)
      ∧ (∀ w, (dropOldest l s).isFrozen w = s.isFrozen w) ∧ (∀ d, (dropOldest l s).channel d = s.channel d)
      ∧ (dropOldest l s).running = s.running ∧ (dropOldest l s).fastLocked = s.fastLocked := by
  have d := State.derived (s := dropOldest l s) (t := s)
  exact ⟨(d.2.1 (by simp)).1, (d.2.1 (by simp)).2.1, (d.2.1 (by simp)).2.2, (d.2.2.1 (by simp)), (d.2.2.2.1 (by simp)).1, (d.2.2.2.1 (by simp)).2, (d.2.2.2.2.1 (by simp)), (d.2.2.2.2.2 (by simp)).1, (d.2.2.2.2.2 (by simp)).2⟩

end Sys2Proof.Machine
end

