-- ==== Sys2Proof/Laws/Handlers.lean ====
section
/-! SUPPORT. For each request's handler, the blocks it leaves as they stand, and what processing a frame does
around the handler. -/

namespace Sys2Proof.Machine

-- Its many small proofs are elaborated one after another, so that they take few threads.
set_option Elab.async false

/-- A refusal changes nothing. -/
@[simp] theorem refuse_fst (c : ReplyCode) (s : State) : (refuse c s).1 = s := rfl

@[simp] theorem claimFree_frame (c : ClaimTerms) (s : State) :
    ((claimFree c s).1).clock = s.clock ∧ ((claimFree c s).1).policy = s.policy
      ∧ ((claimFree c s).1).tenants = s.tenants ∧ ((claimFree c s).1).relay = s.relay
      ∧ ((claimFree c s).1).lines = s.lines ∧ ((claimFree c s).1).pending = s.pending := by
  unfold claimFree takeArrival; dsimp only; split <;> simp

@[simp] theorem claimQueue_frame (c : ClaimTerms) (s : State) :
    ((claimQueue c s).1).clock = s.clock ∧ ((claimQueue c s).1).policy = s.policy
      ∧ ((claimQueue c s).1).tenants = s.tenants ∧ ((claimQueue c s).1).keys = s.keys
      ∧ ((claimQueue c s).1).printer = s.printer ∧ ((claimQueue c s).1).bridge = s.bridge
      ∧ ((claimQueue c s).1).air = s.air ∧ ((claimQueue c s).1).relay = s.relay
      ∧ ((claimQueue c s).1).lines = s.lines ∧ ((claimQueue c s).1).pending = s.pending := by
  unfold claimQueue takeArrival; dsimp only; simp

@[simp] theorem claimPreempt_frame (c : ClaimTerms) (g : Grant) (s : State) :
    ((claimPreempt c g s).1).clock = s.clock ∧ ((claimPreempt c g s).1).policy = s.policy
      ∧ ((claimPreempt c g s).1).tenants = s.tenants ∧ ((claimPreempt c g s).1).relay = s.relay
      ∧ ((claimPreempt c g s).1).lines = s.lines ∧ ((claimPreempt c g s).1).pending = s.pending := by
  unfold claimPreempt takeArrival; dsimp only; simp

@[simp] theorem claimTaken_frame (c : ClaimTerms) (s : State) :
    ((claimTaken c s).1).clock = s.clock ∧ ((claimTaken c s).1).policy = s.policy
      ∧ ((claimTaken c s).1).tenants = s.tenants ∧ ((claimTaken c s).1).relay = s.relay
      ∧ ((claimTaken c s).1).lines = s.lines ∧ ((claimTaken c s).1).pending = s.pending := by
  unfold claimTaken; (try dsimp only); (repeat' split) <;> simp

@[simp] theorem decideClaim_frame (c : ClaimTerms) (s : State) :
    ((decideClaim c s).1).clock = s.clock ∧ ((decideClaim c s).1).policy = s.policy
      ∧ ((decideClaim c s).1).tenants = s.tenants ∧ ((decideClaim c s).1).relay = s.relay
      ∧ ((decideClaim c s).1).lines = s.lines ∧ ((decideClaim c s).1).pending = s.pending := by
  unfold decideClaim; (try dsimp only); (repeat' split) <;> simp

@[simp] theorem restartLink_frame (l : Link) (s : State) :
    (restartLink l s).policy = s.policy ∧ (restartLink l s).tenants = s.tenants
      ∧ (restartLink l s).custody = s.custody ∧ (restartLink l s).keys = s.keys
      ∧ (restartLink l s).display = s.display ∧ (restartLink l s).printer = s.printer
      ∧ (restartLink l s).air = s.air ∧ (restartLink l s).relay = s.relay ∧ (restartLink l s).lines = s.lines
      ∧ (restartLink l s).pending = s.pending := by
  unfold restartLink; dsimp only; split <;> simp

@[simp] theorem restartEntry_frame (l : Link) (r : Resource) (s : State) :
    (restartEntry l s r).clock = s.clock ∧ (restartEntry l s r).policy = s.policy
      ∧ (restartEntry l s r).tenants = s.tenants ∧ (restartEntry l s r).relay = s.relay
      ∧ (restartEntry l s r).lines = s.lines ∧ (restartEntry l s r).pending = s.pending := by
  unfold restartEntry; (try dsimp only); (repeat' split) <;> simp

@[simp] theorem restartCustody_frame (l : Link) (s : State) :
    (restartCustody l s).clock = s.clock ∧ (restartCustody l s).policy = s.policy
      ∧ (restartCustody l s).tenants = s.tenants ∧ (restartCustody l s).relay = s.relay
      ∧ (restartCustody l s).lines = s.lines ∧ (restartCustody l s).pending = s.pending := by
  unfold restartCustody allResources; split <;> simp only [List.foldl_cons, List.foldl_nil, restartEntry_frame, and_self]

@[simp] theorem restartRelay_frame (l : Link) (before : State) (s : State) :
    (restartRelay l before s).clock = s.clock ∧ (restartRelay l before s).policy = s.policy
      ∧ (restartRelay l before s).tenants = s.tenants ∧ (restartRelay l before s).custody = s.custody
      ∧ (restartRelay l before s).keys = s.keys ∧ (restartRelay l before s).display = s.display
      ∧ (restartRelay l before s).printer = s.printer ∧ (restartRelay l before s).bridge = s.bridge
      ∧ (restartRelay l before s).air = s.air ∧ (restartRelay l before s).lines = s.lines
      ∧ (restartRelay l before s).pending = s.pending := by
  unfold restartRelay; split
  · exact ⟨foldl_keeps (fun x : State => x.clock) _ (fun _ _ => by simp) _ _, foldl_keeps (fun x : State => x.policy) _ (fun _ _ => by simp) _ _, foldl_keeps (fun x : State => x.tenants) _ (fun _ _ => by simp) _ _, foldl_keeps (fun x : State => x.custody) _ (fun _ _ => by simp) _ _, foldl_keeps (fun x : State => x.keys) _ (fun _ _ => by simp) _ _, foldl_keeps (fun x : State => x.display) _ (fun _ _ => by simp) _ _, foldl_keeps (fun x : State => x.printer) _ (fun _ _ => by simp) _ _, foldl_keeps (fun x : State => x.bridge) _ (fun _ _ => by simp) _ _, foldl_keeps (fun x : State => x.air) _ (fun _ _ => by simp) _ _, foldl_keeps (fun x : State => x.lines) _ (fun _ _ => by simp) _ _, foldl_keeps (fun x : State => x.pending) _ (fun _ _ => by simp) _ _⟩
  · exact ⟨foldl_keeps (fun x : State => x.clock) _ (fun _ _ => by simp) _ _, foldl_keeps (fun x : State => x.policy) _ (fun _ _ => by simp) _ _, foldl_keeps (fun x : State => x.tenants) _ (fun _ _ => by simp) _ _, foldl_keeps (fun x : State => x.custody) _ (fun _ _ => by simp) _ _, foldl_keeps (fun x : State => x.keys) _ (fun _ _ => by simp) _ _, foldl_keeps (fun x : State => x.display) _ (fun _ _ => by simp) _ _, foldl_keeps (fun x : State => x.printer) _ (fun _ _ => by simp) _ _, foldl_keeps (fun x : State => x.bridge) _ (fun _ _ => by simp) _ _, foldl_keeps (fun x : State => x.air) _ (fun _ _ => by simp) _ _, foldl_keeps (fun x : State => x.lines) _ (fun _ _ => by simp) _ _, foldl_keeps (fun x : State => x.pending) _ (fun _ _ => by simp) _ _⟩

@[simp] theorem restartAir_frame (l : Link) (s : State) :
    (restartAir l s).clock = s.clock ∧ (restartAir l s).ports = s.ports ∧ (restartAir l s).policy = s.policy
      ∧ (restartAir l s).tenants = s.tenants ∧ (restartAir l s).custody = s.custody
      ∧ (restartAir l s).keys = s.keys ∧ (restartAir l s).display = s.display
      ∧ (restartAir l s).printer = s.printer ∧ (restartAir l s).relay = s.relay
      ∧ (restartAir l s).lines = s.lines ∧ (restartAir l s).pending = s.pending := by
  unfold restartAir; split <;> simp

@[simp] theorem armExchange_frame (who : Subject) (expected timeout : Nat) (command : List Byte) (s : State) :
    (armExchange who expected timeout command s).clock = s.clock
      ∧ (armExchange who expected timeout command s).policy = s.policy
      ∧ (armExchange who expected timeout command s).tenants = s.tenants
      ∧ (armExchange who expected timeout command s).custody = s.custody
      ∧ (armExchange who expected timeout command s).keys = s.keys
      ∧ (armExchange who expected timeout command s).display = s.display
      ∧ (armExchange who expected timeout command s).printer = s.printer
      ∧ (armExchange who expected timeout command s).relay = s.relay
      ∧ (armExchange who expected timeout command s).lines = s.lines
      ∧ (armExchange who expected timeout command s).pending = s.pending := by
  simp [armExchange]

@[simp] theorem tenantEffects_frame (t : Fin 16) (old new : TenantState) (s : State) :
    (tenantEffects t old new s).clock = s.clock ∧ (tenantEffects t old new s).policy = s.policy
      ∧ (tenantEffects t old new s).tenants = s.tenants ∧ (tenantEffects t old new s).lines = s.lines
      ∧ (tenantEffects t old new s).pending = s.pending := by
  have h : ∀ u : State, (allChannels.foldl (retireChannel t) u).clock = u.clock ∧ (allChannels.foldl (retireChannel t) u).policy = u.policy ∧ (allChannels.foldl (retireChannel t) u).tenants = u.tenants ∧ (allChannels.foldl (retireChannel t) u).lines = u.lines ∧ (allChannels.foldl (retireChannel t) u).pending = u.pending := fun u =>
    ⟨foldl_keeps (fun x : State => x.clock) _ (fun _ _ => by simp) _ _, foldl_keeps (fun x : State => x.policy) _ (fun _ _ => by simp) _ _, foldl_keeps (fun x : State => x.tenants) _ (fun _ _ => by simp) _ _, foldl_keeps (fun x : State => x.lines) _ (fun _ _ => by simp) _ _, foldl_keeps (fun x : State => x.pending) _ (fun _ _ => by simp) _ _⟩
  unfold tenantEffects; (try dsimp only); (repeat' split) <;> simp [h]

@[simp] theorem bindChannel_frame (c : Fin 32) (b : Binding) (s : State) :
    (bindChannel c b s).clock = s.clock ∧ (bindChannel c b s).policy = s.policy
      ∧ (bindChannel c b s).tenants = s.tenants ∧ (bindChannel c b s).custody = s.custody
      ∧ (bindChannel c b s).keys = s.keys ∧ (bindChannel c b s).display = s.display
      ∧ (bindChannel c b s).printer = s.printer ∧ (bindChannel c b s).bridge = s.bridge
      ∧ (bindChannel c b s).air = s.air ∧ (bindChannel c b s).lines = s.lines
      ∧ (bindChannel c b s).pending = s.pending := by
  simp [bindChannel]

@[simp] theorem timeHandler_frame (l : Link) (w : Subject) (b : List Byte) (s : State) :
    (timeHandler l w b s).1.clock = s.clock ∧ (timeHandler l w b s).1.ports = s.ports
      ∧ (timeHandler l w b s).1.policy = s.policy ∧ (timeHandler l w b s).1.tenants = s.tenants
      ∧ (timeHandler l w b s).1.custody = s.custody ∧ (timeHandler l w b s).1.keys = s.keys
      ∧ (timeHandler l w b s).1.display = s.display ∧ (timeHandler l w b s).1.printer = s.printer
      ∧ (timeHandler l w b s).1.bridge = s.bridge ∧ (timeHandler l w b s).1.air = s.air
      ∧ (timeHandler l w b s).1.relay = s.relay ∧ (timeHandler l w b s).1.lines = s.lines
      ∧ (timeHandler l w b s).1.pending = s.pending := by
  unfold timeHandler; (try dsimp only); (repeat' split) <;> simp

@[simp] theorem conditionsHandler_frame (l : Link) (w : Subject) (b : List Byte) (s : State) :
    (conditionsHandler l w b s).1.clock = s.clock ∧ (conditionsHandler l w b s).1.policy = s.policy
      ∧ (conditionsHandler l w b s).1.tenants = s.tenants ∧ (conditionsHandler l w b s).1.custody = s.custody
      ∧ (conditionsHandler l w b s).1.keys = s.keys ∧ (conditionsHandler l w b s).1.display = s.display
      ∧ (conditionsHandler l w b s).1.printer = s.printer ∧ (conditionsHandler l w b s).1.bridge = s.bridge
      ∧ (conditionsHandler l w b s).1.air = s.air ∧ (conditionsHandler l w b s).1.relay = s.relay
      ∧ (conditionsHandler l w b s).1.lines = s.lines ∧ (conditionsHandler l w b s).1.pending = s.pending := by
  unfold conditionsHandler; (try dsimp only); (repeat' split) <;> simp

@[simp] theorem conditionsEnableHandler_frame (l : Link) (w : Subject) (b : List Byte) (s : State) :
    (conditionsEnableHandler l w b s).1.clock = s.clock ∧ (conditionsEnableHandler l w b s).1.policy = s.policy
      ∧ (conditionsEnableHandler l w b s).1.tenants = s.tenants
      ∧ (conditionsEnableHandler l w b s).1.custody = s.custody
      ∧ (conditionsEnableHandler l w b s).1.keys = s.keys
      ∧ (conditionsEnableHandler l w b s).1.display = s.display
      ∧ (conditionsEnableHandler l w b s).1.printer = s.printer
      ∧ (conditionsEnableHandler l w b s).1.bridge = s.bridge ∧ (conditionsEnableHandler l w b s).1.air = s.air
      ∧ (conditionsEnableHandler l w b s).1.relay = s.relay
      ∧ (conditionsEnableHandler l w b s).1.lines = s.lines
      ∧ (conditionsEnableHandler l w b s).1.pending = s.pending := by
  unfold conditionsEnableHandler; (try dsimp only); (repeat' split) <;> simp

@[simp] theorem policySetHandler_frame (l : Link) (w : Subject) (b : List Byte) (s : State) :
    (policySetHandler l w b s).1.clock = s.clock ∧ (policySetHandler l w b s).1.tenants = s.tenants
      ∧ (policySetHandler l w b s).1.relay = s.relay ∧ (policySetHandler l w b s).1.lines = s.lines
      ∧ (policySetHandler l w b s).1.pending = s.pending := by
  unfold policySetHandler; (try dsimp only); (repeat' split) <;> simp

@[simp] theorem policyGetHandler_frame (l : Link) (w : Subject) (b : List Byte) (s : State) :
    (policyGetHandler l w b s).1.clock = s.clock ∧ (policyGetHandler l w b s).1.ports = s.ports
      ∧ (policyGetHandler l w b s).1.policy = s.policy ∧ (policyGetHandler l w b s).1.tenants = s.tenants
      ∧ (policyGetHandler l w b s).1.custody = s.custody ∧ (policyGetHandler l w b s).1.keys = s.keys
      ∧ (policyGetHandler l w b s).1.display = s.display ∧ (policyGetHandler l w b s).1.printer = s.printer
      ∧ (policyGetHandler l w b s).1.bridge = s.bridge ∧ (policyGetHandler l w b s).1.air = s.air
      ∧ (policyGetHandler l w b s).1.relay = s.relay ∧ (policyGetHandler l w b s).1.lines = s.lines
      ∧ (policyGetHandler l w b s).1.pending = s.pending := by
  unfold policyGetHandler; (try dsimp only); (repeat' split) <;> simp

@[simp] theorem tenantSetHandler_frame (l : Link) (w : Subject) (b : List Byte) (s : State) :
    (tenantSetHandler l w b s).1.clock = s.clock ∧ (tenantSetHandler l w b s).1.policy = s.policy
      ∧ (tenantSetHandler l w b s).1.lines = s.lines ∧ (tenantSetHandler l w b s).1.pending = s.pending := by
  unfold tenantSetHandler; (try dsimp only); (repeat' split) <;> simp

@[simp] theorem tenantGetHandler_frame (l : Link) (w : Subject) (b : List Byte) (s : State) :
    (tenantGetHandler l w b s).1.clock = s.clock ∧ (tenantGetHandler l w b s).1.ports = s.ports
      ∧ (tenantGetHandler l w b s).1.policy = s.policy ∧ (tenantGetHandler l w b s).1.tenants = s.tenants
      ∧ (tenantGetHandler l w b s).1.custody = s.custody ∧ (tenantGetHandler l w b s).1.keys = s.keys
      ∧ (tenantGetHandler l w b s).1.display = s.display ∧ (tenantGetHandler l w b s).1.printer = s.printer
      ∧ (tenantGetHandler l w b s).1.bridge = s.bridge ∧ (tenantGetHandler l w b s).1.air = s.air
      ∧ (tenantGetHandler l w b s).1.relay = s.relay ∧ (tenantGetHandler l w b s).1.lines = s.lines
      ∧ (tenantGetHandler l w b s).1.pending = s.pending := by
  unfold tenantGetHandler; (try dsimp only); (repeat' split) <;> simp

@[simp] theorem releaseHandler_frame (l : Link) (w : Subject) (b : List Byte) (s : State) :
    (releaseHandler l w b s).1.clock = s.clock ∧ (releaseHandler l w b s).1.policy = s.policy
      ∧ (releaseHandler l w b s).1.tenants = s.tenants ∧ (releaseHandler l w b s).1.relay = s.relay
      ∧ (releaseHandler l w b s).1.lines = s.lines ∧ (releaseHandler l w b s).1.pending = s.pending := by
  unfold releaseHandler; (try dsimp only); (repeat' split) <;> simp

@[simp] theorem withdrawHandler_frame (l : Link) (w : Subject) (b : List Byte) (s : State) :
    (withdrawHandler l w b s).1.clock = s.clock ∧ (withdrawHandler l w b s).1.policy = s.policy
      ∧ (withdrawHandler l w b s).1.tenants = s.tenants ∧ (withdrawHandler l w b s).1.keys = s.keys
      ∧ (withdrawHandler l w b s).1.printer = s.printer ∧ (withdrawHandler l w b s).1.bridge = s.bridge
      ∧ (withdrawHandler l w b s).1.air = s.air ∧ (withdrawHandler l w b s).1.relay = s.relay
      ∧ (withdrawHandler l w b s).1.lines = s.lines ∧ (withdrawHandler l w b s).1.pending = s.pending := by
  unfold withdrawHandler; (try dsimp only); (repeat' split) <;> simp

@[simp] theorem custodyQueryHandler_frame (l : Link) (w : Subject) (b : List Byte) (s : State) :
    (custodyQueryHandler l w b s).1.clock = s.clock ∧ (custodyQueryHandler l w b s).1.ports = s.ports
      ∧ (custodyQueryHandler l w b s).1.policy = s.policy ∧ (custodyQueryHandler l w b s).1.tenants = s.tenants
      ∧ (custodyQueryHandler l w b s).1.custody = s.custody ∧ (custodyQueryHandler l w b s).1.keys = s.keys
      ∧ (custodyQueryHandler l w b s).1.display = s.display
      ∧ (custodyQueryHandler l w b s).1.printer = s.printer ∧ (custodyQueryHandler l w b s).1.bridge = s.bridge
      ∧ (custodyQueryHandler l w b s).1.air = s.air ∧ (custodyQueryHandler l w b s).1.relay = s.relay
      ∧ (custodyQueryHandler l w b s).1.lines = s.lines ∧ (custodyQueryHandler l w b s).1.pending = s.pending := by
  unfold custodyQueryHandler; (try dsimp only); (repeat' split) <;> simp

@[simp] theorem renewHandler_frame (l : Link) (w : Subject) (b : List Byte) (s : State) :
    (renewHandler l w b s).1.clock = s.clock ∧ (renewHandler l w b s).1.ports = s.ports
      ∧ (renewHandler l w b s).1.policy = s.policy ∧ (renewHandler l w b s).1.tenants = s.tenants
      ∧ (renewHandler l w b s).1.keys = s.keys ∧ (renewHandler l w b s).1.display = s.display
      ∧ (renewHandler l w b s).1.printer = s.printer ∧ (renewHandler l w b s).1.bridge = s.bridge
      ∧ (renewHandler l w b s).1.air = s.air ∧ (renewHandler l w b s).1.relay = s.relay
      ∧ (renewHandler l w b s).1.lines = s.lines ∧ (renewHandler l w b s).1.pending = s.pending := by
  unfold renewHandler; (try dsimp only); (repeat' split) <;> simp

@[simp] theorem setGrainHandler_frame (l : Link) (w : Subject) (b : List Byte) (s : State) :
    (setGrainHandler l w b s).1.clock = s.clock ∧ (setGrainHandler l w b s).1.ports = s.ports
      ∧ (setGrainHandler l w b s).1.policy = s.policy ∧ (setGrainHandler l w b s).1.tenants = s.tenants
      ∧ (setGrainHandler l w b s).1.keys = s.keys ∧ (setGrainHandler l w b s).1.display = s.display
      ∧ (setGrainHandler l w b s).1.printer = s.printer ∧ (setGrainHandler l w b s).1.bridge = s.bridge
      ∧ (setGrainHandler l w b s).1.air = s.air ∧ (setGrainHandler l w b s).1.relay = s.relay
      ∧ (setGrainHandler l w b s).1.lines = s.lines ∧ (setGrainHandler l w b s).1.pending = s.pending := by
  unfold setGrainHandler; (try dsimp only); (repeat' split) <;> simp

@[simp] theorem holdHandler_frame (l : Link) (w : Subject) (b : List Byte) (s : State) :
    (holdHandler l w b s).1.clock = s.clock ∧ (holdHandler l w b s).1.ports = s.ports
      ∧ (holdHandler l w b s).1.policy = s.policy ∧ (holdHandler l w b s).1.tenants = s.tenants
      ∧ (holdHandler l w b s).1.keys = s.keys ∧ (holdHandler l w b s).1.display = s.display
      ∧ (holdHandler l w b s).1.printer = s.printer ∧ (holdHandler l w b s).1.bridge = s.bridge
      ∧ (holdHandler l w b s).1.air = s.air ∧ (holdHandler l w b s).1.relay = s.relay
      ∧ (holdHandler l w b s).1.lines = s.lines ∧ (holdHandler l w b s).1.pending = s.pending := by
  unfold holdHandler; (try dsimp only); (repeat' split) <;> simp

@[simp] theorem resumeHandler_frame (l : Link) (w : Subject) (b : List Byte) (s : State) :
    (resumeHandler l w b s).1.clock = s.clock ∧ (resumeHandler l w b s).1.ports = s.ports
      ∧ (resumeHandler l w b s).1.policy = s.policy ∧ (resumeHandler l w b s).1.tenants = s.tenants
      ∧ (resumeHandler l w b s).1.keys = s.keys ∧ (resumeHandler l w b s).1.display = s.display
      ∧ (resumeHandler l w b s).1.printer = s.printer ∧ (resumeHandler l w b s).1.bridge = s.bridge
      ∧ (resumeHandler l w b s).1.air = s.air ∧ (resumeHandler l w b s).1.relay = s.relay
      ∧ (resumeHandler l w b s).1.lines = s.lines ∧ (resumeHandler l w b s).1.pending = s.pending := by
  unfold resumeHandler; (try dsimp only); (repeat' split) <;> simp

@[simp] theorem keySetupHandler_frame (l : Link) (w : Subject) (b : List Byte) (s : State) :
    (keySetupHandler l w b s).1.clock = s.clock ∧ (keySetupHandler l w b s).1.ports = s.ports
      ∧ (keySetupHandler l w b s).1.policy = s.policy ∧ (keySetupHandler l w b s).1.tenants = s.tenants
      ∧ (keySetupHandler l w b s).1.custody = s.custody ∧ (keySetupHandler l w b s).1.display = s.display
      ∧ (keySetupHandler l w b s).1.printer = s.printer ∧ (keySetupHandler l w b s).1.bridge = s.bridge
      ∧ (keySetupHandler l w b s).1.air = s.air ∧ (keySetupHandler l w b s).1.relay = s.relay
      ∧ (keySetupHandler l w b s).1.lines = s.lines ∧ (keySetupHandler l w b s).1.pending = s.pending := by
  unfold keySetupHandler; (try dsimp only); (repeat' split) <;> simp

@[simp] theorem matchSetupHandler_frame (l : Link) (w : Subject) (b : List Byte) (s : State) :
    (matchSetupHandler l w b s).1.clock = s.clock ∧ (matchSetupHandler l w b s).1.ports = s.ports
      ∧ (matchSetupHandler l w b s).1.policy = s.policy ∧ (matchSetupHandler l w b s).1.tenants = s.tenants
      ∧ (matchSetupHandler l w b s).1.custody = s.custody ∧ (matchSetupHandler l w b s).1.display = s.display
      ∧ (matchSetupHandler l w b s).1.printer = s.printer ∧ (matchSetupHandler l w b s).1.bridge = s.bridge
      ∧ (matchSetupHandler l w b s).1.air = s.air ∧ (matchSetupHandler l w b s).1.relay = s.relay
      ∧ (matchSetupHandler l w b s).1.lines = s.lines ∧ (matchSetupHandler l w b s).1.pending = s.pending := by
  unfold matchSetupHandler; (try dsimp only); (repeat' split) <;> simp

@[simp] theorem printHandler_frame (l : Link) (w : Subject) (b : List Byte) (s : State) :
    (printHandler l w b s).1.clock = s.clock ∧ (printHandler l w b s).1.ports = s.ports
      ∧ (printHandler l w b s).1.policy = s.policy ∧ (printHandler l w b s).1.tenants = s.tenants
      ∧ (printHandler l w b s).1.custody = s.custody ∧ (printHandler l w b s).1.keys = s.keys
      ∧ (printHandler l w b s).1.display = s.display ∧ (printHandler l w b s).1.bridge = s.bridge
      ∧ (printHandler l w b s).1.air = s.air ∧ (printHandler l w b s).1.relay = s.relay
      ∧ (printHandler l w b s).1.lines = s.lines ∧ (printHandler l w b s).1.pending = s.pending := by
  unfold printHandler; (try dsimp only); (repeat' split) <;> simp

@[simp] theorem printFlushHandler_frame (l : Link) (w : Subject) (b : List Byte) (s : State) :
    (printFlushHandler l w b s).1.clock = s.clock ∧ (printFlushHandler l w b s).1.policy = s.policy
      ∧ (printFlushHandler l w b s).1.tenants = s.tenants ∧ (printFlushHandler l w b s).1.keys = s.keys
      ∧ (printFlushHandler l w b s).1.display = s.display ∧ (printFlushHandler l w b s).1.bridge = s.bridge
      ∧ (printFlushHandler l w b s).1.air = s.air ∧ (printFlushHandler l w b s).1.relay = s.relay
      ∧ (printFlushHandler l w b s).1.lines = s.lines ∧ (printFlushHandler l w b s).1.pending = s.pending := by
  unfold printFlushHandler; (try dsimp only); (repeat' split) <;> simp

@[simp] theorem printSetupHandler_frame (l : Link) (w : Subject) (b : List Byte) (s : State) :
    (printSetupHandler l w b s).1.clock = s.clock ∧ (printSetupHandler l w b s).1.ports = s.ports
      ∧ (printSetupHandler l w b s).1.policy = s.policy ∧ (printSetupHandler l w b s).1.tenants = s.tenants
      ∧ (printSetupHandler l w b s).1.custody = s.custody ∧ (printSetupHandler l w b s).1.keys = s.keys
      ∧ (printSetupHandler l w b s).1.display = s.display ∧ (printSetupHandler l w b s).1.bridge = s.bridge
      ∧ (printSetupHandler l w b s).1.air = s.air ∧ (printSetupHandler l w b s).1.relay = s.relay
      ∧ (printSetupHandler l w b s).1.lines = s.lines ∧ (printSetupHandler l w b s).1.pending = s.pending := by
  unfold printSetupHandler; (try dsimp only); (repeat' split) <;> simp

@[simp] theorem clExchangeHandler_frame (l : Link) (w : Subject) (b : List Byte) (s : State) :
    (clExchangeHandler l w b s).1.clock = s.clock ∧ (clExchangeHandler l w b s).1.policy = s.policy
      ∧ (clExchangeHandler l w b s).1.tenants = s.tenants ∧ (clExchangeHandler l w b s).1.custody = s.custody
      ∧ (clExchangeHandler l w b s).1.keys = s.keys ∧ (clExchangeHandler l w b s).1.display = s.display
      ∧ (clExchangeHandler l w b s).1.printer = s.printer ∧ (clExchangeHandler l w b s).1.relay = s.relay
      ∧ (clExchangeHandler l w b s).1.lines = s.lines ∧ (clExchangeHandler l w b s).1.pending = s.pending := by
  unfold clExchangeHandler; (try dsimp only); (repeat' split) <;> simp

@[simp] theorem clSetupHandler_frame (l : Link) (w : Subject) (b : List Byte) (s : State) :
    (clSetupHandler l w b s).1.clock = s.clock ∧ (clSetupHandler l w b s).1.ports = s.ports
      ∧ (clSetupHandler l w b s).1.policy = s.policy ∧ (clSetupHandler l w b s).1.tenants = s.tenants
      ∧ (clSetupHandler l w b s).1.custody = s.custody ∧ (clSetupHandler l w b s).1.keys = s.keys
      ∧ (clSetupHandler l w b s).1.display = s.display ∧ (clSetupHandler l w b s).1.printer = s.printer
      ∧ (clSetupHandler l w b s).1.air = s.air ∧ (clSetupHandler l w b s).1.relay = s.relay
      ∧ (clSetupHandler l w b s).1.lines = s.lines ∧ (clSetupHandler l w b s).1.pending = s.pending := by
  unfold clSetupHandler; (try dsimp only); (repeat' split) <;> simp

@[simp] theorem airMapHandler_frame (l : Link) (w : Subject) (b : List Byte) (s : State) :
    (airMapHandler l w b s).1.clock = s.clock ∧ (airMapHandler l w b s).1.ports = s.ports
      ∧ (airMapHandler l w b s).1.policy = s.policy ∧ (airMapHandler l w b s).1.tenants = s.tenants
      ∧ (airMapHandler l w b s).1.custody = s.custody ∧ (airMapHandler l w b s).1.keys = s.keys
      ∧ (airMapHandler l w b s).1.display = s.display ∧ (airMapHandler l w b s).1.printer = s.printer
      ∧ (airMapHandler l w b s).1.bridge = s.bridge ∧ (airMapHandler l w b s).1.relay = s.relay
      ∧ (airMapHandler l w b s).1.lines = s.lines ∧ (airMapHandler l w b s).1.pending = s.pending := by
  unfold airMapHandler; (try dsimp only); (repeat' split) <;> simp

@[simp] theorem airQueryHandler_frame (l : Link) (w : Subject) (b : List Byte) (s : State) :
    (airQueryHandler l w b s).1.clock = s.clock ∧ (airQueryHandler l w b s).1.ports = s.ports
      ∧ (airQueryHandler l w b s).1.policy = s.policy ∧ (airQueryHandler l w b s).1.tenants = s.tenants
      ∧ (airQueryHandler l w b s).1.custody = s.custody ∧ (airQueryHandler l w b s).1.keys = s.keys
      ∧ (airQueryHandler l w b s).1.display = s.display ∧ (airQueryHandler l w b s).1.printer = s.printer
      ∧ (airQueryHandler l w b s).1.bridge = s.bridge ∧ (airQueryHandler l w b s).1.air = s.air
      ∧ (airQueryHandler l w b s).1.relay = s.relay ∧ (airQueryHandler l w b s).1.lines = s.lines
      ∧ (airQueryHandler l w b s).1.pending = s.pending := by
  unfold airQueryHandler; (try dsimp only); (repeat' split) <;> simp

@[simp] theorem chBindHandler_frame (l : Link) (w : Subject) (b : List Byte) (s : State) :
    (chBindHandler l w b s).1.clock = s.clock ∧ (chBindHandler l w b s).1.policy = s.policy
      ∧ (chBindHandler l w b s).1.tenants = s.tenants ∧ (chBindHandler l w b s).1.custody = s.custody
      ∧ (chBindHandler l w b s).1.keys = s.keys ∧ (chBindHandler l w b s).1.display = s.display
      ∧ (chBindHandler l w b s).1.printer = s.printer ∧ (chBindHandler l w b s).1.bridge = s.bridge
      ∧ (chBindHandler l w b s).1.air = s.air ∧ (chBindHandler l w b s).1.lines = s.lines
      ∧ (chBindHandler l w b s).1.pending = s.pending := by
  unfold chBindHandler; (try dsimp only); (repeat' split) <;> simp

@[simp] theorem chUnbindHandler_frame (l : Link) (w : Subject) (b : List Byte) (s : State) :
    (chUnbindHandler l w b s).1.clock = s.clock ∧ (chUnbindHandler l w b s).1.policy = s.policy
      ∧ (chUnbindHandler l w b s).1.tenants = s.tenants ∧ (chUnbindHandler l w b s).1.custody = s.custody
      ∧ (chUnbindHandler l w b s).1.keys = s.keys ∧ (chUnbindHandler l w b s).1.display = s.display
      ∧ (chUnbindHandler l w b s).1.printer = s.printer ∧ (chUnbindHandler l w b s).1.bridge = s.bridge
      ∧ (chUnbindHandler l w b s).1.air = s.air ∧ (chUnbindHandler l w b s).1.lines = s.lines
      ∧ (chUnbindHandler l w b s).1.pending = s.pending := by
  unfold chUnbindHandler; (try dsimp only); (repeat' split) <;> simp

@[simp] theorem chQueryHandler_frame (l : Link) (w : Subject) (b : List Byte) (s : State) :
    (chQueryHandler l w b s).1.clock = s.clock ∧ (chQueryHandler l w b s).1.ports = s.ports
      ∧ (chQueryHandler l w b s).1.policy = s.policy ∧ (chQueryHandler l w b s).1.tenants = s.tenants
      ∧ (chQueryHandler l w b s).1.custody = s.custody ∧ (chQueryHandler l w b s).1.keys = s.keys
      ∧ (chQueryHandler l w b s).1.display = s.display ∧ (chQueryHandler l w b s).1.printer = s.printer
      ∧ (chQueryHandler l w b s).1.bridge = s.bridge ∧ (chQueryHandler l w b s).1.air = s.air
      ∧ (chQueryHandler l w b s).1.relay = s.relay ∧ (chQueryHandler l w b s).1.lines = s.lines
      ∧ (chQueryHandler l w b s).1.pending = s.pending := by
  unfold chQueryHandler; (try dsimp only); (repeat' split) <;> simp

@[simp] theorem chQuerySummaryHandler_frame (l : Link) (w : Subject) (b : List Byte) (s : State) :
    (chQuerySummaryHandler l w b s).1.clock = s.clock ∧ (chQuerySummaryHandler l w b s).1.ports = s.ports
      ∧ (chQuerySummaryHandler l w b s).1.policy = s.policy
      ∧ (chQuerySummaryHandler l w b s).1.tenants = s.tenants
      ∧ (chQuerySummaryHandler l w b s).1.custody = s.custody ∧ (chQuerySummaryHandler l w b s).1.keys = s.keys
      ∧ (chQuerySummaryHandler l w b s).1.display = s.display
      ∧ (chQuerySummaryHandler l w b s).1.printer = s.printer
      ∧ (chQuerySummaryHandler l w b s).1.bridge = s.bridge ∧ (chQuerySummaryHandler l w b s).1.air = s.air
      ∧ (chQuerySummaryHandler l w b s).1.relay = s.relay ∧ (chQuerySummaryHandler l w b s).1.lines = s.lines
      ∧ (chQuerySummaryHandler l w b s).1.pending = s.pending := by
  unfold chQuerySummaryHandler; (try dsimp only); (repeat' split) <;> simp

@[simp] theorem sendHandler_frame (l : Link) (w : Subject) (b : List Byte) (s : State) :
    (sendHandler l w b s).1.clock = s.clock ∧ (sendHandler l w b s).1.ports = s.ports
      ∧ (sendHandler l w b s).1.policy = s.policy ∧ (sendHandler l w b s).1.tenants = s.tenants
      ∧ (sendHandler l w b s).1.custody = s.custody ∧ (sendHandler l w b s).1.keys = s.keys
      ∧ (sendHandler l w b s).1.display = s.display ∧ (sendHandler l w b s).1.printer = s.printer
      ∧ (sendHandler l w b s).1.bridge = s.bridge ∧ (sendHandler l w b s).1.air = s.air
      ∧ (sendHandler l w b s).1.lines = s.lines ∧ (sendHandler l w b s).1.pending = s.pending := by
  unfold sendHandler; (try dsimp only); (repeat' split) <;> simp

@[simp] theorem dataHandler_frame (l : Link) (w : Subject) (b : List Byte) (s : State) :
    (dataHandler l w b s).1.clock = s.clock ∧ (dataHandler l w b s).1.ports = s.ports
      ∧ (dataHandler l w b s).1.policy = s.policy ∧ (dataHandler l w b s).1.tenants = s.tenants
      ∧ (dataHandler l w b s).1.custody = s.custody ∧ (dataHandler l w b s).1.keys = s.keys
      ∧ (dataHandler l w b s).1.display = s.display ∧ (dataHandler l w b s).1.printer = s.printer
      ∧ (dataHandler l w b s).1.bridge = s.bridge ∧ (dataHandler l w b s).1.air = s.air
      ∧ (dataHandler l w b s).1.lines = s.lines ∧ (dataHandler l w b s).1.pending = s.pending := by
  unfold dataHandler; (try dsimp only); (repeat' split) <;> simp

@[simp] theorem dozeHandler_frame (l : Link) (w : Subject) (b : List Byte) (s : State) :
    (dozeHandler l w b s).1.ports = s.ports ∧ (dozeHandler l w b s).1.policy = s.policy
      ∧ (dozeHandler l w b s).1.tenants = s.tenants ∧ (dozeHandler l w b s).1.custody = s.custody
      ∧ (dozeHandler l w b s).1.keys = s.keys ∧ (dozeHandler l w b s).1.display = s.display
      ∧ (dozeHandler l w b s).1.printer = s.printer ∧ (dozeHandler l w b s).1.bridge = s.bridge
      ∧ (dozeHandler l w b s).1.air = s.air ∧ (dozeHandler l w b s).1.relay = s.relay
      ∧ (dozeHandler l w b s).1.lines = s.lines ∧ (dozeHandler l w b s).1.pending = s.pending := by
  unfold dozeHandler; (try dsimp only); (repeat' split) <;> simp

@[simp] theorem restartHandler_frame (l : Link) (w : Subject) (b : List Byte) (s : State) :
    (restartHandler l w b s).1.policy = s.policy ∧ (restartHandler l w b s).1.tenants = s.tenants
      ∧ (restartHandler l w b s).1.lines = s.lines ∧ (restartHandler l w b s).1.pending = s.pending := by
  unfold restartHandler; (try dsimp only); (repeat' split) <;> simp

@[simp] theorem claimHandler_frame (l : Link) (w : Subject) (b : List Byte) (s : State) :
    (claimHandler l w b s).1.clock = s.clock ∧ (claimHandler l w b s).1.policy = s.policy
      ∧ (claimHandler l w b s).1.tenants = s.tenants ∧ (claimHandler l w b s).1.relay = s.relay
      ∧ (claimHandler l w b s).1.lines = s.lines ∧ (claimHandler l w b s).1.pending = s.pending := by
  unfold claimHandler; (try dsimp only); (repeat' split) <;> simp

/-- What a reply, a freed place and a handler all keep, the processing of a frame keeps. -/
theorem processWhere_keeps {γ : Type} (view : State → γ) (l : Link) (hp : ∀ s p, view (s.setPort l p) = view s)
    (mine : Frame → Bool) (k : ReqKind) (handler : Handler)
    (hh : ∀ w b s, view (handler l w b s).1 = view s) (s : State) :
    view (processWhere mine k handler l s) = view s := by
  unfold processWhere
  split
  · split
    · unfold processFrame placeReply dropOldest
      dsimp only
      split <;> simp [hp, hh]
    · rfl
  · rfl

end Sys2Proof.Machine
end

