-- ==== Sys2Proof/Laws/Step.lean ====
section
/-! SUPPORT. Every command answers a next state: what that state is, once for all commands, and the cases of
a step. -/

namespace Sys2Proof.Machine

-- Its many small proofs are elaborated one after another, so that they take few threads.
set_option Elab.async false

/-- The state a command leaves. -/
def after : Instr → State → State
  | .transferStart l, s => transferStart l s
  | .outboundChoice l, s => outboundChoice l s
  | .frameComplete l, s => frameComplete l s
  | .frameReceived l b, s => if (s.port l).receiver.atSecondCheck then moveByte l b s else s
  | .frameLengthAbandoned l b, s => if (s.port l).receiver.atLongLength b then moveByte l b s else s
  | .transferEnd l, s => transferEnd l s
  | .frameStall l, s => frameStall l s
  | .unknownKind l, s => processUnknown l s
  | .time l, s => processRequest .time timeHandler l s
  | .conditions l, s => processRequest .conditions conditionsHandler l s
  | .conditionsEnable l, s => processRequest .conditionsEnable conditionsEnableHandler l s
  | .restart l, s => processRequest .restart restartHandler l s
  | .partReset l, s => processPartReset l s
  | .pinReset, s => partReset .pin s
  | .powerUp, s => partReset .power s
  | .policySet l, s => processRequest .policySet policySetHandler l s
  | .policyGet l, s => processRequest .policyGet policyGetHandler l s
  | .tenantSet l, s => processRequest .tenantSet tenantSetHandler l s
  | .tenantGet l, s => processRequest .tenantGet tenantGetHandler l s
  | .claim l, s => processRequest .claim claimHandler l s
  | .release l, s => processRequest .release releaseHandler l s
  | .withdraw l, s => processRequest .withdraw withdrawHandler l s
  | .custodyQuery l, s => processRequest .custodyQuery custodyQueryHandler l s
  | .renew l, s => processRequest .renew renewHandler l s
  | .setGrain l, s => processRequest .setGrain setGrainHandler l s
  | .hold l, s => processRequest .hold holdHandler l s
  | .resume l, s => processRequest .resume resumeHandler l s
  | .quarterBoundary r, s => quarterBoundary r s
  | .heldQuarter r, s => heldQuarter r s
  | .keySetup l, s => processRequest .keySetup keySetupHandler l s
  | .matchSetup l, s => processRequest .matchSetup matchSetupHandler l s
  | .keyScan sample, s => keyScan sample s
  | .holdTimerMatch, s => holdTimerMatch s
  | .fsyncEdge, s => fsyncEdge s
  | .forcedSwitch, s => forcedSwitch s
  | .blinkTimer, s => blinkToggle s
  | .print l, s => processRequest .print printHandler l s
  | .printFlush l, s => processRequest .printFlush printFlushHandler l s
  | .printSetup l, s => processRequest .printSetup printSetupHandler l s
  | .prdyActive level, s => prdyLevel level s
  | .characterComplete, s => characterComplete s
  | .printerStall, s => printerStall s
  | .clExchange l, s => processRequest .clExchange clExchangeHandler l s
  | .clSetup l, s => processRequest .clSetup clSetupHandler l s
  | .writeComplete, s => writeComplete s
  | .clrdyActive level, s => clrdyLevel level s
  | .exchangeTimeout, s => exchangeTimeout s
  | .abortComplete, s => abortComplete s
  | .readComplete available response, s => readComplete available response s
  | .fieldResetExpiry, s => fieldResetExpiry s
  | .clfevEdge level, s => clfevEdge level s
  | .airMap l, s => processRequest .airMap airMapHandler l s
  | .airQuery l, s => processRequest .airQuery airQueryHandler l s
  | .slotBoundary, s => slotBoundary s
  | .txRequestRise f, s => txRequestRise f s
  | .txRequestFall f, s => txRequestFall f s
  | .chBind l, s => processRequest .chBind chBindHandler l s
  | .chUnbind l, s => processRequest .chUnbind chUnbindHandler l s
  | .chQuery l, s => processWhere (fun f => f.isKind .chQuery && f.body != summaryBody) .chQuery chQueryHandler l s
  | .chQuerySummary l, s => processWhere (fun f => f.isKind .chQuery && f.body == summaryBody) .chQuery chQuerySummaryHandler l s
  | .send l, s => processRequest .send sendHandler l s
  | .data l, s => processRequest .data dataHandler l s
  | .doze l, s => processRequest .doze dozeHandler l s
  | .partTimeTick, s => partTimeTick s
  | .fastClockLock, s => fastClockLock s
  | .arrivingByte l arrival, s => arrive l arrival s

/-- Every command answers a next state. -/
theorem exec_after (c : Instr) (s : State) : exec c s = .next (after c s) := by cases c <;> rfl

theorem exec_next {c : Instr} {s t : State} (h : exec c s = .next t) : t = after c s := by
  rw [exec_after] at h; exact (Host.Outcome.next.inj h).symm

/-- What a step can do: run the front command with the queue's rest, or let one reference cycle pass. -/
theorem step_cases {s t : State} (h : step s = .next t) :
    (∃ c rest, s.pending = c :: rest ∧ t = after c { s with pending := rest })
      ∨ (s.pending = [] ∧ t = referenceCycle s) := by
  unfold step at h
  split at h
  · rename_i c rest e; exact .inl ⟨c, rest, e, exec_next h⟩
  · rename_i e; exact .inr ⟨e, (Host.Outcome.next.inj h).symm⟩

/-- A law that does not read the queue holds after every step if every command and every reference cycle
keeps it. -/
theorem step_keeps (P : State → Prop) (hq : ∀ (s : State) (q : List Instr), P s → P { s with pending := q })
    (hc : ∀ c s, P s → P (after c s)) (hr : ∀ s, P s → P (referenceCycle s)) {s t : State}
    (h : step s = .next t) (hs : P s) : P t := by
  obtain ⟨c, rest, -, rfl⟩ | ⟨-, rfl⟩ := step_cases h
  · exact hc _ _ (hq _ _ hs)
  · exact hr _ hs

end Sys2Proof.Machine
end

