-- ==== Sys2Proof/Laws/Ports.lean ====
section
/-! SUPPORT. What a port's own operations leave of the other ports, and of the port's own parts. -/

namespace Sys2Proof.Machine

-- Its many small proofs are elaborated one after another, so that they take few threads.
set_option Elab.async false

/-! ## Other ports -/

theorem setCondition_port_other (l k : Link) (c : Condition) (s : State) (h : k ≠ l) :
    (setCondition l c s).port k = s.port k := by simp [setCondition, setPort_port, h]

theorem notify_port_other (l k : Link) (n : Notice) (s : State) (h : k ≠ l) : (notify l n s).port k = s.port k := by
  unfold notify; split <;> simp [setPort_port, setCondition_port_other, h]

theorem notifyLink_port_other (l k : Link) (b : NoticeBody) (s : State) (h : k ≠ l) :
    (notifyLink l b s).port k = s.port k := notify_port_other l k _ s h

theorem cancelInFlight_port_other (l k : Link) (s : State) (h : k ≠ l) : (cancelInFlight l s).port k = s.port k := by
  unfold cancelInFlight; dsimp only; (repeat' split) <;> simp [setPort_port, h]

theorem withdrawGrant_port_other (f : RadioFn) (k : Link) (s : State) (h : k ≠ .p) :
    (withdrawGrant f s).port k = s.port k := by simp [withdrawGrant, State.setRadio, setCondition_port_other, h]

theorem boundaryJudgeAll_port_other (k : Link) (s : State) (h : k ≠ .p) :
    (boundaryJudgeAll s).port k = s.port k := by
  have e (f : RadioFn) (s : State) : (boundaryJudge f s).port k = s.port k := by
    unfold boundaryJudge; (repeat' split) <;> simp [withdrawGrant_port_other, h]
  simp [boundaryJudgeAll, e]

theorem armingJudgeAll_port_other (k : Link) (s : State) (h : k ≠ .p) : (armingJudgeAll s).port k = s.port k := by
  have e (f : RadioFn) (s : State) : (armingJudge f s).port k = s.port k := by
    unfold armingJudge; split <;> simp [withdrawGrant_port_other, h]
  simp [armingJudgeAll, e]

theorem dropOldest_port_other (l k : Link) (s : State) (h : k ≠ l) : (dropOldest l s).port k = s.port k := by
  simp [dropOldest, setPort_port, h]

theorem placeReply_port_other (l k : Link) (f : Frame) (s : State) (h : k ≠ l) :
    (placeReply l f s).port k = s.port k := by simp [placeReply, setPort_port, h]

theorem chooseFrame_port_other (l k : Link) (s : State) (h : k ≠ l) : (chooseFrame l s).port k = s.port k := by
  unfold chooseFrame resend sendNotice sendReply sendKeys sendResult sendRelay beginFrame
  (repeat' split) <;> simp [setPort_port, h, State.setBinding, State.recordServed] <;> (repeat' split) <;>
    simp [setPort_port, h]

theorem beginByte_port_other (l k : Link) (s : State) (h : k ≠ l) : (beginByte l s).port k = s.port k := by
  simp [beginByte, setPort_port, h]

theorem outboundChoice_port_other (l k : Link) (s : State) (h : k ≠ l) : (outboundChoice l s).port k = s.port k := by
  unfold outboundChoice
  (repeat' split) <;> simp only [beginByte_port_other l k _ h] <;> (try split) <;>
    simp [setPort_port, chooseFrame_port_other, h]

theorem dozeReplyCompleted_port_other (k : Link) (s : State) (h : k ≠ .p) :
    (dozeReplyCompleted s).port k = s.port k := by
  unfold dozeReplyCompleted enterDoze; dsimp only; (repeat' split) <;> simp [notifyLink_port_other, h]

theorem frameComplete_port_other (l k : Link) (s : State) (h : k ≠ l) (h' : k ≠ .p) :
    (frameComplete l s).port k = s.port k := by
  unfold frameComplete reportCompletion
  (repeat' split) <;> simp [setPort_port, dozeReplyCompleted_port_other, h, h']

theorem receiveByte_port_other (l k : Link) (b : Byte) (s : State) (h : k ≠ l) :
    (receiveByte l b s).port k = s.port k := by
  unfold receiveByte collectByte judgeFrame State.rxEnds
  (repeat' split) <;> simp [setPort_port, setCondition_port_other, h]

theorem restartStallTimer_port_other (l k : Link) (s : State) (h : k ≠ l) :
    (restartStallTimer l s).port k = s.port k := by unfold restartStallTimer; split <;> simp [setPort_port, h]

theorem clockEdge_port_other (l k : Link) (s : State) (h : k ≠ l) (h' : k ≠ .p) :
    (clockEdge l s).port k = s.port k := by
  unfold clockEdge; split
  · rfl
  · simp [restartStallTimer_port_other, beginByte_port_other, outboundChoice_port_other, frameComplete_port_other, h, h']

theorem moveByte_port_other (l k : Link) (b : Byte) (s : State) (h : k ≠ l) (h' : k ≠ .p) :
    (moveByte l b s).port k = s.port k := by
  unfold moveByte; dsimp only; split
  · rfl
  · simp [receiveByte_port_other, setPort_port, clockEdge_port_other, h, h']

theorem arrive_port_other (l k : Link) (arrival : Arrival) (s : State) (h : k ≠ l) (h' : k ≠ .p) :
    (arrive l arrival s).port k = s.port k := by
  cases arrival <;> simp [arrive, clockEdge_port_other, moveByte_port_other, h, h']

theorem truncateAtEnd_port_other (l k : Link) (s : State) (h : k ≠ l) : (truncateAtEnd l s).port k = s.port k := by
  unfold truncateAtEnd; split <;> simp [setCondition_port_other, setPort_port, h]

theorem transferEnd_port_other (l k : Link) (s : State) (h : k ≠ l) (h' : k ≠ .p) :
    (transferEnd l s).port k = s.port k := by
  unfold transferEnd; dsimp only; split
  · rfl
  · simp [setPort_port, truncateAtEnd_port_other, frameComplete_port_other, h, h']

theorem frameStall_port_other (l k : Link) (s : State) (h : k ≠ l) : (frameStall l s).port k = s.port k := by
  unfold frameStall; (repeat' split) <;> simp [setCondition_port_other, setPort_port, h]

theorem transferStart_port_other (l k : Link) (s : State) (h : k ≠ l) : (transferStart l s).port k = s.port k := by
  unfold transferStart; split <;> simp [setPort_port, h]

theorem processUnknown_port_other (l k : Link) (s : State) (h : k ≠ l) : (processUnknown l s).port k = s.port k := by
  unfold processUnknown; (repeat' split) <;> simp [placeReply_port_other, dropOldest_port_other, h]

/-! ## The blocks that the processing of a frame leaves -/

@[simp] theorem processUnknown_frame (l : Link) (s : State) :
    (processUnknown l s).clock = s.clock ∧ (processUnknown l s).policy = s.policy
      ∧ (processUnknown l s).tenants = s.tenants ∧ (processUnknown l s).custody = s.custody
      ∧ (processUnknown l s).keys = s.keys ∧ (processUnknown l s).display = s.display
      ∧ (processUnknown l s).printer = s.printer ∧ (processUnknown l s).bridge = s.bridge
      ∧ (processUnknown l s).air = s.air ∧ (processUnknown l s).relay = s.relay
      ∧ (processUnknown l s).lines = s.lines ∧ (processUnknown l s).pending = s.pending := by
  unfold processUnknown; (repeat' split) <;> simp

@[simp] theorem processPartReset_lines (l : Link) (s : State) :
    (processPartReset l s).lines = s.lines ∧ (processPartReset l s).pending = s.pending := by
  unfold processPartReset; (repeat' split) <;> simp [partReset]

end Sys2Proof.Machine
end

