-- ==== Sys2Proof/WellFormed.lean ====
section
/-! DEFINITION. Which commands are well formed. Every operand but READ_COMPLETE's is confined by its
type; a READ's front-end offers as many response bytes as its available-length byte says (R116, R122). -/

namespace Sys2Proof

/-- A command the outside can send. Only READ_COMPLETE has operands that could disagree: the response
bytes offered must be as many as the available length says (R122). -/
def Instr.wellFormed : Instr → Bool
  | .readComplete available response => response.length == available.toNat
  | _ => true

end Sys2Proof
end

