-- ==== Sys2Proof/Tests/Slice0.lean ====
section
/-! SUPPORT. Tests: what the checks on commands refuse, worked examples of the spec, and for the statements
with hypotheses concrete states that meet them, clause by clause at the boundaries. -/

namespace Sys2Proof.Tests

-- Its many small proofs are elaborated one after another, so that they take few threads.
set_option Elab.async false

open Sys2Proof Sys2Proof.Machine

/-! ## Well-formedness, and the words of the table -/

/-- A READ offers as many response bytes as its available length says (R122). -/
theorem test_read_with_missing_bytes_is_ill_formed : Instr.wellFormed (.readComplete 2 [7]) = false := by decide

theorem test_read_with_surplus_bytes_is_ill_formed : Instr.wellFormed (.readComplete 0 [7]) = false := by decide

theorem test_read_that_agrees_is_well_formed : Instr.wellFormed (.readComplete 2 [7, 8]) = true := by decide

/-- No row gives bits: no word spells a command, and the state stands (log entry 19). -/
theorem test_no_word_spells_a_command :
    decodeTableWord 16 0xA5A5 = none ∧ (State.reset.withFetchWord 16 0xA5A5).pending = [] := by decide +kernel

/-! ## Small states -/

/-- The part in RUN after its start, with nothing going on. -/
def running : State :=
  { State.reset with clock := { resetClock with regime := .run, fastClock := .locked } }

/-- A request as it lies in a receive buffer. -/
def ask (k : ReqKind) (tenant : Byte) (body : List Byte) : Frame :=
  { kind := k.code, tenant := tenant, tag := 7, body := body }

/-- The frame is the oldest one a link has taken. -/
def taken (l : Link) (f : Frame) (s : State) : State := s.setPort l { s.port l with rxBuffer := [f] }

/-- A fresh lease (R66). -/
def lease (who : Subject) : Grant := startLease who 2 1 true .full 250

/-- A subject holds a resource under the given grant. -/
def owned (r : Resource) (g : Grant) (s : State) : State := s.setEntry r { state := .owned g, waiting := [] }

/-- A waiting entry of a claim. -/
def waiter (who : Subject) (priority : Nat) (order : BitVec 32) : Waiter :=
  { subject := who, priority := priority, order := order, gran := .full, returnFlag := false, origin := .claim }

/-- The resource is in TURNOVER with a waiting list. -/
def turning (r : Resource) (k : EndingKind) (ws : List Waiter) (s : State) : State :=
  s.setEntry r { state := .turnover k, waiting := ws }

/-- A timer one millisecond below its limit whose event has not been taken. -/
def dueAt (n : Nat) : Timer := { elapsed := n, due := true }

/-- The state a command leaves. -/
def did (c : Instr) (s : State) : State :=
  match exec c s with
  | .next t => t
  | _ => s

/-- The bodies of the replies a link holds. -/
def replies (l : Link) (s : State) : List (List Byte) := (s.port l).replies.map (·.body)

/-- A transfer under way, as its second byte begins. -/
def atChoice : Transfer := { status := 0, moved := 1, choiceMade := false, shifting := none }

def inTransfer (l : Link) (t : Transfer) (s : State) : State := s.setPort l { s.port l with transfer := some t }

/-- An exchange of PAY's. -/
def exchange : Exchange :=
  { owner := .pay, number := 1, command := [9], expected := 2, timeout := 60, discard := false }

/-- A bound channel record. -/
def bound (owner : Subject) (cls : ChanClass) (level reserve ceiling : Nat) (out inn : List (List Byte)) : Channel :=
  { number := 1, binding := some { owner := owner, cls := cls, level := level, reserve := reserve
                                   ceiling := ceiling, outbound := out, inbound := inn } }

/-- A frame in flight whose last byte has been shifted. -/
def whole (f : Frame) (src : FrameSource) : InFlight :=
  { frame := f, source := src, phase := .sending f.wireLength }

def flying (l : Link) (x : InFlight) (s : State) : State := s.setPort l { s.port l with inFlight := some x }

/-- The reply of an accepted DOZE. -/
def dozeReply : Frame := replyFrame (ask .doze 0 []) [0]

/-! ## Worked examples of the spec -/

/-- The check of the covered bytes 0x31 to 0x39 (R3). -/
theorem test_check_of_nine_digits :
    frameCheck [0x31, 0x32, 0x33, 0x34, 0x35, 0x36, 0x37, 0x38, 0x39] = 0x29B1 := by
  decide +kernel

/-- Rows of the table of R168: the accumulator after a cycle that ends a millisecond, and part time. -/
theorem test_millisecond_ends :
    let at_ (n : Nat) := referenceCycle { State.reset with clock := { resetClock with accumulator := n } }
    (at_ 4000).clock.accumulator = 29 ∧ (at_ 4000).clock.partTime = 1
      ∧ (at_ 3875).clock.accumulator = 4000 ∧ (at_ 3875).clock.partTime = 0
      ∧ (at_ 3991).clock.accumulator = 20 := by decide +kernel

/-- The lock, due after its 80th cycle, ends WAKING (R169, R177). -/
theorem test_lock :
    (did .fastClockLock { State.reset with clock := { resetClock with fastClock := .locking 80 } }).clock.regime = .run
      ∧ (did .fastClockLock { State.reset with clock := { resetClock with fastClock := .locking 46 } }).clock.regime
          = .waking := by decide +kernel

/-- The renewal after the doze of 11.2: phase 0, HALF, 4 owed; 2 are paid and the balance stands at 5. -/
theorem test_renewal_pays_owed_quarters :
    let g : Grant := { lease .pay with gran := .half, balance := 5, owed := 4, renewed := false }
    replies .p (did (.renew .p) (taken .p (ask .renew 0 [0]) (owned .keypad g running)))
      = [[0x00, 0, 5, 2, 2, 1]] := by decide +kernel

/-- 11.2: RENEW KEYPAD at HALF takes the balance from 4 to 6 and the phase to 2. -/
theorem test_renewal_at_half :
    replies .p (did (.renew .p) (taken .p (ask .renew 0 [0]) (owned .keypad { lease .pay with gran := .half } running)))
      = [[0x00, 0, 6, 2, 0, 1]] := by decide +kernel

/-- 11.2: HOLD with quarters owed is refused RENEW_FIRST. -/
theorem test_hold_needs_a_renewal :
    let g : Grant := { lease .pay with owed := 4, renewed := false }
    replies .p (did (.hold .p) (taken .p (ask .hold 0 [0]) (owned .keypad g running))) = [[0x1A]] := by decide +kernel

/-- 11.1: PAY preempts APP/3 on CLESS; APP/3 is placed back behind it, and hears REVOKE with position 2. -/
theorem test_pay_preempts_the_card :
    let t := did (.claim .p) (taken .p (ask .claim 0 [2, 0, 1, 0]) (owned .cless { lease (.app 3) with priority := 1 } running))
    replies .p t = [[0x01, 2, 1, 0]] ∧ (t.entry .cless).standing = .turnover
      ∧ (t.entry .cless).waiting.map (fun w => (w.subject, w.origin)) = [(.pay, .claim), (.app 3, .ret)]
      ∧ ((t.port .a).notices.map Notice.frame).getLast?
          = some { kind := 0x45, tenant := 3, tag := 0, body := [2, 1, 2] }
      ∧ t.clrst = true := by decide +kernel

/-- 11.1: PAY's claim of KEYPAD is answered QUEUED at position 1, and PAY holds it in the same event. -/
theorem test_pay_takes_the_keypad :
    let t := did (.claim .p) (taken .p (ask .claim 0 [0, 0, 1, 0]) (owned .keypad { lease (.app 3) with priority := 1 } running))
    replies .p t = [[0x01, 0, 1, 0]] ∧ t.holder .keypad = some .pay
      ∧ ((t.port .p).notices.map Notice.frame).getLast?
          = some { kind := 0x44, tenant := 0, tag := 0, body := [0, 1, 0] } := by decide +kernel

/-- 11.2: RELEASE by a subject that has lost KEYPAD is answered NOT_HOLDER. -/
theorem test_release_after_loss :
    replies .a (did (.release .a) (taken .a (ask .release 5 [0]) (owned .keypad (lease .pay) running))) = [[0x12]] := by
  decide +kernel

/-- A grant that lapses: at balance −23 the boundary ends it; at −11 it warns (R68). -/
theorem test_lapse_and_warning :
    let at_ (b : Int) := owned .printer { lease .pay with balance := b, quarterTimer := dueAt 249 } running
    (did (.quarterBoundary .printer) (at_ (-23))).holder .printer = none
      ∧ ((did (.quarterBoundary .printer) (at_ (-11))).port .p).notices.length = 2 := by decide +kernel

/-- A time stamp of 11.1: part time 100400 gives stamp 34864. -/
theorem test_stamp : stampOf 100400 = 34864 := by decide

/-- R80, 5.1: the key at row 3, column 2 (code 21) is read on KCOL2 while row 3 is driven, and on no other row; a
scan that is due drives KROW0 to KROW3 in turn. -/
theorem test_matrix_rows :
    ((matrixScan (BitVec.twoPow 24 20)).map fun x => x.columns.toList)
        = [List.replicate 6 false, List.replicate 6 false, List.replicate 6 false,
          [false, false, true, false, false, false]]
      ∧ keyScanKrow 0 { State.reset with keys := { State.reset.keys with scanDue := true } }
        = [#v[true, false, false, false], #v[false, true, false, false], #v[false, false, true, false],
          #v[false, false, false, true]]
      ∧ keyScanKrow 0 State.reset = [] ∧ State.reset.krow = #v[false, false, false, false] := by decide +kernel

/-- Two scans that sense a key with D 2 make one PRESS record with its code (R81, R82). -/
theorem test_two_scans_press_a_key :
    let s := { owned .keypad (lease .pay) running with keys := { resetKeys with scanDue := true } }
    let t := did (.keyScan 4) s
    let u := did (.keyScan 4) { t with keys := { t.keys with scanDue := true } }
    t.keys.fifo = [] ∧ u.keys.fifo.map (fun k => (k.code, k.edge)) = [(3, .press)] := by decide +kernel

/-- A frame on the wire is taken, and then answered. -/
theorem test_wire_frame_is_answered :
    let s := did (.transferStart .p) running
    let t := (ask .time 0 []).wire.foldl (fun s b => did (.arrivingByte .p (.byte b)) s) s
    (t.port .p).rxBuffer = [ask .time 0 []] ∧ replies .p (did (.time .p) t) = [[0, 0, 0, 0, 0]] := by decide +kernel

/-- An unassigned kind is answered with kind 0x80, BAD_REQUEST and the kind byte (R9). -/
theorem test_unknown_kind :
    (((did (.unknownKind .p) (taken .p { kind := 0x3F, tenant := 0, tag := 9, body := [] } running)).port .p).replies)
      = [{ kind := 0x80, tenant := 0, tag := 9, body := [0x10, 0x3F] }] := by decide +kernel

/-- A map with a slot in two sets is refused OVERLAP, one with no slot left NO_AIR_TIME (R134). -/
theorem test_air_map_tests :
    replies .p (did (.airMap .p) (taken .p (ask .airMap 0 [5, 0, 1, 0, 1, 0, 0, 0, 0, 0]) running)) = [[0x1C]]
      ∧ replies .p (did (.airMap .p) (taken .p (ask .airMap 0 [5, 255, 255, 0, 0, 0, 0, 0, 0, 0]) running)) = [[0x1D]] := by
  decide +kernel

/-- A clock edge of the second byte begins it; cancelled then, the frame's sync byte is still completed, and fill
bytes follow (R15). -/
theorem test_cancelled_byte_is_completed :
    let s := inTransfer .p atChoice running
    let t := cancelInFlight .p (did (.arrivingByte .p .edge) s)
    let u := did (.arrivingByte .p (.byte 0)) t
    (t.port .p).inFlight = none ∧ (t.port .p).outByte = some 0xA5 ∧ (u.port .p).outByte = some 0 := by decide +kernel

/-- A clock edge restarts the stall timer of a frame being collected (R7). -/
theorem test_edge_restarts_the_stall_timer :
    let s := inTransfer .p { atChoice with moved := 9, choiceMade := true } running
    let t := did (.arrivingByte .p .edge)
      (s.setPort .p { s.port .p with receiver := .inFrame [1] { elapsed := 18, due := false } })
    (t.port .p).receiver = .inFrame [1] .zero := by decide +kernel

/-- A WRITE of a command of 240 bytes puts 242 bytes on CLDO, and CLCLK runs at 3.145728 MHz (R116). -/
theorem test_write_on_the_bus :
    let x := { exchange with command := List.replicate 240 7 }
    let s := { running with bridge := { resetBridge with exchange := .sending x } }
    s.clclk = some 3145728 ∧ s.bridge.transaction.map (fun t => (t.cldo 0).length) = some 242 := by decide +kernel

/-- A takeover of a FREE KEYPAD suppresses the keys then down (R93). -/
theorem test_takeover_of_a_free_keypad :
    let s := { running with keys := { resetKeys with
      keys := resetKeys.keys.set 4 { standing := .down, count := 0 }, holdTimer := some (dueAt 1999) } }
    let t := did .holdTimerMatch s
    t.holder .keypad = some .pay ∧ (t.keys.keys[4]).standing = .suppressed := by decide +kernel

/-- A tenant that leaves ACTIVE is told of all its losses before another tenant hears GRANT (R57). -/
theorem test_losses_before_grants :
    let s := (owned .printer (lease (.app 3)) (owned .keypad (lease (.app 3)) running)).setWaiting .keypad
      [waiter (.app 0) 1 2]
    let s := { s with tenants := s.tenants.set 3 { state := .active, allowance := 0 } }
    let t := did (.tenantSet .p) (taken .p (ask .tenantSet 0 [3, 1, 255]) s)
    ((t.port .a).notices.map fun n => n.body.kind).drop 1 = [0x45, 0x45, 0x44] := by decide +kernel

/-- 11.1: DATA on channel 0 with binding 1 is taken; with binding 2 it is NOT_BOUND (R157). -/
theorem test_data_names_its_binding :
    let s := running.setChannel 0 (bound .pay .payment 3 8 16 [] [])
    replies .r (did (.data .r) (taken .r (ask .data 0 [0, 1, 5]) s)) = [[0x00, 0, 1]]
      ∧ replies .r (did (.data .r) (taken .r (ask .data 0 [0, 2, 5]) s)) = [[0x1F]] := by decide +kernel

/-! ## Witnesses: states that meet the hypotheses of the statements -/

/-! ### Clock -/

/-- TimebaseAdvances: both sides of 4096, and the last accumulator before it. -/
theorem witness_timebase :
    State.reset.pending = [] ∧ State.reset.clock.accumulator + 125 < 4096 ∧ (3970 : Nat) + 125 < 4096
      ∧ (4096 : Nat) ≤ { State.reset with clock := { resetClock with accumulator := 3971 } }.clock.accumulator + 125
      ∧ { State.reset with clock := { resetClock with accumulator := 4095 } }.clock.accumulator < 4096 := by
  decide +kernel

/-- MillisecondRunsItsTimers: a timer one below its limit, and one two below it. -/
theorem witness_timer_limits : (48 : Nat) + 1 < 50 ∧ (50 : Nat) ≤ 49 + 1 := by decide

/-- MillisecondRunsItsTimers: a grant with no hold, a hold by HOLD and a hold by DOZE. -/
theorem witness_grants_of_each_kind :
    let g := lease .pay
    ((owned .keypad g running).entry .keypad).grant = some g
      ∧ ((owned .keypad { g with hold := some (.byHold 0 .zero 250 0) } running).entry .keypad).standing = .held
      ∧ ((owned .keypad { g with hold := some (.byDoze 2) } running).entry .keypad).standing = .held := by
  decide +kernel

/-- A part that wakes, with a lock count and an accumulator. -/
def waking (count accumulator : Nat) : State :=
  { State.reset with clock := { resetClock with
      fastClock := .locking count, accumulator := accumulator, wakeCause := some .key, dozeEntry := some 5 } }

/-- TimebaseAdvances: nothing is due, and the lock count reaches 80 with the last of the 33 cycles. -/
theorem witness_nothing_due :
    NothingDue (waking 47 0) ∧ (waking 47 0).clock.fastClock = .locking 47
      ∧ 47 + (4096 - (waking 47 0).clock.accumulator + 124) / 125 = 80 := by
  refine ⟨⟨?_, ?_, rfl, rfl, rfl, rfl, rfl, ?_, ?_, rfl⟩, rfl, rfl⟩
  · intro l bs t h; cases l <;> cases h
  · intro r g h; cases r <;> cases h
  · intro x t h; cases h
  · intro f h; cases h; rfl

/-- LockEndsTheDoze: a takeover is pending at a lock that is due. -/
def takeoverAtLock : State :=
  { waking 80 0 with custody := { resetCustody with pendingTakeover := true } }

theorem witness_takeover_at_lock :
    CustodyLaw takeoverAtLock ∧ takeoverAtLock.clock.fastClock = .locking 80
      ∧ takeoverAtLock.custody.pendingTakeover = true
      ∧ ((takeoverAtLock.port .p).notices ++ takeoverNotices takeoverAtLock (did .fastClockLock takeoverAtLock) .p).length
          + 1 ≤ 16 := by
  refine ⟨⟨fun r => ?_, by decide⟩, by decide, by decide, by decide +kernel⟩
  cases r <;> exact ⟨⟨by decide, List.Pairwise.nil, by decide, by decide⟩, by decide, by intro g h; cases h⟩

/-- LockEndsTheDoze: the last count that is early enough, the first that is not, off, locked, and due. -/
theorem witness_lock :
    (waking 47 0).clock.regime = .waking ∧ (waking 47 0).clock.fastClock = .locking 47
      ∧ (waking 47 0).clock.accumulator < 4096 ∧ 80 - 47 ≤ cyclesToTick (waking 47 0).clock.accumulator
      ∧ (waking 46 0).clock.fastClock = .locking 46 ∧ cyclesToTick (waking 46 0).clock.accumulator < 80 - 46
      ∧ running.clock.fastClock = .locked
      ∧ (waking 80 4095).clock.fastClock = .locking 80 ∧ (waking 80 4095).custody.pendingTakeover = false
      ∧ (waking 80 4095).clock.wakeCause = some .key ∧ (waking 80 4095).clock.dozeEntry = some 5
      ∧ ((waking 80 4095).port .p).notices.length < 16 ∧ State.reset.clock.wakeCause = none := by
  decide +kernel

/-- DozeIsEnteredOrAbandoned: an admitted DOZE, with a doze pending and without one. -/
theorem witness_doze :
    let f := ask .doze 0 []
    let s := taken .p f running
    Admitted .doze .p f s ∧ s.clock.dozePending = false ∧ s.bridge.exchange = .idle ∧ s.printer.fifo = []
      ∧ s.display.target = none ∧ (∀ r ∈ allResources, (s.entry r).standing ≠ .turnover)
      ∧ Admitted .doze .p f { s with clock := { s.clock with dozePending := true } } := by decide +kernel

/-- DozeIsEnteredOrAbandoned: every resource is one of the four, so the quiet part is quiet throughout. -/
theorem witness_doze_quiet (r : Resource) : (running.entry r).standing ≠ .turnover := by cases r <;> decide

/-- DozeIsEnteredOrAbandoned: each way the part can be busy. -/
theorem witness_doze_busy :
    let f := ask .doze 0 []
    let s := taken .p f running
    Admitted .doze .p f { s with bridge := { s.bridge with exchange := .result } }
      ∧ Admitted .doze .p f (turning .cless .released [] s)
      ∧ ((turning .cless .released [] s).entry .cless).standing = .turnover
      ∧ Admitted .doze .p f { s with printer := { s.printer with fifo := [1] } }
      ∧ Admitted .doze .p f { s with display := { s.display with target := some .pay } } := by decide +kernel

/-- The part with an accepted DOZE whose reply has just gone out whole. -/
def dozing : State :=
  let s := flying .p (whole dozeReply .reply) running
  { s with clock := { s.clock with dozePending := true } }

/-- DozeIsEnteredOrAbandoned: the reply is whole, with the entry test passed and failed. -/
theorem witness_doze_reply :
    (dozing.port .p).inFlight = some (whole dozeReply .reply)
      ∧ (whole dozeReply .reply).phase = .sending (whole dozeReply .reply).frame.wireLength
      ∧ dozeReply.isDozeOk = true ∧ dozing.clock.dozePending = true ∧ EntryTest dozing
      ∧ ¬ EntryTest (taken .a (ask .time 0 []) dozing) ∧ (dozing.port .p).notices.length < 16 := by decide +kernel

/-! ### Links -/

/-- TransferBeginsWithItsStatusByte: with no transfer, and within one. -/
theorem witness_transfer_begins :
    (running.port .p).transfer = none ∧ ((inTransfer .p atChoice running).port .p).transfer ≠ none := by decide +kernel

/-- A port collecting a frame, with the bytes after its sync byte. -/
def collecting (l : Link) (bytes : List Byte) (s : State) : State :=
  let s := inTransfer l { atChoice with moved := 9, choiceMade := true } s
  s.setPort l { s.port l with receiver := .inFrame bytes .zero }

/-- ArrivingByteMovesTheReceiver: hunting, within a frame that goes on, and discarding; and no transfer. -/
theorem witness_arriving_byte :
    (running.port .p).transfer = none
      ∧ ((inTransfer .p atChoice running).port .p).receiver = .hunting
      ∧ ((collecting .p [1, 0, 7, 1] running).port .p).receiver = .inFrame [1, 0, 7, 1] .zero
      ∧ ¬ 256 < lengthField ([1, 0, 7, 1] ++ [0]) ∧ ([1, 0, 7, 1] ++ [(0 : Byte)]).length ≠ 7 + 256 := by decide +kernel

/-- ArrivingByteMovesTheReceiver, outbound: the status byte, a frame that is SENDING with a byte left and none, no
frame, and a byte that has begun. -/
theorem witness_outbound_byte :
    let t0 := { atChoice with moved := 2, choiceMade := true }
    let f := ask .time 0 []
    let s := inTransfer .p t0 (flying .p { whole f .notice with phase := .sending 1 } running)
    (s.port .p).transfer = some t0 ∧ ¬ (t0.moved = 1 ∧ t0.choiceMade = false) ∧ t0.shifting = none
      ∧ 1 < f.wireLength ∧ f.wire[1]? = some 0x01 ∧ f.wireLength ≤ 8
      ∧ ((inTransfer .p t0 running).port .p).inFlight = none
      ∧ ((inTransfer .p { t0 with shifting := some 0xA5 } running).port .p).outByte = some 0xA5 := by decide +kernel

/-- FramesAreJudgedOrAbandoned: the second check byte of a good frame and of a bad one. -/
theorem witness_second_check_byte :
    let bytes : List Byte := ((ask .time 0 []).wire.drop 1).take 6
    (((collecting .p bytes running).port .p).transfer ≠ none)
      ∧ ((collecting .p bytes running).port .p).receiver = .inFrame bytes .zero
      ∧ 5 ≤ bytes.length ∧ bytes.length + 1 = 7 + lengthField bytes
      ∧ checkMatches (bytes ++ [(ask .time 0 []).wire.getLast?.getD 0]) = true
      ∧ checkMatches (bytes ++ [(ask .time 0 []).wire.getLast?.getD 0 + 1]) = false
      ∧ ((collecting .p bytes running).port .p).rxBuffer.length < 2
      ∧ 2 ≤ (((collecting .p bytes running).setPort .p { (collecting .p bytes running).port .p with
          rxBuffer := [ask .time 0 [], ask .time 0 []] }).port .p).rxBuffer.length := by decide +kernel

/-- FramesAreJudgedOrAbandoned: a length of 257, and a stall that is due and one that is not. -/
theorem witness_bad_frames :
    ((collecting .a [1, 0, 7, 1] running).port .a).receiver = .inFrame [1, 0, 7, 1] .zero
      ∧ ([1, 0, 7, 1] : List Byte).length = 4 ∧ 256 < lengthField ([1, 0, 7, 1] ++ [1])
      ∧ (dueAt 19).due = true ∧ Timer.zero.due = false := by decide +kernel

/-- FramesInFlightCompleteOrPark: a transfer under way, a frame being collected, a whole frame of each kind
of source, and one that is not whole. -/
theorem witness_frames_in_flight :
    let f := ask .time 0 []
    let s := running.setChannel 0 (bound .pay .payment 3 8 16 [] [])
    ((collecting .p [1] running).port .p).transfer ≠ none
      ∧ ((flying .p (whole f .notice) running).port .p).inFlight = some (whole f .notice)
      ∧ f.isDozeOk = false
      ∧ ({ whole f .reply with phase := .sending 3 }).phase ≠ .sending f.wireLength
      ∧ { flying .p (whole f .clResult) running with bridge := { resetBridge with exchange := .result } }.bridge.exchange
          = .result
      ∧ ((flying .r (whole f (.forward 0)) s).channel 0).binding ≠ none
      ∧ ((s.channel 0).binding.map fun b => b.owner.link) = some .p := by decide +kernel

/-- ArbiterServesInItsOrder: before the choice and at it, in RUN and outside it, with each source in turn. -/
theorem witness_arbiter :
    let quiet := fun (s : State) => s.setPort .p { s.port .p with notices := [] }
    let s := inTransfer .p atChoice running
    let result : ClResult :=
      { owner := .pay, number := 1, outcome := .done, truncated := false, available := 0, response := [] }
    (s.port .p).transfer = some atChoice
      ∧ ¬ (({ atChoice with moved := 0 }).moved = 1)
      ∧ State.reset.clock.regime ≠ .run ∧ s.clock.regime = .run
      ∧ (s.port .p).inFlight = none
      ∧ ((s.port .p).notices.find? Notice.isStarted).isSome
      ∧ ((quiet s).port .p).notices = [] ∧ ((quiet s).port .p).replies = []
      ∧ ((quiet s).setPort .p { (quiet s).port .p with replies := [dozeReply] }).ports.p.replies = [dozeReply]
      ∧ { owned .keypad (lease .pay) (quiet s) with keys := { resetKeys with fifo := [scanRecord 0 0 .press] } }.keySource .p
          = some .pay
      ∧ { owned .cless (lease .pay) (quiet s) with bridge := { resetBridge with slot := some result } }.resultSource .p
          = some (.pay, result)
      ∧ (quiet s).keySource .p = none ∧ (quiet s).resultSource .p = none ∧ (quiet s).relaySource .p = false := by
  decide +kernel

/-- RelayTurnIsFair: two channels wait for the R-link at one level, and nothing else does. -/
def twoChannels : State :=
  let s := inTransfer .r atChoice (running.setPort .r { running.port .r with notices := [] })
  (s.setChannel 0 (bound .pay .payment 3 8 16 [[1]] [])).setChannel 1 (bound .pay .payment 3 8 16 [[2], [3]] [])

theorem witness_relay_turn :
    (twoChannels.port .r).transfer = some atChoice ∧ atChoice.moved = 1 ∧ atChoice.choiceMade = false
      ∧ twoChannels.clock.regime = .run ∧ (twoChannels.port .r).inFlight = none
      ∧ (twoChannels.port .r).replies = [] ∧ (twoChannels.port .r).notices = []
      ∧ twoChannels.keySource .r = none ∧ twoChannels.resultSource .r = none ∧ twoChannels.relaySource .r = true
      ∧ ∀ c, twoChannels.channelLevel c < 4 := by decide +kernel

/-- WireFrameIsTakenWhole: a port that hunts within a transfer, with a body of 0 and of 256 bytes. -/
theorem witness_wire_frame :
    let s := inTransfer .p { atChoice with moved := 0 } running
    (s.port .p).transfer ≠ none ∧ (s.port .p).receiver = .hunting ∧ (s.port .p).rxBuffer.length < 2
      ∧ (ask .time 0 []).body.length ≤ 256 ∧ (ask .send 0 (List.replicate 256 1)).body.length ≤ 256 := by
  decide +kernel

/-! ### Requests -/

/-- AdmissionRefusesInOrder: each check failing alone, on the A-link and off it. -/
theorem witness_admission :
    let at_ := fun (l : Link) (f : Frame) => taken l f running
    Waiting .a (ask .time 16 []) (at_ .a (ask .time 16 [])) ∧ ¬ (ask .time 16 []).tenant.toNat < 16
      ∧ Waiting .p (ask .time 1 []) (at_ .p (ask .time 1 [])) ∧ ¬ (ask .time 1 []).tenant = 0
      ∧ Waiting .a (ask .restart 1 []) (at_ .a (ask .restart 1 []))
      ∧ ReqKind.permitted .restart .a 1 = false ∧ ReqKind.permitted .time .a 15 = true
      ∧ Waiting .p (ask .time 0 [1]) (at_ .p (ask .time 0 [1])) ∧ ReqKind.lengthOk .time 1 = false
      ∧ Waiting .r { ask .time 0 [] with kind := 0x3F } (at_ .r { ask .time 0 [] with kind := 0x3F })
      ∧ ∀ k ∈ allReqKinds, (0x3F : Byte) ≠ k.code := by decide +kernel

/-- AdmissionRefusesInOrder: the three ways in which processing is closed. -/
theorem witness_waiting :
    State.reset.clock.regime ≠ .run ∧ (running.port .p).rxBuffer = []
      ∧ 4 ≤ ((running.setPort .p { running.port .p with
          replies := [dozeReply, dozeReply, dozeReply, dozeReply] }).port .p).replies.length := by decide +kernel

/-- TimeAnswersPartTime: a TIME of tenant 15 on the A-link. -/
theorem witness_time :
    let f := ask .time 15 []
    Waiting .a f (taken .a f running) ∧ f.kind = 0x01 ∧ f.body = [] ∧ f.tenant.toNat < 16 := by decide +kernel

/-- ConditionSetsAreReadAndReplaced: the largest mask, and the smallest with an unused bit. -/
theorem witness_conditions :
    let f := ask .conditions 0 [3, 255]
    let g := ask .conditionsEnable 0 [4, 0]
    Admitted .conditions .p f (taken .p f running) ∧ number2 3 255 < 1024
      ∧ Admitted .conditionsEnable .a g (taken .a g running) ∧ 1024 ≤ number2 4 0 := by decide +kernel

/-- RestartEndsOrResetsADomain: RESTART on each link. -/
theorem witness_restart :
    let f := ask .restart 0 []
    Admitted .restart .p f (taken .p f running) ∧ Admitted .restart .a f (taken .a f running)
      ∧ Admitted .restart .r f (taken .r f running) := by decide +kernel

/-- RestartEndsOrResetsADomain: a DOZE reply in a slot and one in flight; a bound channel and room for its notice. -/
theorem witness_restart_clears :
    let f := ask .restart 0 []
    let s := taken .p f (running.setChannel 0 (bound .pay .payment 3 8 16 [[1]] []))
    let slot := s.setPort .p { s.port .p with replies := [dozeReply] }
    Admitted .restart .p f slot ∧ (∃ x ∈ (slot.port .p).replies, x.isDozeOk = true)
      ∧ Admitted .restart .p f (flying .p (whole dozeReply .reply) s)
      ∧ (whole dozeReply .reply).source = .reply ∧ (s.port .p).replies = [] ∧ (s.port .p).inFlight = none
      ∧ (s.channel 0).binding.isSome ∧ (s.port .r).notices.length + 1 ≤ 16
      ∧ ∀ c : Fin 32, ∀ b ∈ (s.channel c).binding, b.owner ≠ .rad := by decide +kernel

/-- PartResetFromEveryCause: a PART_RESET in RUN. -/
theorem witness_part_reset :
    let f := ask .partReset 0 []
    let s := taken .p f running
    s.clock.regime = .run ∧ (s.port .p).rxBuffer.head? = some f ∧ f.kind = 0x05 ∧ f.tenant = 0 ∧ f.body = [] := by
  decide +kernel

/-- ResetValuesOfEveryBlock: the state after reset, and a RESTART that completes. -/
theorem witness_reset_values :
    (exec .pinReset running = .next (did .pinReset running))
      ∧ exec (.restart .p) running = .next (did (.restart .p) running) := ⟨rfl, rfl⟩

/-- PolicySetWritesLimitedValues: a write that passes, one of RAD, one of PAY's KEYPAD entry without allow,
and an empty granularity set. -/
theorem witness_policy_set :
    let f := ask .policySet 0 [16, 3, 1, 9, 1, 0, 4, 7, 0]
    Admitted .policySet .p f (taken .p f running)
      ∧ subjectOf 16 = some (.app 0) ∧ resourceOf 3 = some .printer ∧ subjectOf 32 = some .rad
      ∧ subjectOf 0 = some .pay ∧ resourceOf 0 = some .keypad ∧ subjectOf 33 = none := by decide +kernel

/-- PolicyWriteActsOnTheHolder: a holder whose allow is withdrawn, or whose hold is at the new limit. -/
theorem witness_policy_write :
    let g := { lease (.app 0) with hold := some (.byHold 2 .zero 250 1), phase := 1, gran := .quarter }
    let s := owned .printer g running
    (s.entry .printer).state = .owned g ∧ g.holder = .app 0
      ∧ findWaiter (.app 0) (s.entry .printer).waiting = none
      ∧ platformDefault.allow = true ∧ { platformDefault with allow := false }.allow = false
      ∧ { platformDefault with grans := ⟨true, false, false⟩ }.grans ≠ platformDefault.grans
      ∧ GranSet.has ⟨true, false, false⟩ g.gran = false
      ∧ { platformDefault with holdLimit := 2 }.holdLimit < platformDefault.holdLimit := by decide +kernel

/-- PolicyWriteActsOnTheHolder: a granularity that stays while the pending one goes, a hold that stays, and a waiter. -/
theorem witness_policy_write_keeps :
    let g := { lease (.app 0) with gran := .half, phase := 2, pendingGran := some .quarter }
    let s := owned .printer g running
    let u := (owned .printer (lease .pay) running).setWaiting .printer [waiter (.app 0) 2 1]
    let new := { platformDefault with grans := ⟨true, true, false⟩, priority := 3 }
    (s.entry .printer).state = .owned g ∧ new.grans ≠ platformDefault.grans ∧ new.grans.has g.gran = true
      ∧ g.pendingGran.filter new.grans.has = none ∧ ¬ new.holdLimit < platformDefault.holdLimit
      ∧ u.holder .printer ≠ some (.app 0) ∧ new.priority ≠ platformDefault.priority
      ∧ findWaiter (.app 0) (u.entry .printer).waiting = some (waiter (.app 0) 2 1)
      ∧ findWaiter (.app 1) (u.entry .printer).waiting = none ∧ u.holder .printer ≠ some (.app 1) := by decide +kernel

/-- PolicyAndTenantReads: the platform reads anything, tenant 2 reads its own and not another's. -/
theorem witness_reads :
    let f := ask .policyGet 2 [18, 3]
    let g := ask .tenantGet 2 [2]
    Admitted .policyGet .a f (taken .a f running) ∧ subjectOf 18 = some (.app 2) ∧ requester .a 2 = .app 2
      ∧ requester .a 0 = .app 0 ∧ requester .a 3 ≠ .app 2 ∧ requester .a 3 ≠ .app 0 ∧ requester .a 3 ≠ .pay
      ∧ Admitted .tenantGet .a g (taken .a g running) ∧ (2 : Byte).toNat = (2 : Fin 16).val := by decide +kernel

/-- TenantSetWritesTheRecord: PAY retires tenant 2, the platform meets a frozen one, tenant 3 may not ask. -/
theorem witness_tenant_set :
    let f := ask .tenantSet 0 [2, 2, 255]
    let g := ask .tenantSet 3 [2, 2, 255]
    let s := { running with tenants := running.tenants.set 2 { state := .frozen, allowance := 1 } }
    Admitted .tenantSet .p f (taken .p f running) ∧ requester .p 0 = .pay
      ∧ Admitted .tenantSet .a f (taken .a f s) ∧ requester .a 0 = .app 0 ∧ (s.tenant 2).state = .frozen
      ∧ Admitted .tenantSet .a g (taken .a g s) ∧ requester .a 3 ≠ .app 0 ∧ requester .a 3 ≠ .pay := by decide +kernel

/-- TenantSetWritesTheRecord: an ACTIVE tenant that holds one resource and waits for another, with room. -/
theorem witness_tenant_leaves :
    let s := (owned .keypad (lease (.app 3)) (owned .printer (lease .pay) running)).setWaiting .printer
      [waiter (.app 3) 1 2]
    let s := { s with tenants := s.tenants.set 3 { state := .active, allowance := 0 } }
    let f := ask .tenantSet 0 [3, 1, 255]
    Admitted .tenantSet .p f (taken .p f s) ∧ (s.tenant 3).state = .active ∧ (3 : Byte).toNat = (3 : Fin 16).val
      ∧ s.holder .keypad = some (.app 3) ∧ (findWaiter (.app 3) (s.entry .printer).waiting).isSome
      ∧ (s.port .a).notices.length + 2 ≤ 16 := by decide +kernel

/-! ### Custody -/

/-- A claim of the platform's, and the state it reaches. -/
def claimed (body : List Byte) (s : State) : State := taken .a (ask .claim 0 body) s

/-- PAY's waiting list of six. -/
def sixWaiters : List Waiter :=
  [waiter .pay 6 1, waiter (.app 1) 1 2, waiter (.app 2) 1 3, waiter (.app 3) 1 4, waiter (.app 4) 1 5,
    waiter (.app 5) 1 6]

/-- ClaimsThatChangeNothing: the requester retired, not allowed, holding, waiting, and behind a holder or a
turnover that it may not pass. -/
theorem witness_claims :
    let f := ask .claim 0 [3, 0, 1, 0]
    let s := owned .printer (lease .pay) running
    let u := s.setWaiting .printer sixWaiters
    Admitted .claim .a f (taken .a f s) ∧ resourceOf 3 = some .printer ∧ granOf 0 = some .full
      ∧ requester .a 0 = .app 0 ∧ s.mayAct (.app 0) = true ∧ (s.policyOf (.app 0) .printer).allow = true
      ∧ s.mayAct (.app 1) = false ∧ (s.policyOf (.app 1) .printer).allow = false
      ∧ s.holder .printer = some .pay ∧ s.holder .printer ≠ some (.app 0)
      ∧ findWaiter (.app 0) (s.entry .printer).waiting = none
      ∧ (findWaiter (.app 5) (u.entry .printer).waiting).isSome
      ∧ (s.policyOf (.app 0) .printer).preempt = false ∧ 6 ≤ (u.entry .printer).waiting.length
      ∧ ((turning .printer .revoked sixWaiters running).entry .printer).standing = .turnover
      ∧ (running.policyOf (.app 0) .printer).priority ≤ (waiter .pay 6 1).priority := by decide +kernel

/-- FreeResourceIsGrantedAtOnce: the platform claims PRINTER, and PAY claims DISPLAY. -/
theorem witness_free_claim :
    let f := ask .claim 0 [3, 0, 1, 0]
    let g := ask .claim 0 [1, 0, 0, 1]
    Admitted .claim .a f (taken .a f running) ∧ (running.entry .printer).state = .free
      ∧ (running.entry .printer).waiting = []
      ∧ Admitted .claim .p g (taken .p g running) ∧ resourceOf 1 = some .display
      ∧ (running.policyOf .pay .display).allow = true ∧ running.display.mux = .app := by decide +kernel

/-- ClaimsPreemptOrQueue: PAY preempts the platform; the platform waits behind PAY; a NOWAIT claim in a
turnover with an empty list. -/
theorem witness_preempt_and_queue :
    let f := ask .claim 0 [3, 0, 0, 0]
    let g := ask .claim 0 [3, 0, 1, 0]
    let s := owned .printer (lease (.app 0)) running
    let u := owned .printer { lease .pay with priority := 6 } running
    Admitted .claim .p f (taken .p f s) ∧ (s.policyOf .pay .printer).preempt = true
      ∧ (s.entry .printer).grant = some (lease (.app 0)) ∧ (lease (.app 0)).priority < (s.policyOf .pay .printer).priority
      ∧ (s.entry .printer).waiting.length < 6
      ∧ Admitted .claim .a g (taken .a g u) ∧ u.holder .printer ≠ some (.app 0)
      ∧ (u.entry .printer).state ≠ .free
      ∧ Admitted .claim .p f (taken .p f (turning .printer .released [] running))
      ∧ ((turning .printer .released [] running).entry .printer).state ≠ .free := by decide +kernel

/-- ClaimsPreemptOrQueue: a list in order. -/
theorem witness_list_in_order : [waiter .pay 6 1, waiter (.app 1) 1 2].Pairwise Waiter.mayLead := by
  simp [waiter, Waiter.mayLead]

/-- ReleaseAndWithdraw: a holder, a waiter, and a subject that is neither. -/
theorem witness_release_and_withdraw :
    let f := ask .release 0 [3]
    let g := ask .withdraw 1 [3]
    let s := (owned .printer (lease (.app 0)) running).setWaiting .printer [waiter (.app 1) 1 2]
    Admitted .release .a f (taken .a f s) ∧ s.holder .printer = some (requester .a 0)
      ∧ s.holder .printer ≠ some (requester .a 2)
      ∧ Admitted .withdraw .a g (taken .a g s) ∧ findWaiter (requester .a 1) (s.entry .printer).waiting ≠ none
      ∧ findWaiter (requester .a 2) (s.entry .printer).waiting = none := by decide +kernel

/-- CompletionGrantsTheHead: a turnover with an empty list and with a waiter. -/
theorem witness_completion :
    ((turning .cless .revoked [] running).entry .cless).waiting = []
      ∧ ((turning .cless .revoked [waiter .pay 6 1] running).entry .cless).waiting = [waiter .pay 6 1]
      ∧ (running.port .p).notices.length < 16 := by decide +kernel

/-- CustodyQueryShowsWhatTheReaderMaySee: a query on a granted, a held and a free resource. -/
theorem witness_custody_query :
    let f := ask .custodyQuery 2 [3]
    let s := owned .printer { lease (.app 0) with hold := some (.byHold 1 .zero 250 2) } running
    Admitted .custodyQuery .a f (taken .a f s) ∧ (running.entry .printer).grant = none
      ∧ ((owned .printer (lease (.app 0)) running).entry .printer).grant = some (lease (.app 0))
      ∧ (lease (.app 0)).hold = none ∧ (s.entry .printer).standing = .held := by decide +kernel

/-- CustodyQueryShowsWhatTheReaderMaySee: tenants 3 and 4 exchanged, as tenant 2 reads. -/
def exchanged : Subject → Subject
  | .app 3 => .app 4
  | .app 4 => .app 3
  | s => s

theorem witness_hidden_tenants :
    exchanged .pay = .pay ∧ exchanged .rad = .rad ∧ exchanged (.app 2) = .app 2
      ∧ ∀ k : Fin 16, k ≠ 2 → ∃ k' : Fin 16, k' ≠ 2 ∧ exchanged (.app k) = .app k' := by decide +kernel

/-! ### Leases -/

/-- RenewPaysOwedQuartersFirst: the holder GRANTED, HELD, and another subject. -/
theorem witness_renew :
    let f := ask .renew 0 [3]
    let s := owned .printer { lease (.app 0) with owed := 4 } running
    let u := owned .printer { lease (.app 0) with hold := some (.byHold 0 .zero 250 0) } running
    Admitted .renew .a f (taken .a f s) ∧ (s.entry .printer).grant = some { lease (.app 0) with owed := 4 }
      ∧ requester .a 0 = .app 0 ∧ s.holder .printer ≠ some (requester .a 1)
      ∧ Admitted .renew .a f (taken .a f u) ∧ (u.entry .printer).standing = .held := by decide +kernel

/-- GrainChangesAtPhaseZero: a granularity allowed and one not, at phase 0 and beyond it. -/
theorem witness_set_grain :
    let f := ask .setGrain 0 [3, 2]
    let s := owned .printer (lease (.app 0)) running
    Admitted .setGrain .a f (taken .a f s) ∧ granOf 2 = some .quarter
      ∧ ((s.policyOf (.app 0) .printer).grans.has .quarter = true) ∧ (lease (.app 0)).phase = 0
      ∧ (s.policyOf .pay .printer).grans.has .quarter = false
      ∧ { lease (.app 0) with gran := .half, phase := 2 }.phase ≠ 0 ∧ Gran.quarter ≠ .full := by decide +kernel

/-- HoldAndResume: a grant that may hold, one that must renew first, and one on hold. -/
theorem witness_hold_and_resume :
    let f := ask .hold 0 [3]
    let g := ask .resume 0 [3]
    let s := owned .printer (lease (.app 0)) running
    let h := { lease (.app 0) with hold := some (.byHold 0 .zero 250 2) }
    Admitted .hold .a f (taken .a f s) ∧ (s.policyOf (.app 0) .printer).holdLimit ≠ 0
      ∧ (s.policyOf (.app 1) .printer).holdLimit = 0 ∧ (lease (.app 0)).renewed = true ∧ (lease (.app 0)).owed = 0
      ∧ { lease (.app 0) with renewed := false }.renewed = false
      ∧ Admitted .resume .a g (taken .a g (owned .printer h running)) ∧ h.hold = some (.byHold 0 .zero 250 2) := by
  decide +kernel

/-- QuartersCountToTheirLimits: a boundary due at −23, −11, −10 and +16; a held quarter short of its limit
and at it. -/
theorem witness_quarters :
    let g (b : Int) := { lease (.app 0) with balance := b, quarterTimer := dueAt 249 }
    let h (n : Nat) := { lease (.app 0) with hold := some (.byHold n (dueAt 249) 250 1) }
    ((owned .printer (g (-23)) running).entry .printer).grant = some (g (-23)) ∧ (g (-23)).hold = none
      ∧ (g (-11)).quarterTimer.due = true ∧ (g (-10)).balance ≠ -23 ∧ (g (-10)).balance ≠ -11 ∧ (g 16).balance ≠ -11
      ∧ running.clock.regime = .run
      ∧ ((owned .printer (h 38) running).entry .printer).grant = some (h 38)
      ∧ 38 + 1 < (running.policyOf (.app 0) .printer).holdLimit
      ∧ (running.policyOf (.app 0) .printer).holdLimit ≤ 39 + 1
      ∧ (running.entry .printer).grant = none := by decide +kernel

/-! ### Keys -/

/-- KeySettingsAreReplaced: a KEY_SETUP with values at their ends, and a MATCH_SETUP with one entry. -/
theorem witness_key_settings :
    let f := ask .keySetup 0 [0, 2, 1]
    let g := ask .matchSetup 0 ([1, 0, 100, 24, 1, 244, 1] ++ [0])
    let h := ask .matchSetup 0 ([1, 0, 100, 25, 1, 244, 0] ++ [])
    Admitted .keySetup .p f (taken .p f running) ∧ (2 : Byte).toNat < 3 ∧ 3 ≤ (3 : Byte).toNat
      ∧ Admitted .matchSetup .p g (taken .p g running) ∧ (24 : Byte).toNat ≤ 24 ∧ (1 : Byte).toNat ≤ 6
      ∧ Admitted .matchSetup .p h (taken .p h running) ∧ 24 < (25 : Byte).toNat := by decide +kernel

/-- ScanDebouncesEveryKey: a key that agrees, one that counts, one released and one pressed. -/
theorem witness_debounce :
    let up : KeyState := { standing := .up, count := 1 }
    let down : KeyState := { standing := .down, count := 1 }
    (false = (up.standing != .up)) ∧ (true ≠ (up.standing != .up)) ∧ min (up.count + 1) 4 < 3
      ∧ down.standing ≠ .up ∧ 2 ≤ min (down.count + 1) 4 ∧ up.standing = .up ∧ 2 ≤ min (up.count + 1) 4
      ∧ downCount resetKeys.keys ≤ 2 := by decide +kernel

/-- ScanRecordsReachTheFifoInOrder: a scan that falls here with a holder of KEYPAD and without one, and none. -/
theorem witness_scan :
    let s := { owned .keypad (lease .pay) running with keys := { resetKeys with scanDue := true } }
    s.keys.scanDue = true ∧ s.holder .keypad = some .pay ∧ s.clock.regime = .run ∧ s.keys.matching.mode = .off
      ∧ s.keys.lossPending = false
      ∧ s.keys.fifo.length
          + (scanMatrix s.keys.settings.debounce s.clock.partTime 4 s.keys.keys).records.length ≤ 32
      ∧ running.holder .keypad = none ∧ running.keys.scanDue = false := by decide +kernel

/-- A FIFO one short of full, PAY the holder, and three keys about to be accepted, as echo is on. -/
def nearlyFull : State :=
  { owned .keypad (lease .pay) running with keys := { resetKeys with
      keys := (resetKeys.keys.set 0 { standing := .down, count := 1 }).set 5 { standing := .up, count := 1 }
      fifo := List.replicate 31 (scanRecord 0 0 .press), scanDue := true
      settings := { debounce := 2, wake := .any, echo := true } } }

/-- ScanRecordsReachTheFifoInOrder: one record is taken and one lost. -/
theorem witness_loss :
    let w := scanMatrix 2 0 32 nearlyFull.keys.keys
    nearlyFull.keys.scanDue = true ∧ nearlyFull.holder .keypad = some .pay ∧ w.records.length = 2
      ∧ 32 - nearlyFull.keys.fifo.length = 1 ∧ ∃ r ∈ w.records, r.edge = .press := by decide +kernel

/-- An app tenant holds KEYPAD, and the matcher waits for one press. -/
def matching (regime : Regime) : State :=
  { owned .keypad (lease (.app 3)) running with
    clock := { running.clock with regime := regime, fastClock := if regime = .run then .locked else .off }
    keys := { resetKeys with
      keys := resetKeys.keys.set 5 { standing := .up, count := 1 }, scanDue := true
      matching := { resetKeys.matching with mode := .sequence, sequence := [6] } } }

/-- ScanRecordsReachTheFifoInOrder: a press that completes a match, and one that does not; in RUN and in DOZE. -/
theorem witness_match :
    (matchRecords 0 (scanMatrix 2 0 32 (matching .run).keys.keys).records (matching .run).keys).2 = true
      ∧ (matchRecords 0 (scanMatrix 2 0 0 (matching .run).keys.keys).records (matching .run).keys).2 = false
      ∧ (matching .run).holder .keypad ≠ some .pay ∧ (matching .run).keys.scanDue = true
      ∧ (matching .doze).clock.regime ≠ .run := by decide +kernel

theorem witness_match_law : CustodyLaw (matching .run) := by
  refine ⟨fun r => ?_, by decide⟩
  cases r <;> refine ⟨⟨by decide, List.Pairwise.nil, by decide, by decide⟩, by decide, ?_⟩ <;> intro g h <;>
    simp [matching, owned, State.entry, State.setEntry, PerResource.set, PerResource.get, running, State.reset,
      resetCustody, onAll, CustodyEntry.grant] at h <;> subst h <;> decide

/-- KeypadTurnoverFlushes: a holder of KEYPAD with a KEY frame in flight. -/
theorem witness_keypad_turnover :
    let s := flying .a (whole (ask .time 0 []) .key) (owned .keypad (lease (.app 1)) running)
    s.holder .keypad = some (.app 1) ∧ s.inFlightFrom (Subject.link (.app 1)) .key = true := by decide +kernel

/-- A state in which the hold timer is about to reach the hold time. -/
def holding (t : Timer) (s : State) : State := { s with keys := { s.keys with holdTimer := some t } }

/-- AttentionTakesKeypadAndDisplay: the timer due and not, in RUN, in WAKING and in DOZE. -/
theorem witness_attention :
    (holding (dueAt 1999) running).keys.holdTimer = some (dueAt 1999) ∧ (dueAt 1999).due = true
      ∧ Timer.zero.due = false ∧ (holding (dueAt 1999) running).clock.regime = .run
      ∧ (holding (dueAt 1999) State.reset).clock.regime = .waking
      ∧ running.holder .keypad ≠ some .pay ∧ running.holder .display ≠ some .pay ∧ running.display.mux = .app
      ∧ { running with clock := { running.clock with regime := .doze, fastClock := .off } }.clock.regime = .doze := by
  decide +kernel

/-- AttentionTakesKeypadAndDisplay: room for its notices, and a DISPLAY turnover with the panel on PAY. -/
theorem witness_attention_notices :
    let s := holding (dueAt 1999) running
    let u := holding (dueAt 1999) { turning .display .released [] running with
      display := { resetDisplay with mux := .pay } }
    ((s.port .a).notices ++ takeoverNotices s (did .holdTimerMatch s) .a).length ≤ 16
      ∧ u.display.mux = .pay ∧ u.holder .display ≠ some .pay
      ∧ ((u.port .p).notices ++ takeoverNotices u (did .holdTimerMatch u) .p).length = 4
      ∧ ((did .holdTimerMatch u).port .p).notices.length = 4 := by decide +kernel

theorem witness_attention_law :
    CustodyLaw (holding (dueAt 1999) { turning .display .released [] running with
      display := { resetDisplay with mux := .pay } }) := by
  refine ⟨fun r => ?_, by decide⟩
  cases r <;> exact ⟨⟨by decide, List.Pairwise.nil, by decide, by decide⟩, by decide, by intro g h; cases h⟩

/-! ### Display, lamp and printer -/

/-- A panel change to PAY under way, its forced switch due. -/
def switching : State :=
  let s := turning .display .revoked [waiter .pay 6 1] running
  { s with display := { resetDisplay with
      required := some .pay, target := some .pay, forcedTimer := some (dueAt 99) } }

/-- PanelAndLampEvents: a head that needs another source, one that needs none, and a pending target. -/
theorem witness_panel :
    (switching.entry .display).state = .turnover .revoked ∧ switching.display.mux = .app
      ∧ switching.display.target = some .pay ∧ isDue switching.display.forcedTimer = true
      ∧ isDue running.display.forcedTimer = false ∧ running.display.target = none
      ∧ ((turning .display .released [] running).entry .display).state = .turnover .released
      ∧ ((turning .display .released [] running).entry .display).waiting = [] := by decide +kernel

/-- The lamp blinking, with its timer. -/
def blinking (t : Timer) : State :=
  { running with display := { resetDisplay with mux := .pay, lamp := .blink, blinkTimer := some t } }

/-- PanelAndLampEvents: the blink timer about to reach 500 and 1000, and running. -/
theorem witness_lamp :
    (blinking (dueAt 499)).display.lamp = .blink ∧ (blinking (dueAt 499)).display.blinkTimer = some (dueAt 499)
      ∧ (dueAt 499).due = true ∧ (dueAt 999).elapsed = 999 ∧ Timer.zero.due = false
      ∧ running.display.blinkTimer = none := by decide +kernel

/-- PrintDataReachesTheTransmitter: the holder, HELD, and another; room, and a FIFO with one byte too few. -/
theorem witness_print :
    let f := ask .print 0 [65]
    let s := owned .printer (lease (.app 0)) running
    let u := owned .printer { lease (.app 0) with hold := some (.byHold 0 .zero 250 0) } running
    let g := ask .printFlush 0 []
    let h := ask .printSetup 0 [10]
    Admitted .print .a f (taken .a f s) ∧ s.holder .printer = some (requester .a 0)
      ∧ running.holder .printer ≠ some (requester .a 0) ∧ (s.entry .printer).standing = .granted
      ∧ (u.entry .printer).standing = .held ∧ s.printer.fifo.length + f.body.length ≤ 4096
      ∧ 4096 - (List.replicate 4096 (65 : Byte)).length < f.body.length
      ∧ Admitted .printFlush .p g (taken .p g s) ∧ requester .p 0 = .pay ∧ s.printer.phase = .none
      ∧ Admitted .printFlush .a g (taken .a g running) ∧ Admitted .printSetup .p h (taken .p h running) := by
  decide +kernel

/-- PrintDataReachesTheTransmitter: an idle transmitter, and a character within a grant with the FIFO empty,
with and without the report armed, and with a byte left. -/
theorem witness_characters :
    let s := owned .printer (lease (.app 0)) running
    let out (b : List Byte) (armed : Bool) :=
      { s with printer := { resetPrinter with inTransmission := some 65, fifo := b, armed := armed } }
    running.printer.inTransmission = none ∧ running.fastLocked = true ∧ State.reset.fastLocked = false
      ∧ running.printer.phase ≠ .separator ∧ (out [] true).printer.inTransmission = some 65
      ∧ (out [] true).printer.phase = .none ∧ (out [] true).clock.regime = .run ∧ (out [] true).fastLocked = true
      ∧ (out [] true).holder .printer = some (.app 0) ∧ (out [] false).printer.armed = false
      ∧ (out [66] true).printer.fifo = [66] := by decide +kernel

/-- A PRINTER turnover in its SEPARATOR phase. -/
def separating (copy : List Byte) : State :=
  { turning .printer .released [] running with
    lines := { quietLines with prdy := true }
    printer := { resetPrinter with
      inTransmission := some 65, phase := .separator, separatorCopy := copy, stallTimer := some (dueAt 4999) } }

/-- PrinterTurnoverSendsTheSeparator: a character in transmission and none, a separator and none, the copy
with a byte left and empty, the stall due and not. -/
theorem witness_printer_turnover :
    (separating [10]).printer.inTransmission = some 65 ∧ running.printer.inTransmission = none
      ∧ running.printer.fifo = [] ∧ running.printer.separator = []
      ∧ { running with printer := { resetPrinter with separator := [10] } }.printer.separator ≠ []
      ∧ (separating [10]).printer.phase = .separator ∧ (separating [10]).clock.regime = .run
      ∧ (separating [10]).fastLocked = true ∧ (separating [10]).holder .printer = none
      ∧ (separating [10]).printer.separatorCopy = [10] ∧ (separating [10]).lines.prdy = true
      ∧ (separating []).printer.separatorCopy = [] ∧ isDue (separating []).printer.stallTimer = true
      ∧ isDue running.printer.stallTimer = false := by decide +kernel

/-- A PRINTER turnover in its DRAIN phase. -/
def draining (out : Option Byte) (fifo separator : List Byte) : State :=
  { turning .printer .released [] running with
    lines := { quietLines with prdy := true }
    printer := { resetPrinter with
      inTransmission := out, fifo := fifo, separator := separator, phase := .drain, stallTimer := some .zero } }

/-- PrinterTurnoverSendsTheSeparator: RELEASED with data and no character; a character in DRAIN with data left and
without; a separator that waits for PRDY; and a flush by PAY in DRAIN. -/
theorem witness_printer_drain :
    let g := ask .printFlush 0 []
    let waits := { separating [10] with printer := { (separating [10]).printer with inTransmission := none } }
    { running with printer := { resetPrinter with fifo := [65] } }.printer.fifo = [65]
      ∧ (draining (some 65) [66] []).printer.phase = .drain ∧ (draining (some 65) [66] []).clock.regime ≠ .doze
      ∧ (draining (some 65) [66] []).holder .printer = none ∧ (draining (some 65) [] [10]).printer.separator = [10]
      ∧ waits.printer.inTransmission = none ∧ waits.fastLocked = true ∧ waits.printer.phase = .separator
      ∧ Admitted .printFlush .p g (taken .p g (draining none [66] [10])) ∧ requester .p 0 = .pay
      ∧ Admitted .printFlush .p g (taken .p g (draining (some 65) [66] [])) := by decide +kernel

/-! ### Contactless bridge -/

/-- The holder of CLESS and an exchange state. -/
def carding (x : ExchangeState) : State :=
  { owned .cless (lease .pay) running with bridge := { resetBridge with exchange := x, fieldReset := none } }

/-- ExchangeIsArmed: the holder GRANTED with the bridge IDLE and not, HELD, and another; every slot OPEN. -/
theorem witness_exchange_armed :
    let f := ask .clExchange 0 [241, 0, 9]
    let h := ask .clSetup 0 [51]
    let s := carding .idle
    Admitted .clExchange .p f (taken .p f s) ∧ s.holder .cless = some (requester .p 0)
      ∧ running.holder .cless ≠ some (requester .p 0) ∧ (s.entry .cless).standing = .granted
      ∧ s.bridge.exchange = .idle ∧ (carding .result).bridge.exchange ≠ .idle
      ∧ ((owned .cless { lease .pay with hold := some (.byHold 0 .zero 250 0) } running).entry .cless).standing = .held
      ∧ s.air.inForce.isOpen s.air.slot = true ∧ s.bridge.fieldReset = none ∧ s.clock.fastClock = .locked
      ∧ running.bridge.fieldReset ≠ none
      ∧ { s with air := { s.air with grants := ⟨.granted, .idle, .idle⟩ } }.air.inForce.tolerant.get .cell = false
      ∧ Admitted .clSetup .p h (taken .p h running) := by decide +kernel

/-- ExchangeRunsItsCourse: SENDING and AWAITING, with CLRDY active and not, and the timeout due and not. -/
theorem witness_exchange_runs :
    (carding (.sending exchange)).bridge.exchange = .sending exchange
      ∧ (carding (.sending exchange)).lines.clrdy = false ∧ (carding (.sending exchange)).clock.fastClock = .locked
      ∧ { carding (.sending exchange) with lines := { quietLines with clrdy := true } }.lines.clrdy = true
      ∧ (carding (.awaiting exchange (dueAt 59))).bridge.exchange = .awaiting exchange (dueAt 59)
      ∧ (dueAt 59).due = true ∧ Timer.zero.due = false := by decide +kernel

/-- ExchangeRunsItsCourse: an IDLE bridge sends, awaits and times nothing. -/
theorem witness_exchange_idle (y : Exchange) (t0 : Timer) :
    (carding .idle).bridge.exchange ≠ .sending y ∧ (carding .idle).bridge.exchange ≠ .awaiting y t0
      ∧ (carding .idle).bridge.exchange ≠ .receiving y ∧ (carding .idle).bridge.exchange ≠ .aborting y := by
  refine ⟨?_, ?_, ?_, ?_⟩ <;> intro h <;> simp [carding] at h

/-- ExchangeEndsWithItsResult: RECEIVING with as many bytes as offered, marked and not, and the ABORT. -/
theorem witness_exchange_ends :
    (carding (.receiving exchange)).bridge.exchange = .receiving exchange ∧ exchange.discard = false
      ∧ ([1, 2, 3] : List Byte).length = (3 : Byte).toNat ∧ exchange.marked.discard = true
      ∧ (carding (.aborting exchange)).bridge.exchange = .aborting exchange := by decide +kernel

/-- CardTurnoverAndFieldReset: a holder with an exchange in flight, with a result in flight, and neither. -/
theorem witness_card_turnover :
    (carding (.sending exchange)).holder .cless = some .pay ∧ (carding (.sending exchange)).bridge.isInFlight = true
      ∧ (carding .idle).bridge.isInFlight = false ∧ (carding .result).bridge.exchange = .result
      ∧ (flying .p (whole (ask .time 0 []) .clResult) (carding .result)).inFlightFrom .p .clResult = true := by
  decide +kernel

/-- A field reset running, due. -/
def resetting (forTurnover : Bool) (x : ExchangeState) : State :=
  { turning .cless .revoked [waiter .pay 6 1] running with bridge := { resetBridge with
      exchange := x, fieldReset := some { timer := dueAt 9, interval := 10, forTurnover := forTurnover } } }

/-- CardTurnoverAndFieldReset: a reset for a turnover and one with an ARMED exchange; edges with and without
CLRST; and DOZE. -/
theorem witness_field :
    (resetting true .idle).bridge.fieldReset = some { timer := dueAt 9, interval := 10, forTurnover := true }
      ∧ (dueAt 9).due = true ∧ Timer.zero.due = false
      ∧ (resetting false (.armed exchange)).bridge.exchange = .armed exchange
      ∧ (resetting false (.armed exchange)).gateOpen = true ∧ running.clock.fastClock = .locked
      ∧ (carding .idle).bridge.fieldReset = none ∧ (true ≠ (carding .idle).lines.clfev)
      ∧ running.bridge.fieldReset ≠ none ∧ ((carding .idle).port .p).notices.length < 16
      ∧ { carding .idle with clock := { running.clock with regime := .doze } }.clock.regime = .doze := by decide +kernel

/-! ### Air schedule -/

/-- AirMapBecomesPending: a map that passes, one with a shared slot, one with no slot left, and a stray bit. -/
theorem witness_air_map :
    let f := ask .airMap 0 [0, 0, 15, 15, 192, 0, 0, 0, 48, 7]
    let g := ask .airQuery 0 []
    Admitted .airMap .p f (taken .p f running) ∧ (7 : Byte).toNat < 8 ∧ 8 ≤ (8 : Byte).toNat
      ∧ Admitted .airQuery .r g (taken .r g running)
      ∧ (∃ i : Fin 16, 2 ≤ ([(1#16).getLsbD i.val, (3#16).getLsbD i.val].filter id).length) := by decide +kernel

/-- The air with a map of its own: slots 0 to 3 CELL, 4 to 5 NFC, 6 to 11 WLAN, 12 to 15 OPEN (11.1). -/
def airing (slot : Fin 16) (x : ExchangeState) (cell wlan bt : RadioGrant) : State :=
  { carding x with air :=
    { inForce := { slotLength := 5, sets := ⟨0x000F, 0x0FC0, 0⟩, nfc := 0x0030, tolerant := ⟨false, false, true⟩ }
      pendingMap := some resetAirMap, slot := slot, slotTimer := dueAt 4, grants := ⟨cell, wlan, bt⟩ } }

/-- SlotEligibility: a slot of the function's own, another's, the NFC set's, and an OPEN one with an exchange
ARMED, in flight and neither. -/
theorem witness_eligibility :
    let s := airing 3 .idle .idle .idle .idle
    let o := airing 12 (.armed exchange) .idle .idle .idle
    s.air.inForce.owns .cell s.air.slot = true ∧ s.air.inForce.owns .wlan s.air.slot = false
      ∧ o.air.inForce.owns .cell o.air.slot = false ∧ o.air.inForce.owns .wlan o.air.slot = false
      ∧ o.air.inForce.owns .bt o.air.slot = false ∧ o.air.inForce.isNfc o.air.slot = false
      ∧ o.bridge.exchange = .armed exchange ∧ (airing 12 (.sending exchange) .idle .idle .idle).bridge.isInFlight = true
      ∧ (airing 4 .idle .idle .idle .idle).air.inForce.isNfc 4 = true := by decide +kernel

/-- GrantsFollowSlotsAndRequests: a boundary due at the frame's end and not due; a function IDLE, GRANTED and
OVERRUN; a falling request that opens the gate. -/
theorem witness_grants :
    let s := airing 15 (.armed exchange) .granted .waiting .overrun
    let u := airing 12 (.armed exchange) .granted .idle .idle
    s.air.slotTimer.due = true ∧ running.air.slotTimer.due = false ∧ s.air.grants.get .cell = .granted
      ∧ s.air.grants.get .bt = .overrun ∧ running.air.grants.get .cell = .idle
      ∧ u.air.grants.get .cell = .granted ∧ u.air.inForce.tolerant.get .cell = false
      ∧ u.bridge.exchange = .armed exchange ∧ u.bridge.fieldReset = none ∧ u.clock.fastClock = .locked
      ∧ u.air.inForce.isOpen u.air.slot = true ∧ u.air.grants.get .wlan ≠ .granted ∧ u.air.grants.get .bt ≠ .granted
      ∧ (airing 0 .idle .granted .idle .idle).bridge.isArmed = false := by decide +kernel

/-- GrantsFollowSlotsAndRequests: the slot before the NFC slots, with an ARMED exchange that starts in the next. -/
theorem witness_armed_start :
    let s := airing 3 (.armed exchange) .idle .idle .idle
    s.air.slotTimer.due = true ∧ s.bridge.exchange = .armed exchange ∧ s.air.slot ≠ 15
      ∧ s.air.inForce.isNfc (s.air.slot + 1) = true ∧ s.bridge.fieldReset = none ∧ s.clock.fastClock = .locked
      ∧ (did .slotBoundary s).bridge.exchange = .sending exchange := by decide +kernel

/-- GrantsFollowSlotsAndRequests: a request that falls in its own slot, or with CLRST active, leaves the exchange
ARMED. -/
theorem witness_armed_waits :
    let s := airing 0 (.armed exchange) .granted .idle .idle
    let u := airing 12 (.armed exchange) .granted .idle .idle
    let w := { u with bridge := { u.bridge with fieldReset := some ⟨.zero, 10, false⟩ } }
    s.air.grants.get .cell = .granted ∧ s.air.inForce.tolerant.get .cell = false
      ∧ s.bridge.exchange = .armed exchange
      ∧ s.air.inForce.isNfc s.air.slot = false ∧ s.air.inForce.isOpen s.air.slot = false
      ∧ w.air.grants.get .cell = .granted ∧ w.bridge.fieldReset ≠ none
      ∧ (did (.txRequestFall .cell) s).bridge.exchange = .armed exchange
      ∧ (did (.txRequestFall .cell) w).bridge.exchange = .armed exchange
      ∧ (did (.txRequestFall .cell) u).bridge.exchange = .sending exchange := by decide +kernel

/-! ### Relay -/

/-- ChannelsAreBoundAndUnbound: PAY binds channel 3, the platform channel 4 for tenant 1; the refusals. -/
theorem witness_bind :
    let f := ask .chBind 0 [3, 0, 0, 9, 9, 40]
    let g := ask .chBind 0 [4, 1, 2, 1, 0, 0]
    let s := { running with tenants := running.tenants.set 1 { state := .active, allowance := 1 } }
    Admitted .chBind .p f (taken .p f running) ∧ (3 : Byte).toNat = (3 : Fin 32).val ∧ classOf 0 = some .payment
      ∧ requester .p 0 = .pay ∧ (running.channel 3).binding = none ∧ running.reserveSum + 8 ≤ 64
      ∧ 8 ≤ running.sharedFree
      ∧ Admitted .chBind .a g (taken .a g s) ∧ classOf 2 = some .tenant ∧ requester .a 0 = .app 0
      ∧ (running.tenant 1).state ≠ .active ∧ (s.tenant 1).state = .active
      ∧ s.tenantCount 1 < (s.tenant 1).allowance ∧ (running.tenant 1).allowance ≤ running.tenantCount 1
      ∧ ((running.setChannel 3 (bound .pay .payment 3 8 16 [] [])).channel 3).binding ≠ none := by decide +kernel

/-- Reserves of 8 on eight channels: the reserve sum is 64, and no ninth reserve is admitted. -/
def reserved : State :=
  [4, 5, 6, 7, 8, 9, 10, 11].foldl (fun s c => s.setChannel c (bound (.app 0) .control 2 8 8 [] [])) running

theorem witness_no_reserve : reserved.reserveSum = 64 ∧ 64 < reserved.reserveSum + 1 := by decide +kernel

/-- ChannelsAreBoundAndUnbound: PAY unbinds a bound channel; one that is not bound. -/
theorem witness_unbind :
    let f := ask .chUnbind 0 [0]
    let s := running.setChannel 0 (bound .pay .payment 3 8 16 [[1]] [])
    Admitted .chUnbind .p f (taken .p f s) ∧ (s.channel 0).binding.isSome ∧ (running.channel 0).binding = none
      ∧ requester .p 0 = .pay ∧ (s.port .r).notices.length < 16 := by decide +kernel

/-- ChannelsAreBoundAndUnbound: the platform unbinds tenant 2's channel. -/
theorem witness_unbind_of_another :
    let f := ask .chUnbind 0 [4]
    let s := running.setChannel 4 (bound (.app 2) .tenant 1 0 1 [] [])
    Admitted .chUnbind .a f (taken .a f s) ∧ (s.channel 4).binding.isSome ∧ requester .a 0 = .app 0
      ∧ (.app 2 : Subject) ≠ .app 0 ∧ (s.port .a).notices.length < 16 := by decide +kernel

/-- ChannelQueriesShowWhatTheReaderMaySee: channel 31 and the summary, an owner and another tenant. -/
theorem witness_channel_query :
    let f := ask .chQuery 2 [31]
    let g := ask .chQuery 2 [255]
    Admitted .chQuery .a f (taken .a f running) ∧ (31 : Byte).toNat = (31 : Fin 32).val
      ∧ requester .a 2 = .app 2 ∧ Admitted .chQuery .a g (taken .a g running) ∧ g.body = [255]
      ∧ ((running.setChannel 31 (bound (.app 2) .tenant 1 0 1 [] [])).channel 31).binding.isSome := by
  decide +kernel

/-- DataIsQueuedInABlock: a block in reserve, a ceiling reached, an owner frozen, another's channel. -/
theorem witness_data :
    let f := ask .send 0 [0, 5]
    let g := ask .data 0 [0, 1, 5]
    let s := running.setChannel 0 (bound .pay .payment 3 1 1 [] [])
    let u := running.setChannel 0 (bound .pay .payment 3 1 1 [[1]] [])
    let z := { running.setChannel 4 (bound (.app 2) .tenant 1 0 1 [] []) with
      tenants := running.tenants.set 2 { state := .frozen, allowance := 1 } }
    Admitted .send .p f (taken .p f s) ∧ (s.used 0 < 1) ∧ Admitted .send .p f (taken .p f u)
      ∧ ¬ (u.used 0 < 1) ∧ Admitted .data .r g (taken .r g s) ∧ (s.channel 0).number = 1
      ∧ (running.channel 0).binding = none ∧ z.isFrozen (.app 2) = true ∧ s.isFrozen .pay = false
      ∧ requester .p 0 = .pay ∧ requester .a 1 ≠ .pay := by decide +kernel

/-! ### Laws: states other than the reset state that meet them, with a step -/

/-- CustodyStaysLawful, AttentionTakesKeypadAndDisplay, TenantSetWritesTheRecord: PAY holds PRINTER. -/
def served : State := owned .printer (lease .pay) running

theorem witness_step : step served = .next (referenceCycle served) := rfl

theorem witness_custody_law : CustodyLaw served := by
  refine ⟨fun r => ?_, by decide⟩
  cases r <;> refine ⟨⟨by decide, List.Pairwise.nil, by decide, by decide⟩, by decide, ?_⟩ <;> intro g h <;>
    simp [served, owned, State.entry, State.setEntry, PerResource.set, PerResource.get, running, State.reset,
      resetCustody, onAll, CustodyEntry.grant] at h <;> subst h <;> decide

theorem witness_custody_law_of_the_free_part : CustodyLaw (holding (dueAt 1999) running) := by
  refine ⟨fun r => ?_, by decide⟩
  cases r <;> exact ⟨⟨by decide, List.Pairwise.nil, by decide, by decide⟩, by decide, by intro g h; cases h⟩

theorem witness_standing_law : StandingLaw served := by
  refine ⟨fun r => ⟨?_, ?_⟩, ?_⟩
  · cases r <;> intro g h <;> simp [served, owned, State.entry, State.setEntry, PerResource.set, PerResource.get, running,
      State.reset, resetCustody, onAll, CustodyEntry.grant] at h <;> subst h <;> unfold State.mayStand <;> decide
  · cases r <;> intro w h <;> cases h
  · intro r h; rcases h with rfl | rfl <;> decide

theorem witness_lease_law : LeaseLaw served := by
  intro r g h
  cases r <;> simp [served, owned, State.entry, State.setEntry, PerResource.set, PerResource.get, running,
    State.reset, resetCustody, onAll, CustodyEntry.grant] at h
  subst h; exact ⟨by decide, by decide, by decide, by decide, by decide, by decide, by intro h e; cases e⟩

theorem witness_queue_law : QueueLaw served := by
  refine ⟨fun l => ?_, by decide, by decide⟩; cases l <;> decide

theorem witness_clock_law : ClockLaw served := ⟨rfl, by decide, by decide⟩

theorem witness_key_law : KeyLaw served := by
  refine ⟨by decide +kernel, by decide, ?_, by decide⟩
  intro l h; cases l <;> exact absurd h (by decide)

theorem witness_panel_laws : DisplayLaw served ∧ LampLaw served :=
  ⟨⟨rfl, rfl, rfl, rfl⟩, rfl, by decide⟩

theorem witness_card_law : CardLaw served := by
  refine ⟨?_, ?_, by decide, ?_, ?_, by decide⟩
  · intro x h; cases h
  · intro l h; cases l <;> exact absurd h (by decide)
  · intro x h; cases h
  · intro f h; cases h; exact ⟨rfl, by decide⟩

theorem witness_printer_law : PrinterLaw served := by
  refine ⟨by decide, by decide, by decide, by decide, by decide⟩

theorem witness_air_law : AirLaw (airing 12 (.sending exchange) .overrun .waiting .granted) := by
  intro _ f; cases f <;> decide

theorem witness_pool_law : PoolLaw served := by
  refine ⟨?_, ?_, ?_, by decide +kernel, by decide +kernel⟩
  · intro c b h
    have : ∀ c : Fin 32, (served.channel c).binding = none := by decide +kernel
    rw [this c] at h; cases h
  · intro l c h; cases l <;> exact absurd h (by simp [State.inFlightFrom, served, owned, running, State.reset, resetPort, State.port, State.setEntry, PerLink.get])
  · intro l c h; cases l <;> exact absurd h (by simp [State.inFlightFrom, served, owned, running, State.reset, resetPort, State.port, State.setEntry, PerLink.get])

end Sys2Proof.Tests
end

section
/-! SUPPORT. Waiting lists: how an entry joins one, how one is put back in order, and what is left of its law
when entries leave (R32, R44, R45). -/

namespace Sys2Proof.Machine

/-! ## The order of a waiting list (R44, R45) -/

theorem Waiter.mayLead_of_before {w v : Waiter} (h : w.before v = true) : w.mayLead v := by
  simp only [Waiter.before, Bool.or_eq_true, Bool.and_eq_true, decide_eq_true_eq, beq_iff_eq] at h
  exact h.imp_right fun ⟨hp, ho⟩ => ⟨hp, ho.le⟩

theorem Waiter.mayLead_of_not_before {w v : Waiter} (h : w.before v = false) : v.mayLead w := by
  simp only [Waiter.before, Bool.or_eq_false_iff, Bool.and_eq_false_iff, decide_eq_false_iff_not,
    beq_eq_false_iff_ne] at h
  unfold Waiter.mayLead
  omega

theorem Waiter.mayLead_trans {u v w : Waiter} (huv : u.mayLead v) (hvw : v.mayLead w) : u.mayLead w := by
  unfold Waiter.mayLead at *
  omega

theorem placeWaiter_perm (w : Waiter) (ws : List Waiter) : (placeWaiter w ws).Perm (w :: ws) := by
  induction ws with
  | nil => rfl
  | cons v vs ih =>
    unfold placeWaiter
    split
    · rfl
    · exact (ih.cons v).trans (.swap w v vs)

theorem placeWaiter_pairwise (w : Waiter) {ws : List Waiter} (h : ws.Pairwise Waiter.mayLead) :
    (placeWaiter w ws).Pairwise Waiter.mayLead := by
  induction ws with
  | nil => simp [placeWaiter]
  | cons v vs ih =>
    obtain ⟨hv, hvs⟩ := List.pairwise_cons.mp h
    unfold placeWaiter
    split
    case isTrue hb =>
      have hw := Waiter.mayLead_of_before hb
      refine List.pairwise_cons.mpr ⟨fun x hx => ?_, h⟩
      rcases List.mem_cons.mp hx with rfl | hx
      · exact hw
      · exact Waiter.mayLead_trans hw (hv x hx)
    case isFalse hb =>
      refine List.pairwise_cons.mpr ⟨fun x hx => ?_, ih hvs⟩
      rcases List.mem_cons.mp ((placeWaiter_perm w vs).mem_iff.mp hx) with rfl | hx
      · exact Waiter.mayLead_of_not_before (by simpa using hb)
      · exact hv x hx

theorem mem_placeWaiter {w v : Waiter} {ws : List Waiter} : v ∈ placeWaiter w ws ↔ v = w ∨ v ∈ ws := by
  simp [(placeWaiter_perm w ws).mem_iff]

theorem placeWaiter_length (w : Waiter) (ws : List Waiter) : (placeWaiter w ws).length = ws.length + 1 := by
  simp [(placeWaiter_perm w ws).length_eq]

/-- What `orderWaiters` has put in order so far, and what it has still to place. -/
theorem foldl_placeWaiter (ws acc : List Waiter) (h : acc.Pairwise Waiter.mayLead) :
    (ws.foldl (fun acc w => placeWaiter w acc) acc).Pairwise Waiter.mayLead
      ∧ (ws.foldl (fun acc w => placeWaiter w acc) acc).Perm (ws ++ acc) := by
  induction ws generalizing acc with
  | nil => exact ⟨h, .refl _⟩
  | cons w ws ih =>
    obtain ⟨ho, hp⟩ := ih (placeWaiter w acc) (placeWaiter_pairwise w h)
    exact ⟨ho, hp.trans (((placeWaiter_perm w acc).append_left ws).trans List.perm_middle)⟩

theorem orderWaiters_pairwise (ws : List Waiter) : (orderWaiters ws).Pairwise Waiter.mayLead :=
  (foldl_placeWaiter ws [] .nil).1

theorem orderWaiters_perm (ws : List Waiter) : (orderWaiters ws).Perm ws := by
  simpa [orderWaiters] using (foldl_placeWaiter ws [] .nil).2

/-! ## A subject's entry -/

theorem findWaiter_eq_none {who : Subject} {ws : List Waiter} :
    findWaiter who ws = none ↔ ∀ w ∈ ws, w.subject ≠ who := by simp [findWaiter]

theorem findWaiter_some {who : Subject} {ws : List Waiter} {w : Waiter} (h : findWaiter who ws = some w) :
    w ∈ ws ∧ w.subject = who := ⟨List.mem_of_find?_eq_some h, by simpa using List.find?_some h⟩

theorem mem_dropWaiter {who : Subject} {ws : List Waiter} {w : Waiter} :
    w ∈ dropWaiter who ws ↔ w ∈ ws ∧ w.subject ≠ who := by simp [dropWaiter]

/-! ## Lists whose subjects all meet a condition -/

/-- A waiting list within its law (R44), of subjects that all meet `ok`. -/
def ListWithin (ok : Subject → Prop) (ws : List Waiter) : Prop := WaitingList ws ∧ ∀ w ∈ ws, ok w.subject

variable {ok : Subject → Prop} {ws vs : List Waiter} {w : Waiter}

theorem ListWithin.nil : ListWithin ok [] := by simp [ListWithin, WaitingList]

theorem ListWithin.singleton (hr : w.subject ≠ .rad) (hw : ok w.subject) : ListWithin ok [w] := by
  simp [ListWithin, WaitingList, hr, hw]

theorem ListWithin.sublist (h : ListWithin ok ws) (hs : vs.Sublist ws) : ListWithin ok vs := by
  obtain ⟨⟨hlen, hord, hnodup, hrad⟩, hok⟩ := h
  exact ⟨⟨hs.length_le.trans hlen, hord.sublist hs, hnodup.sublist (hs.map _), fun v hv => hrad v (hs.mem hv)⟩,
    fun v hv => hok v (hs.mem hv)⟩

/-- A list in order that names the same subjects as a lawful one is lawful (R32). -/
theorem ListWithin.reorder (h : ListWithin ok ws) (ho : vs.Pairwise Waiter.mayLead)
    (hp : (vs.map (·.subject)).Perm (ws.map (·.subject))) : ListWithin ok vs := by
  obtain ⟨⟨hlen, -, hnodup, hrad⟩, hok⟩ := h
  have hall (p : Subject → Prop) (hw : ∀ w ∈ ws, p w.subject) : ∀ v ∈ vs, p v.subject := fun v hv => by
    obtain ⟨w, hmem, he⟩ := List.mem_map.mp (hp.mem_iff.mp (List.mem_map_of_mem hv))
    exact he ▸ hw w hmem
  have hl : vs.length = ws.length := by simpa using hp.length_eq
  exact ⟨⟨hl ▸ hlen, ho, hp.nodup_iff.mpr hnodup, hall (· ≠ .rad) hrad⟩, hall ok hok⟩

/-- A subject that is not in the list joins it while there is room (R44). -/
theorem ListWithin.place (h : ListWithin ok ws) (hlen : ws.length < 6) (hr : w.subject ≠ .rad)
    (hw : ok w.subject) (hnew : ∀ v ∈ ws, v.subject ≠ w.subject) : ListWithin ok (placeWaiter w ws) := by
  obtain ⟨⟨-, hord, hnodup, hrad⟩, hok⟩ := h
  refine ⟨⟨by rw [placeWaiter_length]; omega, placeWaiter_pairwise w hord, ?_, ?_⟩, ?_⟩
  · rw [((placeWaiter_perm w ws).map _).nodup_iff]
    simpa [hnodup] using fun v hv => hnew v hv
  · simpa [mem_placeWaiter, hr] using hrad
  · simpa [mem_placeWaiter, hw] using hok

end Sys2Proof.Machine
end

section
/-! SUPPORT. Custody whose holders and waiters all meet a condition, and that every shared operation on custody
keeps it so: with the condition that is always true this is the law of the entries (R42, R44, R53), with
"may stand" it is the law of standing (R38, R56), and with "is not this subject" it says that a standing has
ended (R31, R38). -/

namespace Sys2Proof.Machine

/-- An entry within its law (R42, R44) whose holder and waiters all meet `ok`. -/
def EntryWithin (ok : Subject → Prop) (e : CustodyEntry) : Prop :=
  ListWithin ok e.waiting ∧ (e.state = .free → e.waiting = [])
    ∧ ∀ g, e.grant = some g → g.holder ≠ .rad ∧ ok g.holder ∧ ∀ w ∈ e.waiting, w.subject ≠ g.holder

/-- Every entry is within its law, KEYPAD is not in TURNOVER, and whoever holds or waits meets `ok`. -/
def CustodyWithin (ok : Subject → Resource → Prop) (s : State) : Prop :=
  (∀ r, EntryWithin (ok · r) (s.entry r)) ∧ (s.entry .keypad).standing ≠ .turnover

/-- The same of every entry but one, of which the waiting list alone is known to be in order: custody while an
operation on that entry is under way. -/
def CustodyOpen (ok : Subject → Resource → Prop) (r : Resource) (s : State) : Prop :=
  (∀ q, q ≠ r → EntryWithin (ok · q) (s.entry q)) ∧ (r ≠ .keypad → (s.entry .keypad).standing ≠ .turnover)
    ∧ ListWithin (ok · r) (s.entry r).waiting

/-! ## The laws of the statements, in these words -/

theorem entryWithin_iff {ok : Subject → Prop} {e : CustodyEntry} :
    EntryWithin ok e ↔
      e.lawful ∧ (∀ g, e.grant = some g → ok g.holder) ∧ ∀ w ∈ e.waiting, ok w.subject := by
  unfold EntryWithin ListWithin CustodyEntry.lawful
  constructor
  · rintro ⟨⟨hl, hw⟩, hf, hg⟩
    exact ⟨⟨hl, hf, fun g h => ⟨(hg g h).1, (hg g h).2.2⟩⟩, fun g h => (hg g h).2.1, hw⟩
  · rintro ⟨⟨hl, hf, hg⟩, ho, hw⟩
    exact ⟨⟨hl, hw⟩, hf, fun g h => ⟨(hg g h).1, ho g h, (hg g h).2⟩⟩

theorem custodyWithin_iff {ok : Subject → Resource → Prop} {s : State} :
    CustodyWithin ok s ↔ CustodyLaw s ∧ ∀ r, (∀ g, (s.entry r).grant = some g → ok g.holder r)
      ∧ ∀ w ∈ (s.entry r).waiting, ok w.subject r := by
  simp only [CustodyWithin, CustodyLaw, entryWithin_iff, forall_and]
  tauto

theorem custodyLaw_iff {s : State} : CustodyLaw s ↔ CustodyWithin (fun _ _ => True) s := by
  simp [custodyWithin_iff]

/-! ## One entry -/

section
variable {ok : Subject → Prop} {e : CustodyEntry} {ws : List Waiter}

theorem EntryWithin.free : EntryWithin ok { state := .free, waiting := [] } := by
  simp [EntryWithin, ListWithin.nil]

theorem EntryWithin.turnover {k : EndingKind} (h : ListWithin ok ws) :
    EntryWithin ok { state := .turnover k, waiting := ws } := by simp [EntryWithin, h]

theorem entryWithin_owned {g : Grant} : EntryWithin ok { state := .owned g, waiting := ws } ↔
    ListWithin ok ws ∧ g.holder ≠ .rad ∧ ok g.holder ∧ ∀ w ∈ ws, w.subject ≠ g.holder := by
  simp [EntryWithin]

/-- The same holder with another lease. -/
theorem EntryWithin.changeGrant (h : EntryWithin ok e) {g g' : Grant} (hg : e.grant = some g)
    (hh : g'.holder = g.holder) : EntryWithin ok { e with state := .owned g' } := by
  obtain ⟨hl, -, ho⟩ := h
  rw [entryWithin_owned, hh]
  exact ⟨hl, ho g hg⟩

/-- A waiting list that names no subject the old one did not name, for the same state. -/
theorem EntryWithin.changeList (h : EntryWithin ok e) (hl : ListWithin ok ws)
    (hs : ∀ w ∈ ws, ∃ v ∈ e.waiting, v.subject = w.subject) : EntryWithin ok { e with waiting := ws } := by
  obtain ⟨-, hf, ho⟩ := h
  refine ⟨hl, fun hfree => List.eq_nil_iff_forall_not_mem.mpr fun w hw => ?_, fun g hg => ?_⟩
  · obtain ⟨v, hv, -⟩ := hs w hw
    exact absurd (hf hfree ▸ hv) List.not_mem_nil
  · obtain ⟨hr, hk, hn⟩ := ho g hg
    refine ⟨hr, hk, fun w hw => ?_⟩
    obtain ⟨v, hv, he⟩ := hs w hw
    exact he ▸ hn v hv

theorem EntryWithin.sublist (h : EntryWithin ok e) (hs : ws.Sublist e.waiting) :
    EntryWithin ok { e with waiting := ws } :=
  h.changeList (h.1.sublist hs) fun w hw => ⟨w, hs.mem hw, rfl⟩

theorem mapGrant_within {f : Grant → Grant} (hf : ∀ g, (f g).holder = g.holder) (h : EntryWithin ok e) :
    EntryWithin ok (e.mapGrant f) := by
  unfold CustodyEntry.mapGrant
  split
  case h_1 g hg => exact h.changeGrant (CustodyEntry.grant_eq_some.mpr hg) (hf g)
  case h_2 => exact h

theorem standing_eq_turnover : e.standing = .turnover ↔ ∃ k, e.state = .turnover k := by
  unfold CustodyEntry.standing
  cases e.state with
  | free => simp
  | owned g => dsimp only; split <;> simp
  | turnover k => simp

theorem mapGrant_turnover {f : Grant → Grant} : (e.mapGrant f).standing = .turnover ↔ e.standing = .turnover := by
  simp only [standing_eq_turnover]
  unfold CustodyEntry.mapGrant
  cases h : e.state <;> simp [h]

end

/-! ## One entry open, and closed again -/

section
variable {ok : Subject → Resource → Prop} {r : Resource} {s t : State}

theorem CustodyWithin.congr (h : CustodyWithin ok s) (hc : t.custody.entries = s.custody.entries) :
    CustodyWithin ok t := by simpa only [CustodyWithin, State.entry, hc] using h

theorem CustodyOpen.congr (h : CustodyOpen ok r s) (hc : t.custody.entries = s.custody.entries) :
    CustodyOpen ok r t := by simpa only [CustodyOpen, State.entry, hc] using h

theorem CustodyWithin.opened (h : CustodyWithin ok s) (r : Resource) : CustodyOpen ok r s :=
  ⟨fun q _ => h.1 q, fun _ => h.2, (h.1 r).1⟩

theorem CustodyOpen.setEntry (h : CustodyOpen ok r s) {e : CustodyEntry} (he : ListWithin (ok · r) e.waiting) :
    CustodyOpen ok r (s.setEntry r e) := by
  obtain ⟨ho, hk, -⟩ := h
  refine ⟨fun q hq => ?_, fun hr => ?_, by simpa using he⟩
  · simpa [setEntry_entry, hq] using ho q hq
  · simpa [setEntry_entry, hr.symm] using hk hr

theorem CustodyOpen.setWaiting (h : CustodyOpen ok r s) {ws : List Waiter} (hw : ListWithin (ok · r) ws) :
    CustodyOpen ok r (s.setWaiting r ws) := h.setEntry hw

theorem CustodyOpen.close (h : CustodyOpen ok r s) (he : EntryWithin (ok · r) (s.entry r))
    (hk : r = .keypad → (s.entry r).standing ≠ .turnover) : CustodyWithin ok s := by
  obtain ⟨ho, hk', -⟩ := h
  refine ⟨fun q => ?_, ?_⟩
  · rcases eq_or_ne q r with rfl | hq
    · exact he
    · exact ho q hq
  · rcases eq_or_ne r .keypad with rfl | hr
    · exact hk rfl
    · exact hk' hr

/-- An entry replaced by one within its law. -/
theorem CustodyWithin.setEntry (h : CustodyWithin ok s) {e : CustodyEntry} (he : EntryWithin (ok · r) e)
    (hk : r = .keypad → e.standing ≠ .turnover) : CustodyWithin ok (s.setEntry r e) :=
  ((h.opened r).setEntry he.1).close (by simpa using he) (by simpa using hk)

/-- A grant record replaced by one of the same holder. -/
theorem CustodyWithin.setGrant (h : CustodyWithin ok s) {g g' : Grant} (hg : (s.entry r).grant = some g)
    (hh : g'.holder = g.holder) : CustodyWithin ok (s.setGrant r g') :=
  h.setEntry ((h.1 r).changeGrant hg hh) fun _ => by simp [standing_eq_turnover]

theorem CustodyWithin.setWaiting (h : CustodyWithin ok s) {ws : List Waiter}
    (he : EntryWithin (ok · r) { s.entry r with waiting := ws }) : CustodyWithin ok (s.setWaiting r ws) :=
  h.setEntry he fun hk => by subst hk; exact h.2

/-! ## Grants and turnovers (R51 to R56) -/

theorem startGrant_entry (r q : Resource) (who : Subject) (p : Nat) (o : BitVec 32) (f : Bool) (g : Gran)
    (s : State) : (startGrant r who p o f g s).entry q =
      if q = r then
        { s.entry r with state := .owned (startLease who p o f g (s.policyOf who r).quarterLength) }
      else s.entry q := by simp [startGrant, setGrant_entry]

theorem completeTurnover_entry_nil (h : (s.entry r).waiting = []) :
    (completeTurnover r s).entry r = { state := .free, waiting := [] } := by
  unfold completeTurnover
  rw [h]
  dsimp only
  split <;> simp

theorem completeTurnover_entry_cons {w : Waiter} {rest : List Waiter} (h : (s.entry r).waiting = w :: rest) :
    (completeTurnover r s).entry r =
      { state := .owned (startLease w.subject w.priority w.order w.returnFlag
          ((s.policyOf w.subject r).grans.grantable w.gran) (s.policyOf w.subject r).quarterLength)
        waiting := rest } := by
  unfold completeTurnover
  rw [h]
  simp [startGrant_entry]

theorem completeTurnover_entry_other {q : Resource} (h : q ≠ r) :
    (completeTurnover r s).entry q = s.entry q := by
  unfold completeTurnover
  split
  · dsimp only; split <;> simp [setEntry_entry, h]
  · simp [startGrant_entry, setWaiting_entry, h]

/-- Completion closes an entry whose list is in order: the head may hold what it waited for (R56). -/
theorem completeTurnover_closes (h : CustodyOpen ok r s) : CustodyWithin ok (completeTurnover r s) := by
  obtain ⟨ho, hk, hl⟩ := h
  have hentry : EntryWithin (ok · r) ((completeTurnover r s).entry r)
      ∧ ((completeTurnover r s).entry r).standing ≠ .turnover := by
    cases hw : (s.entry r).waiting with
    | nil => simp [completeTurnover_entry_nil hw, EntryWithin.free, standing_eq_turnover]
    | cons w rest =>
      rw [completeTurnover_entry_cons hw, entryWithin_owned]
      rw [hw] at hl
      obtain ⟨⟨-, -, hnodup, hrad⟩, hok⟩ := id hl
      simp only [List.map_cons, List.nodup_cons, List.mem_map, not_exists, not_and] at hnodup
      exact ⟨⟨hl.sublist (List.sublist_cons_self w rest), hrad w (by simp), hok w (by simp), hnodup.1⟩,
        by simp [standing_eq_turnover]⟩
  refine CustodyOpen.close ⟨fun q hq => ?_, fun hr => ?_, hentry.1.1⟩ hentry.1 fun _ => hentry.2
  · rw [completeTurnover_entry_other hq]; exact ho q hq
  · rw [completeTurnover_entry_other hr.symm]; exact hk hr

theorem completeTurnover_within (r : Resource) (h : CustodyWithin ok s) : CustodyWithin ok (completeTurnover r s) :=
  completeTurnover_closes (h.opened r)

theorem completeDisplay_within (h : CustodyWithin ok s) : CustodyWithin ok (completeDisplay s) :=
  completeTurnover_within .display (h.congr rfl)

theorem reportDisplayHead_within (h : CustodyWithin ok s) : CustodyWithin ok (reportDisplayHead s) := by
  unfold reportDisplayHead
  split
  · dsimp only
    split
    · exact completeDisplay_within h
    · exact h.congr rfl
  · exact h

theorem endSeparator_within (h : CustodyWithin ok s) : CustodyWithin ok (endSeparator s) := by
  unfold endSeparator
  split
  · refine completeTurnover_within .printer ?_
    exact h.congr rfl
  · exact h

theorem runPrinter_within (h : CustodyWithin ok s) : CustodyWithin ok (runPrinter s) :=
  (endSeparator_within (h.congr (t := endDrain s) (by simp))).congr (by simp [runPrinter])

theorem keypadTurnover_closes (old : Option Subject) (h : CustodyOpen ok .keypad s) :
    CustodyWithin ok (keypadTurnover old s) := by
  unfold keypadTurnover
  dsimp only
  refine completeTurnover_closes (h.congr ?_)
  split <;> simp

/-- Entering TURNOVER closes an entry whose list is in order (R51, R53). -/
theorem enterTurnover_closes (k : EndingKind) (h : CustodyOpen ok r s) : CustodyWithin ok (enterTurnover r k s) := by
  have hentry : EntryWithin (ok · r) { s.entry r with state := .turnover k } := .turnover h.2.2
  have hset := h.setEntry hentry.1
  have hturn (hr : r ≠ .keypad) : CustodyWithin ok (s.setEntry r { s.entry r with state := .turnover k }) :=
    hset.close (by simpa using hentry) fun hk => absurd hk hr
  unfold enterTurnover
  dsimp only
  cases r with
  | keypad => exact keypadTurnover_closes _ hset
  | display => exact reportDisplayHead_within (hturn (by decide))
  | cless => exact (hturn (by decide)).congr (by simp)
  | printer =>
    refine runPrinter_within ?_
    exact (hturn (by decide)).congr rfl

theorem enterTurnover_within (r : Resource) (k : EndingKind) (h : CustodyWithin ok s) :
    CustodyWithin ok (enterTurnover r k s) := enterTurnover_closes k (h.opened r)

theorem revokeGrant_closes (why : RevokeReason) (p : Nat) (hh : (s.holder r).isSome) (h : CustodyOpen ok r s) :
    CustodyWithin ok (revokeGrant r why p s) := by
  obtain ⟨who, hwho⟩ := Option.isSome_iff_exists.mp hh
  unfold revokeGrant
  rw [hwho]
  exact enterTurnover_closes .revoked (h.congr (by simp))

theorem revokeGrant_within (r : Resource) (why : RevokeReason) (p : Nat) (h : CustodyWithin ok s) :
    CustodyWithin ok (revokeGrant r why p s) := by
  cases hh : s.holder r with
  | none => simpa [revokeGrant, hh] using h
  | some who => exact revokeGrant_closes why p (by simp [hh]) (h.opened r)

theorem changeWaiting_within {ws : List Waiter} (h : CustodyWithin ok s)
    (he : EntryWithin (ok · r) { s.entry r with waiting := ws }) : CustodyWithin ok (changeWaiting r ws s) := by
  unfold changeWaiting
  dsimp only
  split
  · exact reportDisplayHead_within (h.setWaiting he)
  · exact h.setWaiting he

theorem mapGrants_within {f : Grant → Grant} (hf : ∀ g, (f g).holder = g.holder) (h : CustodyWithin ok s) :
    CustodyWithin ok (mapGrants f s) := by
  obtain ⟨he, hk⟩ := h
  exact ⟨fun r => by cases r <;> exact mapGrant_within hf (he _), fun hc => hk (mapGrant_turnover.mp hc)⟩

/-! ## The attention takeover (R60) -/

/-- The list `placePay` leaves is in order: PAY alone. -/
theorem placePay_open (hp : ok .pay r) (h : CustodyOpen ok r s) : CustodyOpen ok r (placePay r s) := by
  unfold placePay
  split
  case h_1 w hw =>
    have hs := (findWaiter_some hw).2
    exact h.setWaiting (.singleton (by simp [hs]) (by simpa [hs] using hp))
  case h_2 =>
    exact CustodyOpen.setWaiting (h.congr rfl) (.singleton (by simp) hp)

theorem placePay_state (r : Resource) (s : State) : ((placePay r s).entry r).state = (s.entry r).state := by
  unfold placePay
  split
  · simp
  · simp [takeArrival]

theorem takeOver_within (hp : ok .pay r) (h : CustodyWithin ok s) : CustodyWithin ok (takeOver r s) := by
  have hplaced {t : State} (hc : t.custody = s.custody) : CustodyOpen ok r (placePay r t) :=
    placePay_open hp ((h.opened r).congr (by rw [hc]))
  unfold takeOver
  split
  case h_1 g _ =>
    split
    · exact h
    · exact enterTurnover_closes .revoked (hplaced (by simp))
  case h_2 k hk =>
    have hstate : ((placePay r (withdrawAppWaiters r s)).entry r).state = .turnover k := by
      rw [placePay_state]; simpa using hk
    have hne : r ≠ .keypad := by
      rintro rfl
      exact h.2 (standing_eq_turnover.mpr ⟨k, hk⟩)
    have hopen := hplaced (t := withdrawAppWaiters r s) (by simp)
    have hw : CustodyWithin ok (placePay r (withdrawAppWaiters r s)) :=
      hopen.close ⟨hopen.2.2, by simp [hstate], by simp [CustodyEntry.grant, hstate]⟩ fun he => absurd he hne
    dsimp only
    split
    · exact reportDisplayHead_within hw
    · exact hw
  case h_3 =>
    have hopen := hplaced (t := s) rfl
    dsimp only
    split
    · exact keypadTurnover_closes none hopen
    · exact enterTurnover_closes .revoked hopen
    · exact completeTurnover_closes hopen

/-- PAY meets the condition on the two resources an attention takeover gives it (R27, R60). -/
def PayMeets (ok : Subject → Resource → Prop) : Prop := ok .pay .keypad ∧ ok .pay .display

theorem attentionTakeover_within (hp : PayMeets ok) (h : CustodyWithin ok s) :
    CustodyWithin ok (attentionTakeover s) :=
  (takeOver_within hp.2 (takeOver_within hp.1 h)).congr (by simp [attentionTakeover])

theorem reportMatch_within (hp : PayMeets ok) (h : CustodyWithin ok s) : CustodyWithin ok (reportMatch s) := by
  unfold reportMatch
  split
  · exact attentionTakeover_within hp h
  · exact h.congr rfl

end
end Sys2Proof.Machine
end

section
/-! SUPPORT. That custody stays within its law, and within any condition on those who hold or wait, in every event
of the part that is no request, and in every reference cycle (R56, R60, R67 to R76, R101, R113, R126, R168). -/

namespace Sys2Proof.Machine

/-! ## A lease keeps its holder -/

@[simp] theorem Grant.resume_holder (g : Grant) : g.resume.holder = g.holder := by unfold Grant.resume; split <;> rfl

@[simp] theorem Grant.dozeResume_holder (g : Grant) : g.dozeResume.holder = g.holder := by
  unfold Grant.dozeResume; split <;> simp

@[simp] theorem Grant.dozeHold_holder (g : Grant) : g.dozeHold.holder = g.holder := by
  unfold Grant.dozeHold; split <;> rfl

@[simp] theorem Grant.tick_holder (m : Regime) (g : Grant) : (g.tick m).holder = g.holder := by
  unfold Grant.tick; (repeat' split) <;> rfl

@[simp] theorem Grant.renew_holder (g : Grant) : g.renew.holder = g.holder := by
  unfold Grant.renew; dsimp only; split <;> rfl

@[simp] theorem Grant.setGrain_holder (want : Gran) (g : Grant) : (g.setGrain want).holder = g.holder := by
  unfold Grant.setGrain; (repeat' split) <;> rfl

@[simp] theorem Grant.admitGrans_holder (a : GranSet) (g : Grant) : (g.admitGrans a).holder = g.holder := by
  unfold Grant.admitGrans; (repeat' split) <;> rfl

/-! ## Events of the lease, the panel, the printer and the bridge -/

section
variable {ok : Subject → Resource → Prop} {s : State}

theorem notifySubject_within (who : Subject) (b : NoticeBody) (h : CustodyWithin ok s) :
    CustodyWithin ok (notifySubject who b s) := h.congr (by simp)

theorem judgeGate_within (h : CustodyWithin ok s) : CustodyWithin ok (judgeGate s) := h.congr (by simp)

theorem expireHold_within {r : Resource} {g g' : Grant} (hg : (s.entry r).grant = some g) (hh : g'.holder = g.holder)
    (h : CustodyWithin ok s) : CustodyWithin ok (expireHold r g' s) :=
  notifySubject_within _ _ (h.setGrant hg (by simp [hh]))

theorem quarterBoundary_within (r : Resource) (h : CustodyWithin ok s) : CustodyWithin ok (quarterBoundary r s) := by
  unfold quarterBoundary
  split
  · exact h
  case h_2 g hg =>
    have hset {g' : Grant} (hh : g'.holder = g.holder) : CustodyWithin ok (s.setGrant r g') := h.setGrant hg hh
    dsimp only
    split
    · split
      · exact revokeGrant_within r .lapsed 0 (hset rfl)
      · split
        · exact notifySubject_within _ _ (hset rfl)
        · exact hset rfl
    · exact h

theorem heldQuarter_within (r : Resource) (h : CustodyWithin ok s) : CustodyWithin ok (heldQuarter r s) := by
  unfold heldQuarter
  split
  · exact h
  case h_2 g hg =>
    split
    · dsimp only
      split
      · split
        · exact expireHold_within hg (by rfl) h
        · exact h.setGrant hg (by rfl)
      · exact h
    · exact h

theorem switchDisplay_within (x : Source) (h : CustodyWithin ok s) : CustodyWithin ok (switchDisplay x s) :=
  completeDisplay_within (h.congr (by simp))

theorem fsyncEdge_within (h : CustodyWithin ok s) : CustodyWithin ok (fsyncEdge s) := by
  unfold fsyncEdge
  split
  · exact switchDisplay_within _ h
  · exact h

theorem forcedSwitch_within (h : CustodyWithin ok s) : CustodyWithin ok (forcedSwitch s) := by
  unfold forcedSwitch
  split
  · split
    · exact switchDisplay_within _ (h.congr (by simp))
    · exact h
  · exact h

theorem characterComplete_within (h : CustodyWithin ok s) : CustodyWithin ok (characterComplete s) := by
  unfold characterComplete
  split
  · exact h
  · exact runPrinter_within (h.congr (by simp))

theorem printerStall_within (h : CustodyWithin ok s) : CustodyWithin ok (printerStall s) := by
  unfold printerStall
  split
  · exact completeTurnover_within .printer (h.congr (by simp))
  · exact h

theorem fieldResetExpiry_within (h : CustodyWithin ok s) : CustodyWithin ok (fieldResetExpiry s) := by
  unfold fieldResetExpiry
  split
  · split
    · dsimp only
      split
      · exact judgeGate_within (completeTurnover_within .cless (h.congr rfl))
      · exact judgeGate_within (h.congr rfl)
    · exact h
  · exact h

/-! ## Keys and the matcher -/

theorem matchFound_within (hp : PayMeets ok) (h : CustodyWithin ok s) : CustodyWithin ok (matchFound s) :=
  reportMatch_within hp (h.congr (by split <;> simp))

theorem scanEvent_within (hp : PayMeets ok) (contacts : BitVec 24) (h : CustodyWithin ok s) :
    CustodyWithin ok (scanEvent contacts s) := by
  rw [scanEvent_eq]
  extract_lets w _ _ t m u v
  have ht : t.custody = s.custody := (deliverRecords_frame w.records _).2.2.2.1
  have hv : v.custody = s.custody := by
    unfold v
    split
    · simpa [u] using ht
    · exact ht
  have hw : CustodyWithin ok v := h.congr (by rw [hv])
  split
  · exact matchFound_within hp hw
  · exact hw

theorem keyScan_within (hp : PayMeets ok) (contacts : BitVec 24) (h : CustodyWithin ok s) :
    CustodyWithin ok (keyScan contacts s) := by
  unfold keyScan
  split
  · exact scanEvent_within hp contacts h
  · exact h

theorem holdTimerMatch_within (hp : PayMeets ok) (h : CustodyWithin ok s) : CustodyWithin ok (holdTimerMatch s) := by
  unfold holdTimerMatch
  split
  · split
    · exact matchFound_within hp (h.congr rfl)
    · exact h
  · exact h

/-! ## Doze, and the transfers that bring it about -/

theorem dozeReplyCompleted_within (h : CustodyWithin ok s) : CustodyWithin ok (dozeReplyCompleted s) := by
  unfold dozeReplyCompleted
  split
  · dsimp only
    split
    · refine mapGrants_within Grant.dozeHold_holder ?_
      exact h.congr rfl
    · exact h.congr (by simp)
  · exact h

theorem frameComplete_within (l : Link) (h : CustodyWithin ok s) : CustodyWithin ok (frameComplete l s) := by
  unfold frameComplete
  split
  case h_1 x _ =>
    have hdrop : CustodyWithin ok (s.setPort l { s.port l with inFlight := none }) := h.congr (by simp)
    split
    · unfold reportCompletion
      split
      · split
        · exact dozeReplyCompleted_within hdrop
        · exact hdrop
      · exact hdrop.congr (by simp)
      · exact hdrop
    · exact h
  · exact h

theorem clockEdge_within (l : Link) (h : CustodyWithin ok s) : CustodyWithin ok (clockEdge l s) := by
  unfold clockEdge
  split
  · exact h
  · exact (frameComplete_within l h).congr (by simp)

theorem moveByte_within (l : Link) (b : Byte) (h : CustodyWithin ok s) : CustodyWithin ok (moveByte l b s) := by
  unfold moveByte
  split
  · exact h
  · exact (clockEdge_within l h).congr (by simp)

theorem arrive_within (l : Link) (a : Arrival) (h : CustodyWithin ok s) : CustodyWithin ok (arrive l a s) := by
  cases a with
  | edge => exact clockEdge_within l h
  | byte b => exact moveByte_within l b h

theorem transferEnd_within (l : Link) (h : CustodyWithin ok s) : CustodyWithin ok (transferEnd l s) := by
  unfold transferEnd
  split
  · exact h
  · exact (frameComplete_within l h).congr (by simp)

/-! ## The timebase -/

theorem lockIfDue_within (hp : PayMeets ok) (h : CustodyWithin ok s) : CustodyWithin ok (lockIfDue s) := by
  have hrun {t : State} (ht : CustodyWithin ok t) : CustodyWithin ok (runPendingTakeover t) := by
    unfold runPendingTakeover
    split
    · exact attentionTakeover_within hp (ht.congr rfl)
    · exact ht
  unfold lockIfDue
  split
  · split
    · have hlock := hrun (mapGrants_within Grant.dozeResume_holder
        (h.congr (t := { s with clock := { s.clock with fastClock := .locked, regime := .run } }) rfl))
      exact hlock.congr (by unfold lockEvent; dsimp only; split <;> simp)
    · exact h
  · exact h

theorem millisecond_within (h : CustodyWithin ok s) : CustodyWithin ok (millisecond s) := by
  refine mapGrants_within (Grant.tick_holder _) ?_
  exact h.congr rfl

/-- Every due event, in the order in which the model takes them (log entry 5). -/
theorem takeDue_within (hp : PayMeets ok) (h : CustodyWithin ok s) : CustodyWithin ok (takeDue s) := by
  have hstall : CustodyWithin ok (frameStall .r (frameStall .a (frameStall .p s))) := h.congr (by simp)
  have hquarter := quarterBoundary_within .printer (quarterBoundary_within .cless
    (quarterBoundary_within .display (quarterBoundary_within .keypad hstall)))
  have hheld := heldQuarter_within .printer (heldQuarter_within .cless
    (heldQuarter_within .display (heldQuarter_within .keypad hquarter)))
  have hblink {t : State} (ht : CustodyWithin ok t) : CustodyWithin ok (blinkToggle t) := ht.congr (by simp)
  have htimeout {t : State} (ht : CustodyWithin ok t) : CustodyWithin ok (exchangeTimeout t) := ht.congr (by simp)
  have hslot {t : State} (ht : CustodyWithin ok t) : CustodyWithin ok (slotBoundary t) := ht.congr (by simp)
  exact lockIfDue_within hp (hslot (fieldResetExpiry_within (htimeout (printerStall_within (hblink
    (forcedSwitch_within (holdTimerMatch_within hp (keyScan_within hp _ hheld))))))))

theorem referenceCycle_within (hp : PayMeets ok) (h : CustodyWithin ok s) : CustodyWithin ok (referenceCycle s) := by
  have hdue := takeDue_within hp h
  unfold referenceCycle
  dsimp only
  split
  · exact hdue.congr rfl
  · exact millisecond_within (hdue.congr rfl)

theorem referenceCycles_within (hp : PayMeets ok) (n : Nat) (h : CustodyWithin ok s) :
    CustodyWithin ok (referenceCycles n s) := by
  induction n generalizing s with
  | zero => exact h
  | succ n ih => exact ih (referenceCycle_within hp h)

theorem fastClockLock_within (hp : PayMeets ok) (h : CustodyWithin ok s) : CustodyWithin ok (fastClockLock s) := by
  unfold fastClockLock
  split
  · split
    · exact lockIfDue_within hp (referenceCycles_within hp _ h)
    · exact h
  · exact h

theorem partReset_within (c : ResetCause) (s : State) : CustodyWithin ok (partReset c s) := by
  have hfree (r : Resource) : (partReset c s).entry r = { state := .free, waiting := [] } := by cases r <;> rfl
  exact ⟨fun r => by rw [hfree]; exact .free, by simp [hfree, standing_eq_turnover]⟩

end
end Sys2Proof.Machine
end

section
/-! SUPPORT. That custody stays within its law, and within any condition on those who hold or wait, in the requests
(R29 to R40, R46 to R52, R58, R64, R69 to R74), and then in every command. -/

namespace Sys2Proof.Machine

variable {ok : Subject → Resource → Prop} {s : State} {r : Resource}

/-! ## Who makes a request -/

theorem holds_iff {who : Subject} : s.holds who r = true ↔ s.holder r = some who := by simp [State.holds]

theorem holder_eq_some {who : Subject} : s.holder r = some who ↔ ∃ g, (s.entry r).grant = some g ∧ g.holder = who :=
  Option.map_eq_some_iff

/-- Whoever passes the admission of a request that the R-link may not make is not RAD (R9, R23). -/
theorem requester_ne_rad {k : ReqKind} {l : Link} {f : Frame} (hk : ∀ t, k.permitted .r t = false)
    (h : admission k l f = none) : requester l f.tenant ≠ .rad := by
  cases l with
  | p => simp [requester]
  | a => simp [requester]
  | r => simp [admission, hk] at h; split at h <;> simp at h

/-- What the freed place, the reply and an admitted request's handler all keep, the processing of a frame keeps. -/
theorem processWhere_invariant (P : State → Prop) {mine : Frame → Bool} {k : ReqKind} {handler : Handler} {l : Link}
    (hport : ∀ s p, P s → P (s.setPort l p))
    (hh : ∀ f s, admission k l f = none → P s → P (handler l (requester l f.tenant) f.body s).1) {s : State}
    (h : P s) : P (processWhere mine k handler l s) := by
  unfold processWhere
  split
  case h_1 f _ =>
    split
    · unfold processFrame
      dsimp only
      split
      · exact hport _ _ (hport _ _ h)
      next hadm => exact hport _ _ (hh f _ hadm (hport _ _ h))
    · exact h
  case h_2 => exact h

theorem processWhere_within {mine : Frame → Bool} {k : ReqKind} {handler : Handler} {l : Link}
    (hh : ∀ w b t, CustodyWithin ok t → CustodyWithin ok (handler l w b t).1) (h : CustodyWithin ok s) :
    CustodyWithin ok (processWhere mine k handler l s) :=
  processWhere_invariant (CustodyWithin ok) (fun _ _ ht => ht.congr (by simp)) (fun _ _ _ ht => hh _ _ _ ht) h

/-! ## Policy writes and tenants (R31 to R39) -/

theorem dropStanding_within (who : Subject) (r : Resource) (h : CustodyWithin ok s) :
    CustodyWithin ok (dropStanding who r s) := by
  unfold dropStanding
  split
  · exact enterTurnover_within r .revoked h
  · split
    · exact changeWaiting_within h ((h.1 r).sublist List.filter_sublist)
    · exact h

theorem applyHoldLimit_within (limit : Nat) (h : CustodyWithin ok s) :
    CustodyWithin ok (applyHoldLimit r limit s) := by
  unfold applyHoldLimit
  split
  · exact h
  · split
    · split
      · exact expireHold_within (by assumption) rfl h
      · exact h
    · exact h

theorem policyOnHolder_within (who : Subject) (old new : PolicyEntry) (h : CustodyWithin ok s) :
    CustodyWithin ok (policyOnHolder who r old new s) := by
  unfold policyOnHolder
  split
  · exact h
  case h_2 g hg =>
    split
    · have hgrans : CustodyWithin ok
          (if new.grans ≠ old.grans then s.setGrant r (g.admitGrans new.grans) else s) := by
        split
        · exact h.setGrant hg (by simp)
        · exact h
      have hlimit {t : State} (ht : CustodyWithin ok t) : CustodyWithin ok
          (if new.holdLimit < old.holdLimit then applyHoldLimit r new.holdLimit t else t) := by
        split
        · exact applyHoldLimit_within _ ht
        · exact ht
      have hboth := hlimit hgrans
      dsimp only
      split
      · split
        case h_1 g' hg' => exact hboth.setGrant hg' rfl
        case h_2 => exact hboth
      · exact hboth
    · exact h

theorem policyOnWaiter_within (who : Subject) (old new : PolicyEntry) (h : CustodyWithin ok s) :
    CustodyWithin ok (policyOnWaiter who r old new s) := by
  unfold policyOnWaiter
  dsimp only
  split
  · refine changeWaiting_within h ?_
    have hperm := (orderWaiters_perm ((s.entry r).waiting.map fun w =>
      if w.subject = who then { w with priority := newPriority w.priority new.priority } else w)).map (·.subject)
    rw [List.map_map, show (fun w : Waiter => w.subject) ∘ (fun w : Waiter =>
      if w.subject = who then { w with priority := newPriority w.priority new.priority } else w)
        = fun w => w.subject from funext fun w => by simp only [Function.comp]; split <;> rfl] at hperm
    refine (h.1 r).changeList ((h.1 r).1.reorder (orderWaiters_pairwise _) hperm) fun w hw => ?_
    simpa using hperm.mem_iff.mp (List.mem_map_of_mem hw)
  · exact h

theorem policyEffects_within (who : Subject) (old new : PolicyEntry) (h : CustodyWithin ok s) :
    CustodyWithin ok (policyEffects who r old new s) := by
  unfold policyEffects
  split
  · exact dropStanding_within who r (h.congr (by simp))
  · exact policyOnWaiter_within who old new (policyOnHolder_within who old new h)

theorem endAllStanding_within (who : Subject) (h : CustodyWithin ok s) : CustodyWithin ok (endAllStanding who s) := by
  unfold endAllStanding
  have htell : CustodyWithin ok (allResources.foldl (fun s r => tellStandingEnds who r s) s) :=
    h.congr (by rw [foldl_keeps (fun s : State => s.custody) _ (fun _ _ => by simp)])
  simp only [allResources, List.foldl_cons, List.foldl_nil] at htell ⊢
  exact dropStanding_within who _ (dropStanding_within who _ (dropStanding_within who _
    (dropStanding_within who _ htell)))

theorem tenantEffects_within (n : Fin 16) (old new : TenantState) (h : CustodyWithin ok s) :
    CustodyWithin ok (tenantEffects n old new s) := by
  have hend : CustodyWithin ok (if old = .active ∧ new ≠ .active then endAllStanding (.app n) s else s) := by
    split
    · exact endAllStanding_within _ h
    · exact h
  unfold tenantEffects
  dsimp only
  split
  · exact hend.congr (by rw [foldl_keeps (fun s : State => s.custody) _ (fun _ _ => by simp)])
  · exact hend

theorem policySetHandler_within (l : Link) (w : Subject) (b : List Byte) (h : CustodyWithin ok s) :
    CustodyWithin ok (policySetHandler l w b s).1 := by
  unfold policySetHandler
  split
  · split
    · split
      · exact h
      · exact policyEffects_within _ _ _ (h.congr rfl)
    · exact h
  · exact h

theorem tenantSetHandler_within (l : Link) (w : Subject) (b : List Byte) (h : CustodyWithin ok s) :
    CustodyWithin ok (tenantSetHandler l w b s).1 := by
  unfold tenantSetHandler
  split
  · split
    · exact h
    · dsimp only
      split
      · exact h
      · split
        · exact h
        · split
          · exact h
          · exact tenantEffects_within _ _ _ (h.congr rfl)
  · exact h

/-! ## Claims (R46 to R50) -/

/-- The claimant joins the list while there is room (R44, R50). -/
theorem EntryWithin.place {ok : Subject → Prop} {e : CustodyEntry} {w : Waiter} (h : EntryWithin ok e)
    (hstate : e.state ≠ .free) (hlen : e.waiting.length < 6) (hr : w.subject ≠ .rad) (hw : ok w.subject)
    (hnew : ∀ v ∈ e.waiting, v.subject ≠ w.subject) (hhold : ∀ g, e.grant = some g → g.holder ≠ w.subject) :
    EntryWithin ok { e with waiting := placeWaiter w e.waiting } := by
  obtain ⟨hl, -, ho⟩ := h
  refine ⟨hl.place hlen hr hw hnew, fun hf => absurd hf hstate, fun g hg => ?_⟩
  obtain ⟨hgr, hgok, hgw⟩ := ho g hg
  refine ⟨hgr, hgok, fun v hv => ?_⟩
  rcases mem_placeWaiter.mp hv with rfl | hv
  · exact (hhold g hg).symm
  · exact hgw v hv

/-- The list after a preemption is in order (R49). -/
theorem preemptedList_within {ok : Subject → Prop} {e : CustodyEntry} {w : Waiter} {g : Grant}
    (h : EntryWithin ok e) (hg : e.grant = some g) (hlen : e.waiting.length < 6) (hr : w.subject ≠ .rad)
    (hw : ok w.subject) (hnew : ∀ v ∈ e.waiting, v.subject ≠ w.subject) (hhold : g.holder ≠ w.subject) :
    ListWithin ok (preemptedList w g e.waiting) := by
  obtain ⟨hl, -, ho⟩ := h
  obtain ⟨hgr, hgok, hgw⟩ := ho g hg
  have hplaced := hl.place hlen hr hw hnew
  unfold preemptedList
  dsimp only
  split
  next hroom =>
    refine hplaced.place hroom.2 hgr hgok fun v hv => ?_
    rcases mem_placeWaiter.mp hv with rfl | hv
    · exact hhold.symm
    · exact hgw v hv
  next => exact hplaced

/-- A claim that passed the tests of R46, by a subject that neither holds nor waits (R47). -/
structure ClaimTerms.Fresh (ok : Subject → Resource → Prop) (c : ClaimTerms) (s : State) : Prop where
  notRad : c.who ≠ .rad
  meets : ok c.who c.resource
  notHolder : ∀ g, (s.entry c.resource).grant = some g → g.holder ≠ c.who
  notWaiting : ∀ v ∈ (s.entry c.resource).waiting, v.subject ≠ c.who

variable {c : ClaimTerms}

/-- A grant starts for a subject that is not in the list (R48). -/
theorem startGrant_closes {who : Subject} {p : Nat} {o : BitVec 32} {f : Bool} {g : Gran} (h : CustodyOpen ok r s)
    (hr : who ≠ .rad) (hm : ok who r) (hn : ∀ w ∈ (s.entry r).waiting, w.subject ≠ who) :
    CustodyWithin ok (startGrant r who p o f g s) := by
  have hset : CustodyWithin ok (s.setGrant r (startLease who p o f g (s.policyOf who r).quarterLength)) :=
    CustodyOpen.close (r := r) (h.setEntry (by exact h.2.2))
      (by rw [setGrant_entry_self, entryWithin_owned]; exact ⟨h.2.2, hr, hm, hn⟩)
      fun _ => by simp [standing_eq_turnover]
  exact hset.congr (by simp [startGrant])

theorem claimFree_within (hc : c.Fresh ok s) (hf : (s.entry c.resource).state = .free) (h : CustodyWithin ok s) :
    CustodyWithin ok (claimFree c s).1 := by
  have hempty : (s.entry c.resource).waiting = [] := (h.1 c.resource).2.1 hf
  have hopen : CustodyOpen ok c.resource (takeArrival s).2 := (h.opened _).congr rfl
  unfold claimFree
  dsimp only
  split
  next hd =>
    refine enterTurnover_closes .revoked (CustodyOpen.setWaiting (hd.1 ▸ hopen) (.singleton hc.notRad ?_))
    exact hd.1 ▸ hc.meets
  next =>
    refine startGrant_closes hopen hc.notRad hc.meets fun w hw => ?_
    rw [show ((takeArrival s).2.entry c.resource).waiting = [] from hempty] at hw
    exact absurd hw List.not_mem_nil

theorem claimQueue_within (hc : c.Fresh ok s) (hf : (s.entry c.resource).state ≠ .free)
    (hlen : (s.entry c.resource).waiting.length < 6) (h : CustodyWithin ok s) :
    CustodyWithin ok (claimQueue c s).1 :=
  changeWaiting_within (h.congr rfl)
    ((h.1 c.resource).place hf hlen hc.notRad hc.meets hc.notWaiting hc.notHolder)

theorem claimPreempt_within {g : Grant} (hc : c.Fresh ok s) (hg : (s.entry c.resource).grant = some g)
    (hlen : (s.entry c.resource).waiting.length < 6) (h : CustodyWithin ok s) :
    CustodyWithin ok (claimPreempt c g s).1 := by
  have hopen : CustodyOpen ok c.resource (takeArrival s).2 := (h.opened _).congr rfl
  have hlist := preemptedList_within (w := c.waiter (takeArrival s).1) (h.1 c.resource) hg hlen hc.notRad hc.meets
    hc.notWaiting (hc.notHolder g hg)
  refine revokeGrant_closes .preempted _ ?_ (hopen.setWaiting hlist)
  have hgrant := CustodyEntry.grant_eq_some.mp hg
  simp [State.holder, CustodyEntry.grant, hgrant]

theorem claimTaken_within (hc : c.Fresh ok s) (hf : (s.entry c.resource).state ≠ .free) (h : CustodyWithin ok s) :
    CustodyWithin ok (claimTaken c s).1 := by
  have hqueue (hfull : ¬ Config.listPlaces ≤ (s.entry c.resource).waiting.length) :
      CustodyWithin ok (claimQueue c s).1 := claimQueue_within hc hf (by simpa [Config.listPlaces] using hfull) h
  unfold claimTaken
  dsimp only
  split
  case h_1 g hg =>
    split
    · split
      · exact h
      next hfull => exact claimPreempt_within hc hg (by simpa [Config.listPlaces] using hfull) h
    · split
      · exact h
      · split
        · exact h
        next hfull => exact hqueue (by simpa using hfull)
  case h_2 =>
    split
    · exact h
    · split
      · exact h
      next hfull => exact hqueue (by simpa using hfull)

theorem decideClaim_within (hr : c.who ≠ .rad) (hm : ok c.who c.resource) (h : CustodyWithin ok s) :
    CustodyWithin ok (decideClaim c s).1 := by
  unfold decideClaim
  dsimp only
  split
  · exact h
  next hhold =>
    split
    · exact h
    case h_2 hwait =>
      have hc : c.Fresh ok s := by
        refine ⟨hr, hm, fun g hg he => hhold ?_, findWaiter_eq_none.mp hwait⟩
        exact holds_iff.mpr (holder_eq_some.mpr ⟨g, hg, he⟩)
      split
      next hf => exact claimFree_within hc hf h
      next hf => exact claimTaken_within hc hf h

/-- Everyone who may stand on a resource meets the condition. -/
def Admits (ok : Subject → Resource → Prop) (s : State) : Prop := ∀ who r, s.mayStand who r → ok who r

theorem claimHandler_within (l : Link) {w : Subject} (b : List Byte) (hr : w ≠ .rad) (ha : Admits ok s)
    (h : CustodyWithin ok s) : CustodyWithin ok (claimHandler l w b s).1 := by
  unfold claimHandler
  split
  · split
    · dsimp only
      split
      · exact h
      next hact =>
        split
        · exact h
        next hallow => exact decideClaim_within hr (ha _ _ ⟨by simpa using hallow, by simpa using hact⟩) h
    · exact h
  · exact h

/-! ## The other requests on custody and on leases -/

theorem releaseHandler_within (l : Link) (w : Subject) (b : List Byte) (h : CustodyWithin ok s) :
    CustodyWithin ok (releaseHandler l w b s).1 := by
  unfold releaseHandler
  split
  · split
    · exact h
    · split
      · exact enterTurnover_within _ .released h
      · exact h
  · exact h

theorem withdrawHandler_within (l : Link) (w : Subject) (b : List Byte) (h : CustodyWithin ok s) :
    CustodyWithin ok (withdrawHandler l w b s).1 := by
  unfold withdrawHandler
  split
  · split
    · exact h
    · split
      · exact changeWaiting_within h ((h.1 _).sublist List.filter_sublist)
      · exact h
  · exact h

/-- The grant a requester holds is changed, and keeps its holder. -/
theorem setGrantOf_within {who : Subject} {g g' : Grant} (hg : s.grantOf who r = some g) (hh : g'.holder = g.holder)
    (h : CustodyWithin ok s) : CustodyWithin ok (s.setGrant r g') :=
  h.setGrant (Option.filter_eq_some_iff.mp hg).1 hh

theorem renewHandler_within (l : Link) (w : Subject) (b : List Byte) (h : CustodyWithin ok s) :
    CustodyWithin ok (renewHandler l w b s).1 := by
  unfold renewHandler
  split
  · split
    · exact h
    · split
      · exact h
      next hg =>
        split
        · exact h
        · exact setGrantOf_within hg (Grant.renew_holder _) h
  · exact h

theorem setGrainHandler_within (l : Link) (w : Subject) (b : List Byte) (h : CustodyWithin ok s) :
    CustodyWithin ok (setGrainHandler l w b s).1 := by
  unfold setGrainHandler
  split
  · split
    · split
      · exact h
      next hg =>
        split
        · exact h
        · exact setGrantOf_within hg (Grant.setGrain_holder _ _) h
    · exact h
  · exact h

theorem holdHandler_within (l : Link) (w : Subject) (b : List Byte) (h : CustodyWithin ok s) :
    CustodyWithin ok (holdHandler l w b s).1 := by
  unfold holdHandler
  split
  · split
    · exact h
    · split
      · exact h
      next hg =>
        dsimp only
        (repeat' split) <;> first | exact h | exact setGrantOf_within hg rfl h
  · exact h

theorem resumeHandler_within (l : Link) (w : Subject) (b : List Byte) (h : CustodyWithin ok s) :
    CustodyWithin ok (resumeHandler l w b s).1 := by
  unfold resumeHandler
  split
  · split
    · exact h
    · split
      · exact h
      next hg =>
        split
        · exact h
        · exact setGrantOf_within hg (Grant.resume_holder _) h
  · exact h

theorem printFlushHandler_within (l : Link) (w : Subject) (b : List Byte) (h : CustodyWithin ok s) :
    CustodyWithin ok (printFlushHandler l w b s).1 := by
  unfold printFlushHandler
  split
  · exact runPrinter_within (h.congr rfl)
  · exact h

theorem restartEntry_within (l : Link) (r : Resource) (h : CustodyWithin ok s) :
    CustodyWithin ok (restartEntry l s r) := by
  have hlist := (h.1 r).sublist (ws := (s.entry r).waiting.filter fun w => !w.subject.isOf l) List.filter_sublist
  have hends (held : Bool) : CustodyWithin ok
      (if held then enterTurnover r .revoked
        (s.setWaiting r ((s.entry r).waiting.filter fun w => !w.subject.isOf l))
      else if ((s.entry r).waiting.filter fun w => !w.subject.isOf l) ≠ (s.entry r).waiting then
        changeWaiting r ((s.entry r).waiting.filter fun w => !w.subject.isOf l) s
      else s) := by
    split
    · exact enterTurnover_within r .revoked (h.setWaiting hlist)
    · split
      · exact changeWaiting_within h hlist
      · exact h
  exact hends _

theorem restartCustody_within (l : Link) (h : CustodyWithin ok s) : CustodyWithin ok (restartCustody l s) := by
  unfold restartCustody
  split
  · exact h
  · simp only [allResources, List.foldl_cons, List.foldl_nil]
    exact restartEntry_within l _ (restartEntry_within l _ (restartEntry_within l _ (restartEntry_within l _ h)))

theorem restartHandler_within (l : Link) (w : Subject) (b : List Byte) (h : CustodyWithin ok s) :
    CustodyWithin ok (restartHandler l w b s).1 :=
  (restartCustody_within l (h.congr (t := restartLink l s) (by simp))).congr (by simp [restartHandler])

theorem claim_within (l : Link) (ha : Admits ok s) (h : CustodyWithin ok s) :
    CustodyWithin ok (processRequest .claim claimHandler l s) := by
  refine (processWhere_invariant (fun t => CustodyWithin ok t ∧ Admits ok t) ?_ ?_ ⟨h, ha⟩).1
  · exact fun t p ⟨ht, hat⟩ => ⟨ht.congr (by simp), hat⟩
  · rintro f t hadm ⟨ht, hat⟩
    refine ⟨claimHandler_within l _ (requester_ne_rad (fun _ => rfl) hadm) hat ht, fun who r hm => hat who r ?_⟩
    have hd := State.derived (s := (claimHandler l (requester l f.tenant) f.body t).1) (t := t)
    simpa [State.mayStand, hd.2.2.1 (by simp), (hd.2.2.2.1 (by simp)).1] using hm

end Sys2Proof.Machine
end

section
/-! SUPPORT. Every step keeps custody lawful, and every standing one that its subject may have (O52): a policy write
that withdraws allow, and a tenant that leaves ACTIVE, end the standings they forbid (R31, R38). -/

namespace Sys2Proof.Machine

variable {ok ok' : Subject → Resource → Prop} {s : State} {r : Resource} {who : Subject}

/-! ## A standing that ends (R31, R38) -/

theorem CustodyWithin.mono (h : CustodyWithin ok s) (hi : ∀ w q, ok w q → ok' w q) : CustodyWithin ok' s := by
  rw [custodyWithin_iff] at h ⊢
  obtain ⟨hl, ho⟩ := h
  exact ⟨hl, fun q => ⟨fun g hg => hi _ _ ((ho q).1 g hg), fun w hw => hi _ _ ((ho q).2 w hw)⟩⟩

/-- The subject has no standing on the resource: a further condition on those who hold and wait. -/
def Without (who : Subject) (r : Resource) (ok : Subject → Resource → Prop) : Subject → Resource → Prop :=
  fun w q => ok w q ∧ ¬ (w = who ∧ q = r)

theorem EntryWithin.without_other {q : Resource} (hq : q ≠ r) {e : CustodyEntry} (h : EntryWithin (ok · q) e) :
    EntryWithin (Without who r ok · q) e := by simpa only [Without, hq, and_false, not_false_eq_true, and_true] using h

theorem ListWithin.without {ws : List Waiter} (h : ListWithin (ok · r) ws) (hn : ∀ w ∈ ws, w.subject ≠ who) :
    ListWithin (Without who r ok · r) ws := ⟨h.1, fun w hw => ⟨h.2 w hw, fun he => hn w hw he.1⟩⟩

theorem EntryWithin.without {e : CustodyEntry} (h : EntryWithin (ok · r) e)
    (hg : ∀ g, e.grant = some g → g.holder ≠ who) (hn : ∀ w ∈ e.waiting, w.subject ≠ who) :
    EntryWithin (Without who r ok · r) e := by
  obtain ⟨hl, hf, ho⟩ := h
  refine ⟨hl.without hn, hf, fun g he => ?_⟩
  obtain ⟨hr, hm, hw⟩ := ho g he
  exact ⟨hr, ⟨hm, fun hc => hg g he hc.1⟩, hw⟩

/-- After its standing has ended the subject neither holds the resource nor waits for it. -/
theorem dropStanding_without (who : Subject) (r : Resource) (h : CustodyWithin ok s) :
    CustodyWithin (Without who r ok) (dropStanding who r s) := by
  obtain ⟨hl, -, ho⟩ := id (h.1 r)
  have hother (q : Resource) (hq : q ≠ r) : EntryWithin (Without who r ok · q) (s.entry q) :=
    (h.1 q).without_other hq
  unfold dropStanding
  split
  next hhold =>
    obtain ⟨g, hg, rfl⟩ := holder_eq_some.mp (holds_iff.mp hhold)
    exact enterTurnover_closes .revoked ⟨hother, fun _ => h.2, hl.without (ho g hg).2.2⟩
  next hhold =>
    have hnot (g : Grant) (hg : (s.entry r).grant = some g) : g.holder ≠ who := fun he =>
      hhold (holds_iff.mpr (holder_eq_some.mpr ⟨g, hg, he⟩))
    split
    next =>
      have hlist : ListWithin (Without who r ok · r) (dropWaiter who (s.entry r).waiting) :=
        (hl.sublist List.filter_sublist).without fun w hw => (mem_dropWaiter.mp hw).2
      have hset : CustodyWithin (Without who r ok) (s.setWaiting r (dropWaiter who (s.entry r).waiting)) := by
        refine CustodyOpen.close (r := r) ⟨fun q hq => ?_, fun hr => ?_, by simpa using hlist⟩ ?_ fun hk => ?_
        · simpa [setWaiting_entry, hq] using hother q hq
        · simpa [setWaiting_entry, hr.symm] using h.2
        · rw [setWaiting_entry_self]
          exact ((h.1 r).sublist List.filter_sublist).without hnot fun w hw => (mem_dropWaiter.mp hw).2
        · rw [setWaiting_entry_self]
          exact hk ▸ h.2
      unfold changeWaiting
      dsimp only
      split
      · exact reportDisplayHead_within hset
      · exact hset
    next hwait =>
      have hnone := findWaiter_eq_none.mp (by simpa using hwait)
      exact CustodyOpen.close ⟨hother, fun _ => h.2, hl.without hnone⟩ ((h.1 r).without hnot hnone)
        fun hk => hk ▸ h.2

theorem tellStandingEnds_all_custody (who : Subject) (s : State) :
    (allResources.foldl (fun s r => tellStandingEnds who r s) s).custody = s.custody :=
  foldl_keeps (fun s : State => s.custody) _ (fun _ _ => by simp) _ _

/-- After all its standing has ended the subject holds nothing and waits for nothing (R38). -/
theorem endAllStanding_without (who : Subject) (h : CustodyWithin ok s) :
    CustodyWithin (fun w q => ok w q ∧ w ≠ who) (endAllStanding who s) := by
  have htell : CustodyWithin ok (allResources.foldl (fun s r => tellStandingEnds who r s) s) :=
    h.congr (by rw [tellStandingEnds_all_custody])
  have hall := dropStanding_without who .printer (dropStanding_without who .cless
    (dropStanding_without who .display (dropStanding_without who .keypad htell)))
  refine CustodyWithin.mono hall fun w q hw => ?_
  obtain ⟨⟨⟨⟨hok, hk⟩, hd⟩, hc⟩, hp⟩ := hw
  refine ⟨hok, fun he => ?_⟩
  cases q with
  | keypad => exact hk ⟨he, rfl⟩
  | display => exact hd ⟨he, rfl⟩
  | cless => exact hc ⟨he, rfl⟩
  | printer => exact hp ⟨he, rfl⟩

/-! ## Every command -/

/-- A request that leaves the custody unit as it stands. -/
theorem frame_within {mine : Frame → Bool} {k : ReqKind} {handler : Handler} {l : Link}
    (hh : ∀ w b t, (handler l w b t).1.custody = t.custody) (h : CustodyWithin ok s) :
    CustodyWithin ok (processWhere mine k handler l s) :=
  processWhere_within (fun w b t ht => ht.congr (by rw [hh w b t])) h

theorem after_within (hp : PayMeets ok) (ha : Admits ok s) (h : CustodyWithin ok s) (c : Instr) :
    CustodyWithin ok (after c s) := by
  cases c
  case restart l => exact processWhere_within (fun w b _ ht => restartHandler_within l w b ht) h
  case policySet l => exact processWhere_within (fun w b _ ht => policySetHandler_within l w b ht) h
  case tenantSet l => exact processWhere_within (fun w b _ ht => tenantSetHandler_within l w b ht) h
  case claim l => exact claim_within l ha h
  case release l => exact processWhere_within (fun w b _ ht => releaseHandler_within l w b ht) h
  case withdraw l => exact processWhere_within (fun w b _ ht => withdrawHandler_within l w b ht) h
  case renew l => exact processWhere_within (fun w b _ ht => renewHandler_within l w b ht) h
  case setGrain l => exact processWhere_within (fun w b _ ht => setGrainHandler_within l w b ht) h
  case hold l => exact processWhere_within (fun w b _ ht => holdHandler_within l w b ht) h
  case resume l => exact processWhere_within (fun w b _ ht => resumeHandler_within l w b ht) h
  case printFlush l => exact processWhere_within (fun w b _ ht => printFlushHandler_within l w b ht) h
  case partReset l =>
    simp only [after, processPartReset]
    split
    · exact h
    · split
      · exact h
      · split
        · exact partReset_within .request s
        · split
          · exact h.congr (by simp)
          · exact h
  case pinReset => exact partReset_within .pin s
  case powerUp => exact partReset_within .power s
  case frameComplete l => exact frameComplete_within l h
  case frameReceived l b => simp only [after]; split; exacts [moveByte_within l b h, h]
  case frameLengthAbandoned l b => simp only [after]; split; exacts [moveByte_within l b h, h]
  case transferEnd l => exact transferEnd_within l h
  case arrivingByte l a => exact arrive_within l a h
  case quarterBoundary r => exact quarterBoundary_within r h
  case heldQuarter r => exact heldQuarter_within r h
  case keyScan contacts => exact keyScan_within hp contacts h
  case holdTimerMatch => exact holdTimerMatch_within hp h
  case fsyncEdge => exact fsyncEdge_within h
  case forcedSwitch => exact forcedSwitch_within h
  case characterComplete => exact characterComplete_within h
  case printerStall => exact printerStall_within h
  case fieldResetExpiry => exact fieldResetExpiry_within h
  case partTimeTick => exact referenceCycles_within hp _ h
  case fastClockLock => exact fastClockLock_within hp h
  case transferStart | outboundChoice | frameStall | unknownKind | blinkTimer | prdyActive | writeComplete
      | clrdyActive | exchangeTimeout | abortComplete | readComplete | clfevEdge | slotBoundary | txRequestRise
      | txRequestFall => exact h.congr (by simp [after])
  case time | conditions | conditionsEnable | policyGet | tenantGet | custodyQuery | keySetup | matchSetup | print
      | printSetup | clExchange | clSetup | airMap | airQuery | chBind | chUnbind | chQuery | chQuerySummary | send
      | data | doze => exact frame_within (fun _ _ _ => by simp) h

/-! ## Who may stand where -/

/-- PAY's fixed fields (R27). -/
def PayFixed (s : State) : Prop :=
  ∀ r : Resource, r = .keypad ∨ r = .display →
    (s.policyOf .pay r).allow = true ∧ (s.policyOf .pay r).preempt = true

/-- Custody within its law, everyone who holds or waits standing where it may, and PAY's fixed fields. -/
def LawfulStanding (s : State) : Prop := CustodyWithin s.mayStand s ∧ PayFixed s

theorem lawfulStanding_iff : CustodyLaw s ∧ StandingLaw s ↔ LawfulStanding s := by
  rw [LawfulStanding, custodyWithin_iff]
  exact and_assoc.symm

theorem PayFixed.payMeets (h : PayFixed s) : PayMeets s.mayStand :=
  ⟨⟨(h .keypad (.inl rfl)).1, rfl⟩, ⟨(h .display (.inr rfl)).1, rfl⟩⟩

/-- The commands that write the policy table or the tenant records. -/
theorem rights_reach (c : Instr) : (Block.policy ∉ reach c ∧ Block.tenants ∉ reach c)
    ∨ (∃ l, c = .policySet l) ∨ (∃ l, c = .tenantSet l) ∨ (∃ l, c = .partReset l)
    ∨ c = .pinReset ∨ c = .powerUp := by
  cases c
  case restart l => cases l <;> exact .inl (by decide)
  all_goals simp [reach, transferBlocks, turnoverBlocks, portBlocks]

theorem after_rights (c : Instr) (hp : Block.policy ∉ reach c) (ht : Block.tenants ∉ reach c) :
    (after c s).policy = s.policy ∧ (after c s).tenants = s.tenants := by
  have hreq {mine : Frame → Bool} {k : ReqKind} {handler : Handler} {l : Link}
      (hh : ∀ w b t, (handler l w b t).1.policy = t.policy ∧ (handler l w b t).1.tenants = t.tenants) :
      (processWhere mine k handler l s).policy = s.policy ∧ (processWhere mine k handler l s).tenants = s.tenants :=
    ⟨processWhere_keeps (·.policy) l (fun _ _ => rfl) mine k handler (fun w b t => (hh w b t).1) s,
      processWhere_keeps (·.tenants) l (fun _ _ => rfl) mine k handler (fun w b t => (hh w b t).2) s⟩
  cases c
  case policySet | partReset | pinReset | powerUp => simp [reach] at hp
  case tenantSet => simp [reach] at ht
  case frameReceived | frameLengthAbandoned => simp only [after]; split <;> simp
  case restart | time | conditions | conditionsEnable | policyGet | tenantGet | claim | release | withdraw
      | custodyQuery | renew | setGrain | hold | resume | keySetup | matchSetup | print | printFlush | printSetup
      | clExchange | clSetup | airMap | airQuery | chBind | chUnbind | chQuery | chQuerySummary | send | data
      | doze => exact hreq fun _ _ _ => by simp
  all_goals simp [after]

/-- Where policy and tenants stand, so does who may stand where. -/
theorem standing_step {t : State} (hp : t.policy = s.policy) (ht : t.tenants = s.tenants)
    (hw : CustodyWithin s.mayStand s → CustodyWithin s.mayStand t) (h : LawfulStanding s) : LawfulStanding t := by
  have hd := State.derived (s := t) (t := s)
  have hpol := hd.2.2.1 hp
  have hmay : t.mayStand = s.mayStand := by
    funext who r
    simp only [State.mayStand, hpol, (hd.2.2.2.1 ht).1]
  exact ⟨hmay ▸ hw h.1, by simpa only [PayFixed, hpol] using h.2⟩

/-! ## The two requests that write who may stand where -/

theorem policyOf_write {who : Subject} (hr : who ≠ .rad) (r : Resource) (e : PolicyEntry) (w : Subject)
    (q : Resource) :
    ({ s with policy := s.policy.write who r e } : State).policyOf w q =
      if w = who ∧ q = r then e else s.policyOf w q := by
  unfold State.policyOf
  cases who with
  | pay => cases w <;> simp [PolicyTable.write, PolicyTable.row, PerResource.get_set]
  | rad => exact absurd rfl hr
  | app i =>
    cases w with
    | pay => simp [PolicyTable.write, PolicyTable.row]
    | rad => simp [PolicyTable.write, PolicyTable.row]
    | app j =>
      rcases eq_or_ne j i with rfl | hj
      · simp [PolicyTable.write, PolicyTable.row, PerResource.get_set]
      · have hv : i.val ≠ j.val := fun h => hj (Fin.ext h.symm)
        simp [PolicyTable.write, PolicyTable.row, hj, hv]

theorem writesFixed_eq_false {who : Subject} {r : Resource} {allow preempt : Bool}
    (h : writesFixed who r allow preempt = false) :
    who ≠ .rad ∧ (who = .pay → r = .keypad ∨ r = .display → allow = true ∧ preempt = true) := by
  cases who with
  | rad => simp [writesFixed] at h
  | app i => simp
  | pay =>
    refine ⟨by simp, fun _ hr => ?_⟩
    rcases hr with rfl | rfl <;> simpa [writesFixed] using h

/-- A policy write with its effects leaves everyone where it may stand (R27, R31). -/
theorem policyWrite_standing (new : PolicyEntry) (hf : writesFixed who r new.allow new.preempt = false)
    (h : LawfulStanding s) {t : State}
    (ht : t = policyEffects who r (s.policyOf who r) new { s with policy := s.policy.write who r new }) :
    LawfulStanding t := by
  obtain ⟨hs, hpay⟩ := h
  obtain ⟨hrad, hfixed⟩ := writesFixed_eq_false hf
  have hpol (w : Subject) (q : Resource) :
      t.policyOf w q = if w = who ∧ q = r then new else s.policyOf w q := by
    rw [← policyOf_write hrad r new w q, ht]
    exact (State.derived.2.2.1 (by simp)) w q
  have hact (w : Subject) : t.mayAct w = s.mayAct w := by
    rw [ht]
    exact (State.derived.2.2.2.1 (by simp)).1 w
  have hwritten : CustodyWithin s.mayStand { s with policy := s.policy.write who r new } := hs.congr rfl
  refine ⟨?_, fun q hq => ?_⟩
  · by_cases hw : (s.policyOf who r).allow = true ∧ new.allow = false
    · have hend : CustodyWithin (Without who r s.mayStand) t := by
        rw [ht]
        simp only [policyEffects, hw, Bool.false_eq_true, not_false_eq_true, and_self, if_true]
        exact dropStanding_without who r (hwritten.congr (by simp))
      refine hend.mono fun w q hm => ?_
      obtain ⟨⟨ha, hm⟩, hne⟩ := hm
      exact ⟨by rw [hpol, if_neg hne]; exact ha, by rw [hact]; exact hm⟩
    · have hall : CustodyWithin s.mayStand t := ht ▸ policyEffects_within who _ new hwritten
      refine hall.mono fun w q hm => ?_
      obtain ⟨ha, hm⟩ := hm
      refine ⟨?_, by rw [hact]; exact hm⟩
      rw [hpol]
      split
      next hwq =>
        obtain ⟨rfl, rfl⟩ := hwq
        simpa [ha] using hw
      next => exact ha
  · rw [hpol]
    split
    next hwq =>
      obtain ⟨rfl, rfl⟩ := hwq
      exact hfixed rfl hq
    next => exact hpay q hq

theorem policySet_standing (l : Link) (h : LawfulStanding s) : LawfulStanding (after (.policySet l) s) := by
  refine processWhere_invariant LawfulStanding ?_ ?_ h
  · exact fun t p ht => standing_step (t := t.setPort l p) rfl rfl (fun hw => hw.congr (by simp)) ht
  · intro f t _ ht
    unfold policySetHandler
    split
    · split
      · split
        · exact ht
        next hf =>
          dsimp only
          exact policyWrite_standing _ (by simpa using hf) ht rfl
      · exact ht
    · exact ht

theorem tenant_write (s : State) (n m : Fin 16) (x : TenantRecord) :
    ({ s with tenants := s.tenants.set n x } : State).tenant m = if m = n then x else s.tenant m := by
  rcases eq_or_ne m n with rfl | hm
  · simp [State.tenant]
  · have hv : n.val ≠ m.val := fun h => hm (Fin.ext h.symm)
    simp [State.tenant, hm, hv]

/-- A tenant's record is written with its effects, and everyone may stand where it stands (R38). -/
theorem tenantWrite_standing (n : Fin 16) (st : TenantState) (a : Nat) (h : LawfulStanding s) {t : State}
    (ht : t = tenantEffects n (s.tenant n).state st
      { s with tenants := s.tenants.set n { state := st, allowance := a } }) :
    LawfulStanding t := by
  obtain ⟨hs, hpay⟩ := h
  have hpol (w : Subject) (q : Resource) : t.policyOf w q = s.policyOf w q := by
    rw [ht]
    exact (State.derived.2.2.1 (by simp)) w q
  have hact (w : Subject) : t.mayAct w = if w = .app n then st == .active else s.mayAct w := by
    cases w with
    | pay => rfl
    | rad => rfl
    | app m =>
      have hrec : t.tenant m = if m = n then { state := st, allowance := a } else s.tenant m := by
        rw [← tenant_write, ht]
        simp [State.tenant]
      simp only [State.mayAct, hrec, Subject.app.injEq]
      split <;> rfl
  have hwritten : CustodyWithin s.mayStand { s with tenants := s.tenants.set n { state := st, allowance := a } } :=
    hs.congr rfl
  refine ⟨?_, by simpa only [PayFixed, hpol] using hpay⟩
  by_cases hleave : (s.tenant n).state = .active ∧ st ≠ .active
  · have hend : CustodyWithin (fun w q => s.mayStand w q ∧ w ≠ .app n) t := by
      refine CustodyWithin.congr (endAllStanding_without (.app n) hwritten) ?_
      rw [ht]
      simp only [tenantEffects, hleave, ne_eq, not_false_eq_true, and_self, if_true]
      split
      · rw [foldl_keeps (fun s : State => s.custody) _ (fun _ _ => by simp)]
      · rfl
    refine hend.mono fun w q hm => ?_
    obtain ⟨⟨ha, hm⟩, hne⟩ := hm
    exact ⟨by rw [hpol]; exact ha, by rw [hact, if_neg hne]; exact hm⟩
  · have hall : CustodyWithin s.mayStand t := ht ▸ tenantEffects_within n _ st hwritten
    refine hall.mono fun w q hm => ?_
    obtain ⟨ha, hm⟩ := hm
    refine ⟨by rw [hpol]; exact ha, ?_⟩
    rw [hact]
    split
    next hw =>
      subst hw
      simpa [show (s.tenant n).state = .active by simpa [State.mayAct] using hm] using hleave
    next => exact hm

theorem tenantSet_standing (l : Link) (h : LawfulStanding s) : LawfulStanding (after (.tenantSet l) s) := by
  refine processWhere_invariant LawfulStanding ?_ ?_ h
  · exact fun t p ht => standing_step (t := t.setPort l p) rfl rfl (fun hw => hw.congr (by simp)) ht
  · intro f t _ ht
    unfold tenantSetHandler
    split
    · split
      · exact ht
      · dsimp only
        split
        · exact ht
        · split
          · exact ht
          · split
            · exact ht
            · exact tenantWrite_standing _ _ _ ht rfl
    · exact ht

/-! ## Every step -/

theorem partReset_standing (c : ResetCause) (s : State) : LawfulStanding (partReset c s) :=
  ⟨partReset_within c s, fun r hr => by rcases hr with rfl | rfl <;> exact ⟨rfl, rfl⟩⟩

theorem after_standing (c : Instr) (h : LawfulStanding s) : LawfulStanding (after c s) := by
  rcases rights_reach c with ⟨hp, ht⟩ | ⟨l, rfl⟩ | ⟨l, rfl⟩ | ⟨l, rfl⟩ | rfl | rfl
  · obtain ⟨hpol, hten⟩ := after_rights (s := s) c hp ht
    exact standing_step hpol hten (fun hw => after_within h.2.payMeets (fun _ _ hm => hm) hw c) h
  · exact policySet_standing l h
  · exact tenantSet_standing l h
  · have hreset := partReset_standing .request s
    have hreply {t : State} (hc : t.custody = s.custody) (hp : t.policy = s.policy) (ht : t.tenants = s.tenants) :
        LawfulStanding t := standing_step hp ht (fun hw => hw.congr (by rw [hc])) h
    simp only [after, processPartReset]
    split
    · exact h
    · split
      · exact h
      · split
        · exact hreset
        · split
          · exact hreply (by simp) (by simp) (by simp)
          · exact h
  · exact partReset_standing .pin s
  · exact partReset_standing .power s

theorem referenceCycle_standing (h : LawfulStanding s) : LawfulStanding (referenceCycle s) :=
  standing_step (by simp) (by simp) (referenceCycle_within h.2.payMeets) h

/-- Settles O52: custody that is lawful stays so for any condition on its subjects, and with the condition "may
stand" that is the law of standing, but for the commands that write policy and tenants, which are taken apart. -/
theorem custodyStaysLawful : Obligations.CustodyStaysLawful := by
  refine ⟨fun s t hstep hs => ?_, fun s t hstep hs hstand => ?_⟩
  · rw [custodyLaw_iff] at hs ⊢
    exact step_keeps (CustodyWithin fun _ _ => True) (fun _ _ h => h.congr rfl)
      (fun c u h => after_within ⟨trivial, trivial⟩ (fun _ _ _ => trivial) h c)
      (fun u h => referenceCycle_within ⟨trivial, trivial⟩ h) hstep hs
  · have hall := step_keeps LawfulStanding
      (fun u q h => standing_step (t := { u with pending := q }) rfl rfl (fun hw => hw.congr rfl) h)
      (fun c u h => after_standing c h) (fun u h => referenceCycle_standing h) hstep
      (lawfulStanding_iff.mp ⟨hs, hstand⟩)
    exact (lawfulStanding_iff.mpr hall).2

end Sys2Proof.Machine
end

section
/-! SUPPORT. An admitted request whose handler is known, and the bytes of its body as they are read (R8 to R10, R23,
R29, R36). With them the reads of policy entries, tenant records and custody entries (O22, O29) and the write of a
policy entry (O20). -/

namespace Sys2Proof.Machine

/-! ## The processing of an admitted request (R8 to R10) -/

theorem reqKindOf_code (k : ReqKind) : reqKindOf k.code = some k := by cases k <;> rfl

theorem admission_of_admitted {k : ReqKind} {l : Link} {f : Frame} {s : State} (h : Admitted k l f s) :
    admission k l f = none := by
  obtain ⟨-, -, htenant, hlink, hlen⟩ := h
  have hplace : ¬ (l ≠ .a ∧ f.tenant ≠ 0) ∧ ¬ (l = .a ∧ 16 ≤ f.tenant.toNat) := by
    split at htenant
    next hl => exact ⟨fun hc => hc.1 hl, fun hc => absurd hc.2 (Nat.not_le.mpr htenant)⟩
    next hl => exact ⟨fun hc => hc.2 htenant, fun hc => hl hc.1⟩
  rw [admission, if_neg hplace.1, if_neg hplace.2, if_neg (not_not.mpr hlink), if_neg (not_not.mpr hlen)]

theorem oldestOpen_of_waiting {l : Link} {f : Frame} {s : State} (h : Waiting l f s) : s.oldestOpen l = some f := by
  obtain ⟨hrun, hslot, hhead⟩ := h
  simp [State.oldestOpen, State.mayProcess, State.running, Config.replySlots, hrun, hslot, hhead]

/-- An admitted request: the frame gives up its place, the owning block acts and its reply enters a slot. -/
theorem processRequest_admitted {k : ReqKind} {handler : Handler} {l : Link} {f : Frame} {s t : State}
    {body : List Byte} (h : Admitted k l f s)
    (hh : handler l (requester l f.tenant) f.body (dropOldest l s) = (t, body)) :
    processRequest k handler l s = placeReply l (replyFrame f body) t := by
  have hkind : f.isKind k = true := by simp [Frame.isKind, h.2.1, reqKindOf_code]
  simp [processRequest, processWhere, oldestOpen_of_waiting h.1, hkind, processFrame, admission_of_admitted h, hh]

@[simp] theorem dropOldest_tenantCount (l : Link) (n : Fin 16) (s : State) :
    (dropOldest l s).tenantCount n = s.tenantCount n := rfl

@[simp] theorem dropOldest_tenant (l : Link) (n : Fin 16) (s : State) : (dropOldest l s).tenant n = s.tenant n := rfl

/-! ## Bytes of a request's body -/

theorem byte_eq_of_toNat {b : Byte} {n : Nat} (hn : n < 256) (h : b.toNat = n) : b = BitVec.ofNat 8 n :=
  BitVec.eq_of_toNat_eq (by simp [h, Nat.mod_eq_of_lt hn])

theorem resourceOf_eq_none {b : Byte} : resourceOf b = none ↔ 4 ≤ b.toNat := by
  unfold resourceOf
  (repeat' split) <;> simp only [reduceCtorEq, false_iff, true_iff] <;> bv_omega

theorem resourceCode_of {b : Byte} {r : Resource} (h : resourceOf b = some r) : resourceCode r = b := by
  unfold resourceOf at h
  (repeat' split at h) <;> cases h <;> (subst_vars; rfl)

theorem flagOf_eq_none {b : Byte} : flagOf b = none ↔ 2 ≤ b.toNat := by
  unfold flagOf
  (repeat' split) <;> simp only [reduceCtorEq, false_iff, true_iff] <;> bv_omega

theorem flagOf_of_lt {b : Byte} (h : b.toNat < 2) : flagOf b = some (decide (b = 1)) := by
  have hb : b = 0 ∨ b = 1 := by bv_omega
  rcases hb with rfl | rfl <;> rfl

theorem granSetOf_eq_none {b : Byte} : granSetOf b = none ↔ b = 0 ∨ 8 ≤ b.toNat := by
  unfold granSetOf; split <;> simp_all

theorem granSetOf_of {b : Byte} (h0 : b ≠ 0) (h8 : b.toNat < 8) :
    granSetOf b = some ⟨b.getLsbD 0, b.getLsbD 1, b.getLsbD 2⟩ := by
  rw [granSetOf, if_neg (not_or.mpr ⟨h0, Nat.not_le.mpr h8⟩)]

theorem tenantOf_eq_none {b : Byte} : tenantOf b = none ↔ 16 ≤ b.toNat := by simp [tenantOf]

theorem tenantOf_of {b : Byte} {n : Fin 16} (h : b.toNat = n.val) : tenantOf b = some n := by
  simp [tenantOf, h]

/-! ## Reading policy entries and tenant records (R30, R37) -/

theorem mayRead_eq_true {reader target : Subject} :
    mayRead reader target = true ↔ reader = .pay ∨ reader = .app 0 ∨ reader = target := by
  simp [mayRead, or_assoc]

theorem mayRead_eq_false {reader target : Subject} (hp : reader ≠ .pay) (h0 : reader ≠ .app 0)
    (ht : reader ≠ target) : mayRead reader target = false := by simp [mayRead, hp, h0, ht]

theorem policyGet_reply {l : Link} {f : Frame} {sc rc : Byte} {s : State} (h : Admitted .policyGet l f s)
    (hb : f.body = [sc, rc]) {c : ReplyCode} {data : List Byte}
    (hh : policyGetHandler l (requester l f.tenant) [sc, rc] (dropOldest l s)
      = (dropOldest l s, replyBody c data)) :
    exec (.policyGet l) s = .next (replied l f c data (dropOldest l s)) :=
  congrArg _ (processRequest_admitted h (hb ▸ hh))

theorem tenantGet_reply {l : Link} {f : Frame} {tb : Byte} {s : State} (h : Admitted .tenantGet l f s)
    (hb : f.body = [tb]) {c : ReplyCode} {data : List Byte}
    (hh : tenantGetHandler l (requester l f.tenant) [tb] (dropOldest l s) = (dropOldest l s, replyBody c data)) :
    exec (.tenantGet l) s = .next (replied l f c data (dropOldest l s)) :=
  congrArg _ (processRequest_admitted h (hb ▸ hh))

/-- Settles O22: the handlers' tests, one clause each. -/
theorem policyAndTenantReads : Obligations.PolicyAndTenantReads := by
  refine ⟨fun l f sc rc s h hb => ⟨fun hbad => ?_, fun who r hs hr => ⟨fun hm => ?_, fun hp h0 hw => ?_⟩⟩,
    fun l f tb s h hb => ⟨fun hbad => ?_, fun n hn => ⟨fun hm => ?_, fun hp h0 hw => ?_⟩⟩⟩
  · refine policyGet_reply h hb ?_
    rcases hbad with hs | hr
    · simp [policyGetHandler, hs, refuse]
    · simp [policyGetHandler, resourceOf_eq_none.mpr hr, refuse]
  · exact policyGet_reply h hb (by simp [policyGetHandler, hs, hr, mayRead_eq_true.mpr hm])
  · exact policyGet_reply h hb (by simp [policyGetHandler, hs, hr, mayRead_eq_false hp h0 hw, refuse])
  · exact tenantGet_reply h hb (by simp [tenantGetHandler, tenantOf_eq_none.mpr hbad, refuse])
  · refine tenantGet_reply h hb ?_
    rcases eq_or_ne n 0 with rfl | h0
    · have htb : tb = 0 := byte_eq_of_toNat (by decide) hn
      simp only [tenantGetHandler, tenantOf_of hn, mayRead_eq_true.mpr hm, if_true, TenantState.code]
      rw [htb]
    · simp [tenantGetHandler, tenantOf_of hn, mayRead_eq_true.mpr hm, h0]
  · exact tenantGet_reply h hb (by simp [tenantGetHandler, tenantOf_of hn, mayRead_eq_false hp h0 hw, refuse])

/-! ## CUSTODY_QUERY (R59) -/

theorem custodyQuery_reply {l : Link} {f : Frame} {rb : Byte} {r : Resource} {s : State}
    (h : Admitted .custodyQuery l f s) (hb : f.body = [rb]) (hr : resourceOf rb = some r) {data : List Byte}
    (hd : custodyBytes (requester l f.tenant) r (s.entry r) = data) :
    exec (.custodyQuery l) s = .next (reported l f data s) :=
  congrArg _ (processRequest_admitted h (by simp [hb, custodyQueryHandler, hr, hd]))

/-- The data of the reply, with the fields from holder to phase at hold entry given (table of R59). -/
theorem custodyBytes_eq {reader : Subject} {rb : Byte} {r : Resource} {e : CustodyEntry} (hr : resourceOf rb = some r)
    {g : List Byte} (hg : grantBytes reader e.grant = g) :
    custodyBytes reader r e = [rb, e.standing.code] ++ g ++ byte e.waiting.length :: e.waiting.flatMap fun w =>
      [shownCode reader w.subject, byte w.priority, w.gran.code, w.origin.code] := by
  simp only [custodyBytes, resourceCode_of hr, hg, List.cons_append, List.nil_append]
  rfl

/-- An app tenant other than the platform sees a subject's code unchanged where the others are renamed among
themselves (R23, R59). -/
theorem shownCode_renamed {n : Fin 16} {m : Subject → Subject} (h0 : n ≠ 0) (hpay : m .pay = .pay)
    (hrad : m .rad = .rad) (hn : m (.app n) = .app n)
    (hothers : ∀ k : Fin 16, k ≠ n → ∃ k' : Fin 16, k' ≠ n ∧ m (.app k) = .app k') (w : Subject) :
    shownCode (.app n) (m w) = shownCode (.app n) w := by
  cases w with
  | pay => rw [hpay]
  | rad => rw [hrad]
  | app k =>
    rcases eq_or_ne k n with rfl | hk
    · rw [hn]
    · obtain ⟨k', hk', he⟩ := hothers k hk
      simp [he, shownCode, h0, hk, hk', Subject.isApp]

/-- What is shown of an entry depends on its subjects by their shown codes alone. -/
theorem custodyBytes_renamed {reader : Subject} {m : Subject → Subject}
    (h : ∀ w, shownCode reader (m w) = shownCode reader w) (r : Resource) (e : CustodyEntry) :
    custodyBytes reader r (Renamed m e) = custodyBytes reader r e := by
  obtain ⟨st, ws⟩ := e
  have hlist : (ws.map fun w => { w with subject := m w.subject }).flatMap (waiterBytes reader)
      = ws.flatMap (waiterBytes reader) := by
    rw [List.flatMap_map]
    exact congrArg (List.flatMap · ws) (funext fun w => by simp [waiterBytes, h])
  cases st with
  | free => simp only [custodyBytes, hlist, List.length_map]; rfl
  | turnover k => simp only [custodyBytes, hlist, List.length_map]; rfl
  | owned g =>
    have hgrant : grantBytes reader (some { g with holder := m g.holder }) = grantBytes reader (some g) := by
      simp [grantBytes, h]
    simp only [custodyBytes, hlist, List.length_map, CustodyEntry.grant_owned, ← hgrant]
    rfl

/-- Settles O29: the table's fields by the entry's state, and the renaming through the shown codes. -/
theorem custodyQueryShowsWhatTheReaderMaySee : Obligations.CustodyQueryShowsWhatTheReaderMaySee := by
  refine ⟨fun l f rb s h hb => ⟨fun hbad => ?_, fun r hr => ?_⟩, fun n m r e h0 hpay hrad hn hothers =>
    custodyBytes_renamed (shownCode_renamed h0 hpay hrad hn hothers) r e⟩
  · exact congrArg _ (processRequest_admitted h
      (by simp [hb, custodyQueryHandler, resourceOf_eq_none.mpr hbad, refuse]))
  · have hstate {g : Grant} (hg : (s.entry r).grant = some g) := CustodyEntry.grant_eq_some.mp hg
    refine ⟨fun g hg hhold => ?_, fun g n held len p hg hhold => ?_, fun hg => ?_⟩
    · refine custodyQuery_reply h hb hr ((custodyBytes_eq hr rfl).trans ?_)
      simp [hg, CustodyEntry.standing, hstate hg, hhold, EntryStanding.code, grantBytes, holdBytes, signedByte,
        flagByte]
    · refine custodyQuery_reply h hb hr ((custodyBytes_eq hr rfl).trans ?_)
      simp [hg, CustodyEntry.standing, hstate hg, hhold, EntryStanding.code, grantBytes, holdBytes, signedByte,
        flagByte]
    · refine custodyQuery_reply h hb hr ((custodyBytes_eq hr rfl).trans ?_)
      have hcode : (s.entry r).standing.code = if (s.entry r).standing = .free then 0 else 3 := by
        unfold CustodyEntry.standing
        cases hst : (s.entry r).state with
        | free => rfl
        | owned g => simp [CustodyEntry.grant, hst] at hg
        | turnover k => rfl
      simp [hg, hcode, grantBytes, nobodyCode]

/-! ## POLICY_SET (R27, R29) -/

theorem clampTo_zero_eq (hi n : Nat) : clampTo 0 hi n = min hi n := by
  unfold clampTo; split <;> (try split) <;> omega

theorem clampTo_eq {lo hi : Nat} (h : lo ≤ hi) (n : Nat) : clampTo lo hi n = max lo (min hi n) := by
  unfold clampTo; split <;> (try split) <;> omega

theorem writesFixed_iff {who : Subject} {r : Resource} {ab eb : Byte} (ha : ab.toNat < 2) (he : eb.toNat < 2) :
    writesFixed who r (decide (ab = 1)) (decide (eb = 1)) = true ↔
      who = .rad ∨ (who = .pay ∧ (r = .keypad ∨ r = .display) ∧ (ab = 0 ∨ eb = 0)) := by
  have hab : ab = 0 ∨ ab = 1 := by bv_omega
  have heb : eb = 0 ∨ eb = 1 := by bv_omega
  cases who with
  | rad => simp [writesFixed]
  | app i => simp [writesFixed]
  | pay => rcases hab with rfl | rfl <;> rcases heb with rfl | rfl <;> cases r <;> simp [writesFixed]

/-- The handler's answer to a body whose fields are all good. -/
theorem policySetHandler_good {l : Link} {w who : Subject} {r : Resource} {sc rc ab pb eb qh ql gb hb : Byte}
    {s : State} (hs : subjectOf sc = some who) (hr : resourceOf rc = some r) (ha : ab.toNat < 2) (he : eb.toNat < 2)
    (h0 : gb ≠ 0) (h8 : gb.toNat < 8) {new : PolicyEntry}
    (hn : new = { allow := ab = 1, priority := min 7 pb.toNat, preempt := eb = 1
                  quarterLength := max 5 (min 15000 (number2 qh ql))
                  grans := ⟨gb.getLsbD 0, gb.getLsbD 1, gb.getLsbD 2⟩, holdLimit := hb.toNat }) :
    policySetHandler l w [sc, rc, ab, pb, eb, qh, ql, gb, hb] s =
      if writesFixed who r (decide (ab = 1)) (decide (eb = 1)) then refuse .fixed s
      else (policyEffects who r (s.policyOf who r) new { s with policy := s.policy.write who r new },
        replyBody (if new.priority = pb.toNat ∧ new.quarterLength = number2 qh ql then .ok else .clamped)
          (sc :: rc :: new.bytes)) := by
  subst hn
  simp only [policySetHandler, hs, hr, flagOf_of_lt ha, flagOf_of_lt he, granSetOf_of h0 h8, clampTo_zero_eq,
    clampTo_eq (show 5 ≤ 15000 by decide)]
  split
  · rfl
  · simp only [okOr, Bool.or_eq_true, bne_iff_ne, ne_eq, ← not_and_or, ite_not]

/-- Settles O20: a failing test decides the reply, and a body that passes is written with its effects, which leave
the policy table as written. -/
theorem policySetWritesLimitedValues : Obligations.PolicySetWritesLimitedValues := by
  intro l f sc rc ab pb eb qh ql gb hb s h hbody
  have hanswer {t : State} {body : List Byte}
      (hh : policySetHandler l (requester l f.tenant) [sc, rc, ab, pb, eb, qh, ql, gb, hb] (dropOldest l s)
        = (t, body)) : exec (.policySet l) s = .next (placeReply l (replyFrame f body) t) :=
    congrArg _ (processRequest_admitted h (hbody ▸ hh))
  refine ⟨fun hbad => hanswer ?_, fun who r hs hr ha he h0 h8 => ⟨fun hfix => hanswer ?_, ?_⟩⟩
  · rw [← resourceOf_eq_none, ← flagOf_eq_none, ← flagOf_eq_none, ← or_assoc, ← or_assoc, ← or_assoc, or_assoc,
      ← granSetOf_eq_none] at hbad
    unfold policySetHandler
    dsimp only
    split
    next hs hr ha he hg => simp [hs, hr, ha, he, hg] at hbad
    next => rfl
  · rw [policySetHandler_good hs hr ha he h0 h8 rfl, if_pos ((writesFixed_iff ha he).mpr hfix)]
    rfl
  · intro hrad hpay new hnew
    have hfree : ¬ writesFixed who r (decide (ab = 1)) (decide (eb = 1)) = true := fun hw =>
      ((writesFixed_iff ha he).mp hw).elim hrad hpay
    have hpol (w : Subject) (q : Resource) : (policyEffects who r (s.policyOf who r) new
        { dropOldest l s with policy := s.policy.write who r new }).policyOf w q
          = if w = who ∧ q = r then new else s.policyOf w q :=
      ((State.derived.2.2.1 (by simp)) w q).trans (policyOf_write (s := s) hrad r new w q)
    refine ⟨_, hanswer ((policySetHandler_good hs hr ha he h0 h8 hnew).trans (if_neg hfree)), rfl, ?_, ?_⟩
    · simpa using hpol who r
    · intro who' r' hne
      have hno : ¬ (who' = who ∧ r' = r) := fun hc => hne (by rw [hc.1, hc.2])
      simpa [hno] using hpol who' r'

end Sys2Proof.Machine
end

section
/-! SUPPORT. What a policy write does to a grant, as a function of the grant record alone, and to a waiting entry
(R31 to R35, O21). -/

namespace Sys2Proof.Machine

/-! ## Notices that find room, and grant records written again -/

theorem notify_notices {l : Link} {n : Notice} {s : State} (h : (s.port l).notices.length < 16) :
    ((notify l n s).port l).notices = (s.port l).notices ++ [n] := by
  simp [notify, Config.noticePlaces, h]

theorem setGrant_self {s : State} {r : Resource} {g : Grant} (h : (s.entry r).state = .owned g) :
    s.setGrant r g = s := by
  have he : ({ s.entry r with state := .owned g } : CustodyEntry) = s.entry r := by rw [← h]
  unfold State.setGrant
  rw [he]
  exact congrArg (fun es => { s with custody := { s.custody with entries := es } }) (PerResource.set_get _ r)

@[simp] theorem setGrant_setGrant (s : State) (r : Resource) (g g' : Grant) :
    (s.setGrant r g).setGrant r g' = s.setGrant r g' := by simp [State.setGrant]

/-- A notice and a grant record touch different blocks. -/
theorem notifySubject_setGrant (who : Subject) (b : NoticeBody) (s : State) (r : Resource) (g : Grant) :
    notifySubject who b (s.setGrant r g) = (notifySubject who b s).setGrant r g := by
  unfold notifySubject notify
  rw [setGrant_port_read]
  by_cases h : (s.port who.link).notices.length < Config.noticePlaces
  · rw [if_pos h, if_pos h]; rfl
  · rw [if_neg h, if_neg h]; rfl

/-! ## A grant after a policy write (R32, R33, R35) -/

/-- The grant after a write of the allowed granularities (R33). -/
def Grant.afterGrans (old new : PolicyEntry) (g : Grant) : Grant :=
  if new.grans ≠ old.grans then g.admitGrans new.grans else g

/-- Whether the held quarters of a hold by HOLD have reached a limit. -/
def HoldRecord.reaches (limit : Nat) : HoldRecord → Bool
  | .byHold n _ _ _ => limit ≤ n
  | .byDoze _ => false

/-- Whether a lowered hold limit ends the grant's hold (R35). -/
def Grant.holdEnds (old new : PolicyEntry) (g : Grant) : Bool :=
  new.holdLimit < old.holdLimit && g.hold.any (HoldRecord.reaches new.holdLimit)

/-- The grant after R33 and R35. -/
def Grant.afterHold (old new : PolicyEntry) (g : Grant) : Grant :=
  if g.holdEnds old new then (g.afterGrans old new).resume else g.afterGrans old new

/-- The grant after a policy write that does not withdraw allow: R33, then R35, then R32. -/
def Grant.afterPolicy (old new : PolicyEntry) (g : Grant) : Grant :=
  { g.afterHold old new with
    priority := if new.priority = old.priority then (g.afterHold old new).priority
      else newPriority (g.afterHold old new).priority new.priority }

theorem Grant.holdEnds_iff {old new : PolicyEntry} {g : Grant} : g.holdEnds old new = true ↔
    new.holdLimit < old.holdLimit
      ∧ ∃ n held len p, g.hold = some (.byHold n held len p) ∧ new.holdLimit ≤ n := by
  unfold Grant.holdEnds
  cases g.hold with
  | none => simp
  | some h => cases h <;> simp [HoldRecord.reaches]

/-- The parts of a grant record that R33 and R35 leave. -/
def Grant.kept (g : Grant) : Subject × Nat × Int × Timer × Nat × BitVec 32 × Bool :=
  (g.holder, g.priority, g.balance, g.quarterTimer, g.quarterLength, g.order, g.returnFlag)

theorem Grant.resume_kept (g : Grant) : g.resume.kept = g.kept := by unfold Grant.resume; split <;> rfl

theorem Grant.afterGrans_kept (old new : PolicyEntry) (g : Grant) : (g.afterGrans old new).kept = g.kept := by
  unfold Grant.afterGrans Grant.admitGrans
  (repeat' split) <;> rfl

/-- A hold, and what is owed and renewed, are no matter of the granularities. -/
theorem Grant.afterGrans_hold (old new : PolicyEntry) (g : Grant) :
    (g.afterGrans old new).hold = g.hold ∧ (g.afterGrans old new).owed = g.owed
      ∧ (g.afterGrans old new).renewed = g.renewed := by
  unfold Grant.afterGrans Grant.admitGrans
  (repeat' split) <;> exact ⟨rfl, rfl, rfl⟩

/-- A granularity no longer allowed is replaced (R33). -/
theorem Grant.afterGrans_of_not_allowed {old new : PolicyEntry} {g : Grant} (hn : new.grans ≠ old.grans)
    (h : new.grans.has g.gran = false) :
    g.afterGrans old new = { g with gran := new.grans.coarsest, phase := 0, pendingGran := none } := by
  simp [Grant.afterGrans, Grant.admitGrans, hn, h]

/-- Where the granularity in force stays allowed, the pending one alone may go (R33). -/
theorem Grant.afterGrans_of_allowed {old new : PolicyEntry} {g : Grant}
    (h : new.grans = old.grans ∨ new.grans.has g.gran = true) :
    g.afterGrans old new = { g with
      pendingGran := if new.grans = old.grans then g.pendingGran else g.pendingGran.filter new.grans.has } := by
  unfold Grant.afterGrans
  by_cases hn : new.grans = old.grans
  · simp [hn]
  · have hg : new.grans.has g.gran = true := h.resolve_left hn
    obtain ⟨holder, priority, order, returnFlag, gran, phase, pending, balance, owed, renewed, timer, len, hold⟩ := g
    cases pending with
    | none => simp [hn, Grant.admitGrans, hg]
    | some p => cases hp : new.grans.has p <;> simp [hn, Grant.admitGrans, hg, hp, Option.filter]

theorem Grant.resume_byHold {g : Grant} {n len p : Nat} {held : Timer} (h : g.hold = some (.byHold n held len p)) :
    g.resume = { g with
      gran := g.pendingGran.getD g.gran, phase := 0, pendingGran := none
      owed := if p = 0 then 0 else 4, renewed := false, hold := none } := by
  unfold Grant.resume
  rw [h]
  rfl

section
variable {old new : PolicyEntry} {g : Grant} {who : Subject} {r : Resource} {s : State}

/-- Apart from its priority, the grant is what R33 and R35 make it. -/
theorem Grant.afterPolicy_of_ends (h : g.holdEnds old new = true) : ∃ k, g.afterPolicy old new =
    { (g.afterGrans old new).resume with priority := k } := by
  rw [← show g.afterHold old new = _ from if_pos h]
  exact ⟨_, rfl⟩

theorem Grant.afterPolicy_of_not_ends (h : ¬ g.holdEnds old new = true) : ∃ k, g.afterPolicy old new =
    { g.afterGrans old new with priority := k } := by
  rw [← show g.afterHold old new = _ from if_neg h]
  exact ⟨_, rfl⟩

theorem Grant.afterHold_kept : (g.afterHold old new).kept = g.kept := by
  unfold Grant.afterHold
  split
  · exact (Grant.resume_kept _).trans (Grant.afterGrans_kept old new g)
  · exact Grant.afterGrans_kept old new g

theorem Grant.afterPolicy_kept : (g.afterPolicy old new).kept =
    { g with priority := if new.priority = old.priority ∨ g.priority = 8 then g.priority
                         else new.priority }.kept := by
  have hk := Grant.afterHold_kept (old := old) (new := new) (g := g)
  simp only [Grant.kept, Prod.mk.injEq] at hk
  obtain ⟨hh, hp, hb, ht, hl, ho, hf⟩ := hk
  simp only [Grant.kept, Grant.afterPolicy, hh, hp, hb, ht, hl, ho, hf, newPriority, Config.attentionPriority, ite_or]

/-- A lowered limit that the held quarters reach expires the hold; any other leaves it (R35). -/
theorem applyHoldLimit_of_grant (hs : (s.entry r).state = .owned g) (hl : new.holdLimit < old.holdLimit) :
    applyHoldLimit r new.holdLimit s = if g.holdEnds old new then expireHold r g s else s := by
  unfold applyHoldLimit Grant.holdEnds
  rw [CustodyEntry.grant_eq_some.mpr hs]
  dsimp only
  cases hh : g.hold with
  | none => simp
  | some h => cases h <;> simp [HoldRecord.reaches, hl]

/-- A policy write on the holder writes the grant record anew and, where a hold ends, tells the holder (R33, R35,
R32). -/
theorem policyOnHolder_eq (hs : (s.entry r).state = .owned g) (hh : g.holder = who) :
    policyOnHolder who r old new s =
      (if g.holdEnds old new then
        notifySubject who (.holdEnded r g.balance (g.afterGrans old new).resume.owed) s else s).setGrant r
          (g.afterPolicy old new) := by
  have hgrans : (if new.grans ≠ old.grans then s.setGrant r (g.admitGrans new.grans) else s)
      = s.setGrant r (g.afterGrans old new) := by
    unfold Grant.afterGrans
    split
    · rfl
    · exact (setGrant_self hs).symm
  have hends : (g.afterGrans old new).holdEnds old new = g.holdEnds old new := by
    simp only [Grant.holdEnds, (Grant.afterGrans_hold old new g).1]
  have hexpire : expireHold r (g.afterGrans old new) (s.setGrant r (g.afterGrans old new)) =
      (notifySubject who (.holdEnded r g.balance (g.afterGrans old new).resume.owed) s).setGrant r
        (g.afterGrans old new).resume := by
    have hk := (Grant.resume_kept (g.afterGrans old new)).trans (Grant.afterGrans_kept old new g)
    simp only [Grant.kept, Prod.mk.injEq] at hk
    obtain ⟨hholder, -, hbalance, -⟩ := hk
    simp only [expireHold, hholder, hbalance, hh, setGrant_setGrant, notifySubject_setGrant]
  have hlimit : (if new.holdLimit < old.holdLimit then
        applyHoldLimit r new.holdLimit (s.setGrant r (g.afterGrans old new))
      else s.setGrant r (g.afterGrans old new)) =
      (if g.holdEnds old new then
        notifySubject who (.holdEnded r g.balance (g.afterGrans old new).resume.owed) s else s).setGrant r
          (g.afterHold old new) := by
    unfold Grant.afterHold
    by_cases hl : new.holdLimit < old.holdLimit
    · rw [if_pos hl, applyHoldLimit_of_grant (by rw [setGrant_entry_self]) hl, hends, hexpire]
      split <;> rfl
    · have hno : ¬ g.holdEnds old new = true := fun he => hl (Grant.holdEnds_iff.mp he).1
      rw [if_neg hl, if_neg hno, if_neg hno]
  unfold policyOnHolder
  rw [CustodyEntry.grant_eq_some.mpr hs]
  simp only [hh, if_true, hgrans, hlimit, setGrant_entry_self, CustodyEntry.grant_owned, setGrant_setGrant]
  unfold Grant.afterPolicy
  by_cases hp : new.priority = old.priority <;> simp [hp]

/-! ## The effects by the subject's standing (R31, R32) -/

theorem holds_of_owned (hs : (s.entry r).state = .owned g) : s.holds g.holder r = true :=
  holds_iff.mpr (holder_eq_some.mpr ⟨g, CustodyEntry.grant_eq_some.mpr hs, rfl⟩)

theorem holds_eq_false (h : s.holder r ≠ some who) : s.holds who r = false :=
  Bool.eq_false_iff.mpr fun hc => h (holds_iff.mp hc)

theorem policyOnHolder_of_not_holder (h : s.holder r ≠ some who) : policyOnHolder who r old new s = s := by
  unfold policyOnHolder
  split
  · rfl
  next g hg => exact if_neg fun hh => h (holder_eq_some.mpr ⟨g, hg, hh⟩)

theorem policyOnWaiter_of_not_waiting (h : findWaiter who (s.entry r).waiting = none) :
    policyOnWaiter who r old new s = s := by simp [policyOnWaiter, h]

theorem policyEffects_of_withdrawn (h : old.allow = true) (h' : new.allow = false) :
    policyEffects who r old new s = endStanding who r s := by simp [policyEffects, h, h']

theorem policyEffects_of_not_withdrawn (h : ¬ (old.allow = true ∧ new.allow = false)) :
    policyEffects who r old new s = policyOnWaiter who r old new (policyOnHolder who r old new s) :=
  if_neg (by simpa using h)

/-- A holder whose standing ends is told, and its grant enters TURNOVER (R31). -/
theorem endStanding_of_holder (hs : (s.entry r).state = .owned g) :
    endStanding g.holder r s =
      enterTurnover r .revoked (notifySubject g.holder (.revoke r .policy 0) s) := by
  simp [endStanding, tellStandingEnds, dropStanding, holds_of_owned hs]

/-- A waiter whose standing ends is told, and its entry is removed (R31). -/
theorem endStanding_of_waiter (hh : s.holder r ≠ some who) {w : Waiter}
    (hw : findWaiter who (s.entry r).waiting = some w) :
    endStanding who r s = changeWaiting r ((s.entry r).waiting.filter fun v => v.subject != who)
      (notifySubject who (.withdrawn r .policy) s) := by
  simp [endStanding, tellStandingEnds, dropStanding, holds_eq_false hh, hw, dropWaiter]

theorem endStanding_of_none (hh : s.holder r ≠ some who) (hw : findWaiter who (s.entry r).waiting = none) :
    endStanding who r s = s := by
  simp [endStanding, tellStandingEnds, dropStanding, holds_eq_false hh, hw]

theorem policyOnWaiter_of_waiter {w : Waiter} (hw : findWaiter who (s.entry r).waiting = some w)
    (hp : new.priority ≠ old.priority) : policyOnWaiter who r old new s =
      changeWaiting r (orderWaiters ((s.entry r).waiting.map fun v =>
        if v.subject = who then { v with priority := if v.priority = 8 then 8 else new.priority } else v)) s := by
  have hnew (p : Nat) : newPriority p new.priority = if p = 8 then 8 else new.priority := by
    unfold newPriority Config.attentionPriority
    split <;> simp_all
  simp [policyOnWaiter, hp, hw, hnew]

end

/-! ## The statement -/

/-- R32, R33 and R35 on a holder that does not wait: the entry's new grant record, field by field. -/
theorem policyEffects_on_holder {who : Subject} {r : Resource} {old new : PolicyEntry} {g : Grant} {s : State}
    (hs : (s.entry r).state = .owned g) (hh : g.holder = who) (hallow : ¬ (old.allow = true ∧ new.allow = false))
    (hw : findWaiter who (s.entry r).waiting = none) :
    (policyEffects who r old new s).entry r = { s.entry r with state := .owned (g.afterPolicy old new) }
      ∧ (∀ r' : Resource, r' ≠ r → (policyEffects who r old new s).entry r' = s.entry r')
      ∧ (¬ g.holdEnds old new = true → (policyEffects who r old new s).ports = s.ports)
      ∧ (g.holdEnds old new = true → (policyEffects who r old new s).ports
          = (notifySubject who (.holdEnded r g.balance (g.afterGrans old new).resume.owed) s).ports) := by
  have heq : policyEffects who r old new s = policyOnHolder who r old new s := by
    rw [policyEffects_of_not_withdrawn hallow]
    refine policyOnWaiter_of_not_waiting ?_
    rw [policyOnHolder_eq hs hh]
    split <;> simpa using hw
  rw [heq, policyOnHolder_eq hs hh]
  refine ⟨?_, fun r' hr => ?_, fun hn => ?_, fun he => ?_⟩
  · split <;> simp
  · split <;> simp [setGrant_entry, hr]
  · rw [if_neg hn]; rfl
  · rw [if_pos he]; rfl

/-- Settles O21: the holder by its new grant record, the waiter by its list, and the order by insertion. -/
theorem policyWriteActsOnTheHolder : Obligations.PolicyWriteActsOnTheHolder := by
  refine ⟨fun who r old new g s hs hh => ⟨fun ho hn => ?_, fun hallow hw => ?_⟩,
    fun who r old new s hh => ⟨fun w hw => ⟨fun ho hn => ?_, fun hallow hp => ?_, fun hallow hp => ?_⟩, fun hw => ?_⟩,
    fun ws => ⟨orderWaiters_pairwise ws, orderWaiters_perm ws⟩⟩
  · rw [policyEffects_of_withdrawn ho hn, ← hh]
    exact endStanding_of_holder hs
  · obtain ⟨hentry, hothers, hquiet, htold⟩ := policyEffects_on_holder hs hh hallow hw
    have hkept := Grant.afterPolicy_kept (old := old) (new := new) (g := g)
    simp only [Grant.kept, Prod.mk.injEq] at hkept
    obtain ⟨kholder, kpriority, kbalance, ktimer, klength, korder, kflag⟩ := hkept
    refine ⟨g.afterPolicy old new, hentry, kholder, kbalance, ktimer, klength, korder, kflag, kpriority,
      fun hne hno => ?_, ⟨fun hin => ⟨fun hends => ?_, fun hends => ?_⟩, fun hends => ?_⟩,
      fun n held len p hhold hlim hn => ?_, hothers⟩
    · have hgran := Grant.afterGrans_of_not_allowed hne hno
      by_cases hends : g.holdEnds old new = true
      · obtain ⟨k, hk⟩ := Grant.afterPolicy_of_ends hends
        obtain ⟨-, n, held, len, p, hhold, -⟩ := Grant.holdEnds_iff.mp hends
        rw [hk, Grant.resume_byHold ((Grant.afterGrans_hold old new g).1.trans hhold), hgran]
        exact ⟨rfl, rfl, rfl⟩
      · obtain ⟨k, hk⟩ := Grant.afterPolicy_of_not_ends hends
        rw [hk, hgran]
        exact ⟨rfl, rfl, rfl⟩
    · have hends := mt Grant.holdEnds_iff.mp hends
      obtain ⟨k, hk⟩ := Grant.afterPolicy_of_not_ends hends
      rw [hk, Grant.afterGrans_of_allowed hin]
      exact ⟨rfl, rfl, rfl⟩
    · have hends := Grant.holdEnds_iff.mpr hends
      obtain ⟨k, hk⟩ := Grant.afterPolicy_of_ends hends
      obtain ⟨-, n, held, len, p, hhold, -⟩ := Grant.holdEnds_iff.mp hends
      rw [hk, Grant.resume_byHold ((Grant.afterGrans_hold old new g).1.trans hhold), Grant.afterGrans_of_allowed hin]
      exact ⟨rfl, rfl, rfl⟩
    · have hends := mt Grant.holdEnds_iff.mp hends
      obtain ⟨k, hk⟩ := Grant.afterPolicy_of_not_ends hends
      obtain ⟨hhold, howed, hren⟩ := Grant.afterGrans_hold old new g
      rw [hk]
      exact ⟨hhold, howed, hren, hquiet hends⟩
    · have hends := Grant.holdEnds_iff.mpr ⟨hlim, n, held, len, p, hhold, hn⟩
      obtain ⟨k, hk⟩ := Grant.afterPolicy_of_ends hends
      have hresume := Grant.resume_byHold ((Grant.afterGrans_hold old new g).1.trans hhold)
      refine ⟨by rw [hk, hresume], by rw [hk, hresume], by rw [hk, hresume], by rw [hk, hresume], fun hroom => ?_⟩
      rw [port_congr (htold hends), hresume]
      exact notify_notices hroom
  · rw [policyEffects_of_withdrawn ho hn]
    exact endStanding_of_waiter hh hw
  · rw [policyEffects_of_not_withdrawn hallow, policyOnHolder_of_not_holder hh]
    exact policyOnWaiter_of_waiter hw hp
  · rw [policyEffects_of_not_withdrawn hallow, policyOnHolder_of_not_holder hh]
    simp [policyOnWaiter, hp]
  · by_cases hallow : old.allow = true ∧ new.allow = false
    · rw [policyEffects_of_withdrawn hallow.1 hallow.2]
      exact endStanding_of_none hh hw
    · rw [policyEffects_of_not_withdrawn hallow, policyOnHolder_of_not_holder hh]
      exact policyOnWaiter_of_not_waiting hw

end Sys2Proof.Machine
end

section
/-! SUPPORT. The notices of a tenant that leaves ACTIVE: what is told first, and what the endings of its standings and
the retirement of its channels add after it (R38, R39, R57); with it the write of a tenant record (O23). -/

namespace Sys2Proof.Machine

/-! ## Notices that join a queue -/

/-- The notices of one link stand, and some of a given kind have joined them. -/
def Appends (P : Notice → Prop) (l : Link) (s t : State) : Prop :=
  ∃ more, (t.port l).notices = (s.port l).notices ++ more ∧ ∀ m ∈ more, P m

section
variable {P : Notice → Prop} {l : Link} {s t u : State}

theorem Appends.same (h : (t.port l).notices = (s.port l).notices) : Appends P l s t := ⟨[], by simp [h], by simp⟩

theorem Appends.of_ports (h : t.ports = s.ports) : Appends P l s t := .same (by rw [port_congr h])

theorem Appends.refl : Appends P l s s := .same rfl

theorem Appends.trans (h : Appends P l s t) (h' : Appends P l t u) : Appends P l s u := by
  obtain ⟨xs, hxs, hx⟩ := h
  obtain ⟨ys, hys, hy⟩ := h'
  exact ⟨xs ++ ys, by rw [hys, hxs, List.append_assoc], fun m hm => (List.mem_append.mp hm).elim (hx m) (hy m)⟩

theorem Appends.foldl {β : Type} {f : State → β → State} (h : ∀ s b, Appends P l s (f s b)) (bs : List β) (s : State) :
    Appends P l s (bs.foldl f s) := by
  induction bs generalizing s with
  | nil => exact .refl
  | cons b bs ih => exact (h s b).trans (ih _)

theorem setCondition_notices (k : Link) (c : Condition) : ((setCondition k c s).port l).notices = (s.port l).notices := by
  simp only [setCondition, setPort_port]
  split
  · simp [*]
  · rfl

theorem notify_appends {k : Link} {n : Notice} (h : P n) : Appends P l s (notify k n s) := by
  unfold notify
  split
  · rcases eq_or_ne l k with rfl | hk
    · exact ⟨[n], by simp, by simpa using h⟩
    · exact .same (by rw [setPort_port_other _ _ _ _ hk])
  · exact .same (setCondition_notices _ _)

theorem cancelFrom_notices (k : Link) (src : FrameSource) :
    ((cancelFrom k src s).port l).notices = (s.port l).notices := by
  have hdrop : ((s.setPort k { s.port k with inFlight := none }).port l).notices = (s.port l).notices := by
    rw [setPort_port]
    split
    · simp [*]
    · rfl
  unfold cancelFrom
  split
  · unfold cancelInFlight
    split
    · rfl
    · dsimp only
      split
      · simpa using hdrop
      · split
        · exact hdrop
        · exact hdrop
      · exact hdrop
  · rfl

end

/-! ## What the ending of a standing may tell (R56) -/

/-- A GRANT notice. -/
def IsGrant (n : Notice) : Prop := ∃ r o g, n.body = .grant r o g

section
variable {l : Link} {s : State} {r : Resource}

theorem completeTurnover_grants : Appends IsGrant l s (completeTurnover r s) := by
  unfold completeTurnover
  split
  · dsimp only
    split <;> exact .of_ports (by simp)
  · refine Appends.trans (.of_ports ?_) (notify_appends ⟨_, _, _, rfl⟩)
    simp

theorem reportDisplayHead_grants : Appends IsGrant l s (reportDisplayHead s) := by
  unfold reportDisplayHead
  split
  · dsimp only
    split
    · exact completeTurnover_grants
    · exact .refl
  · exact .refl

theorem runPrinter_grants : Appends IsGrant l s (runPrinter s) := by
  have hsep {t : State} : Appends IsGrant l t (endSeparator t) := by
    unfold endSeparator
    split
    · exact completeTurnover_grants
    · exact .refl
  have hdrain : Appends IsGrant l s (endDrain s) := .of_ports (by simp)
  exact (hdrain.trans hsep).trans (.of_ports (by simp [runPrinter]))

theorem keypadTurnover_grants (old : Option Subject) : Appends IsGrant l s (keypadTurnover old s) := by
  unfold keypadTurnover
  refine Appends.trans (.same ?_) completeTurnover_grants
  cases old with
  | none => rfl
  | some h => exact cancelFrom_notices h.link .key

theorem clessTurnover_notices (old : Option Subject) : ((clessTurnover old s).port l).notices = (s.port l).notices := by
  unfold clessTurnover
  dsimp only
  split
  case h_2 => rw [port_congr (show _ = s.ports by simp)]
  case h_7 =>
    cases old with
    | none => rfl
    | some h => exact cancelFrom_notices h.link .clResult
  all_goals rfl

theorem enterTurnover_grants (k : EndingKind) : Appends IsGrant l s (enterTurnover r k s) := by
  have hset : Appends IsGrant l s (s.setEntry r { s.entry r with state := .turnover k }) := .refl
  unfold enterTurnover
  cases r with
  | keypad => exact hset.trans (keypadTurnover_grants _)
  | display => exact hset.trans reportDisplayHead_grants
  | cless => exact hset.trans (.same (clessTurnover_notices _))
  | printer =>
    refine hset.trans (Appends.trans (.refl : Appends IsGrant l _ _) ?_)
    exact runPrinter_grants

theorem dropStanding_grants (who : Subject) : Appends IsGrant l s (dropStanding who r s) := by
  unfold dropStanding
  split
  · exact enterTurnover_grants .revoked
  · split
    · unfold changeWaiting
      dsimp only
      split
      · exact Appends.trans (.refl : Appends IsGrant l s (s.setWaiting r _)) reportDisplayHead_grants
      · exact .refl
    · exact .refl

end

/-! ## What is told before it (R38, R57) -/

/-- What a tenant is told of one resource as its standing there ends. -/
def standingNotice (n : Fin 16) (s : State) (r : Resource) : List Notice :=
  if s.holder r = some (.app n) then [{ tenant := n, body := .revoke r .policy 0 }]
  else if (findWaiter (.app n) (s.entry r).waiting).isSome then [{ tenant := n, body := .withdrawn r .policy }]
  else []

section
variable {n : Fin 16} {s t : State} {r : Resource}

theorem standingNotice_congr (h : t.custody = s.custody) : standingNotice n t = standingNotice n s := by
  funext r
  simp only [standingNotice, holder_congr h, entry_congr h]

theorem tellStandingEnds_notices (h : ((s.port .a).notices ++ standingNotice n s r).length ≤ 16) :
    ((tellStandingEnds (.app n) r s).port .a).notices = (s.port .a).notices ++ standingNotice n s r := by
  have htell (b : NoticeBody) (hroom : (s.port .a).notices.length < 16) :
      ((notifySubject (.app n) b s).port .a).notices = (s.port .a).notices ++ [{ tenant := n, body := b }] :=
    notify_notices hroom
  unfold tellStandingEnds
  unfold standingNotice at h ⊢
  simp only [← holds_iff] at h ⊢
  split
  next hh => exact htell _ (by simp [hh] at h; omega)
  next hh =>
    split
    next hw => exact htell _ (by simp [hh, hw] at h; omega)
    next => simp

/-- Where all that is to be told finds room, nothing of it is lost and it stands in order. -/
theorem tellAll_notices (rs : List Resource)
    (h : ((s.port .a).notices ++ rs.flatMap (standingNotice n s)).length ≤ 16) :
    ((rs.foldl (fun s r => tellStandingEnds (.app n) r s) s).port .a).notices
      = (s.port .a).notices ++ rs.flatMap (standingNotice n s) := by
  induction rs generalizing s with
  | nil => simp
  | cons r rs ih =>
    have hcustody : (tellStandingEnds (.app n) r s).custody = s.custody := by simp
    have hfirst := tellStandingEnds_notices (n := n) (s := s) (r := r)
      (by simp only [List.flatMap_cons, List.length_append] at h ⊢; omega)
    rw [List.foldl_cons, ih]
    · rw [hfirst, standingNotice_congr hcustody, List.flatMap_cons, List.append_assoc]
    · rw [hfirst, standingNotice_congr hcustody, List.append_assoc]
      simpa only [List.flatMap_cons] using h

/-- All standing of a tenant ends: it is told first, and GRANT notices alone come after (R57). -/
theorem endAllStanding_notices
    (h : ((s.port .a).notices ++ allResources.flatMap (standingNotice n s)).length ≤ 16) :
    ∃ more, ((endAllStanding (.app n) s).port .a).notices
      = (s.port .a).notices ++ allResources.flatMap (standingNotice n s) ++ more ∧ ∀ m ∈ more, IsGrant m := by
  have hdrop := Appends.foldl (P := IsGrant) (l := .a) (f := fun s r => dropStanding (.app n) r s)
    (fun _ _ => dropStanding_grants _) allResources (allResources.foldl (fun s r => tellStandingEnds (.app n) r s) s)
  rwa [Appends, tellAll_notices _ h] at hdrop

end

/-! ## The channels of a retired tenant (R39) -/

/-- A CH_CLOSED notice with reason RETIRED. -/
def IsRetired (m : Notice) : Prop := ∃ c number, m.body = .chClosed c number .retired

/-- Channel `c` is bound to tenant `n`. -/
def BoundTo (n : Fin 16) (s : State) (c : Fin 32) : Prop := ∃ b, (s.channel c).binding = some b ∧ b.owner = .app n

section
variable {n : Fin 16} {s : State} {c d : Fin 32} {l : Link}

theorem unbindChannel_channel (s : State) (c d : Fin 32) :
    (unbindChannel c s).channel d = if d = c then { s.channel d with binding := none } else s.channel d := by
  unfold unbindChannel
  split
  next hb =>
    split
    next hd => subst hd; rw [← hb]
    next => rfl
  next b hb => simp only [State.setBinding, setChannel_channel, cancelFrom_reads]; split <;> simp [*]

theorem unbindChannel_notices (s : State) (c : Fin 32) (l : Link) :
    ((unbindChannel c s).port l).notices = (s.port l).notices := by
  unfold unbindChannel
  split
  · rfl
  · rw [port_congr (show _ = _ from (setBinding_frame _ _ _).2.1), cancelFrom_notices, cancelFrom_notices]

theorem retireChannel_channel (n : Fin 16) (s : State) (c d : Fin 32) :
    (retireChannel n s c).channel d = s.channel d
      ∨ (d = c ∧ ((retireChannel n s c).channel d).binding = none) := by
  unfold retireChannel
  split
  · split
    · rcases eq_or_ne d c with rfl | hd
      · exact .inr ⟨rfl, by simp [unbindChannel_channel]⟩
      · exact .inl (by simp [unbindChannel_channel, hd])
    · exact .inl rfl
  · exact .inl rfl

theorem retireChannel_self (n : Fin 16) (s : State) (c : Fin 32) : ¬ BoundTo n (retireChannel n s c) c := by
  rintro ⟨b, hb, ho⟩
  unfold retireChannel at hb
  split at hb
  next b' hb' =>
    split at hb
    · simp [unbindChannel_channel] at hb
    next hne =>
      rw [hb'] at hb
      exact hne (Option.some.inj hb ▸ ho)
  next hnone => simp [hnone] at hb

theorem retireChannel_keeps_unbound (h : ¬ BoundTo n s d) : ¬ BoundTo n (retireChannel n s c) d := by
  rintro ⟨b, hb, ho⟩
  rcases retireChannel_channel n s c d with he | ⟨-, hnone⟩
  · exact h ⟨b, he ▸ hb, ho⟩
  · rw [hnone] at hb; cases hb

theorem retireAll_unbound (cs : List (Fin 32)) (h : d ∈ cs ∨ ¬ BoundTo n s d) :
    ¬ BoundTo n (cs.foldl (retireChannel n) s) d := by
  induction cs generalizing s with
  | nil => exact h.resolve_left List.not_mem_nil
  | cons c cs ih =>
    rw [List.foldl_cons]
    rcases h with hd | hd
    · rcases List.mem_cons.mp hd with rfl | hd
      · exact ih (.inr (retireChannel_self n s d))
      · exact ih (.inl hd)
    · exact ih (.inr (retireChannel_keeps_unbound hd))

theorem retireChannel_appends : Appends IsRetired l s (retireChannel n s c) := by
  unfold retireChannel
  split
  · split
    · refine Appends.trans (.same (unbindChannel_notices s c l)) (Appends.trans (notify_appends ?_) (notify_appends ?_))
      · exact ⟨_, _, rfl⟩
      · exact ⟨_, _, rfl⟩
    · exact .refl
  · exact .refl

end

/-! ## The tests of TENANT_SET (R36) -/

theorem tenantStateAfter_none {b : Byte} {old : TenantState} (h : 3 ≤ b.toNat ∧ b ≠ 255) :
    tenantStateAfter b old = none := by
  have hb : b ≠ 0 ∧ b ≠ 1 ∧ b ≠ 2 := by refine ⟨?_, ?_, ?_⟩ <;> (rintro rfl; exact absurd h.1 (by decide))
  rw [tenantStateAfter, if_neg h.2, tenantStateOf, if_neg hb.1, if_neg hb.2.1, if_neg hb.2.2]

theorem tenantStateAfter_some {b : Byte} {old : TenantState} (h : b.toNat < 3 ∨ b = 255) :
    tenantStateAfter b old =
      some (if b = 0 then .active else if b = 1 then .frozen else if b = 2 then .retired else old) := by
  have hb : b = 0 ∨ b = 1 ∨ b = 2 ∨ b = 255 := by bv_omega
  rcases hb with rfl | rfl | rfl | rfl <;> rfl

theorem tenantSetRefusal_platform {old : TenantState} {sb ab : Byte} (h : old ≠ .frozen) :
    tenantSetRefusal (.app 0) old sb ab = if sb = 1 ∨ ab ≠ 255 then some .notPermitted else none := by
  unfold tenantSetRefusal TenantState.code
  rw [if_neg (by decide), if_neg (by decide), if_neg h]

section
variable {l : Link} {f : Frame} {tb sb ab : Byte} {s : State} {n : Fin 16}

theorem tenantSetHandler_refused {w : Subject} {c : ReplyCode} (hn : tb.toNat = n.val) (h0 : n ≠ 0)
    (hs : sb.toNat < 3 ∨ sb = 255) (hc : tenantSetRefusal w (s.tenant n).state sb ab = some c) :
    tenantSetHandler l w [tb, sb, ab] s = refuse c s := by
  simp only [tenantSetHandler, tenantOf_of hn, tenantStateAfter_some hs, h0, if_false, hc]

theorem allowance_code (ab : Byte) : okOr (ab != 255 && decide (Config.maxAllowance < ab.toNat))
    = if ab = 255 ∨ ab.toNat ≤ 8 then .ok else .clamped := by
  have hiff : (ab != 255 && decide (Config.maxAllowance < ab.toNat)) = true ↔ ¬ (ab = 255 ∨ ab.toNat ≤ 8) := by
    simp only [Bool.and_eq_true, bne_iff_ne, ne_eq, decide_eq_true_eq, not_or, Nat.not_le]
    exact Iff.rfl
  simp only [okOr, hiff, ite_not]

/-- A TENANT_SET that passes its tests. -/
theorem tenantSetHandler_written {w : Subject} (hn : tb.toNat = n.val) (h0 : n ≠ 0) (hs : sb.toNat < 3 ∨ sb = 255)
    (hc : tenantSetRefusal w (s.tenant n).state sb ab = none) {st : TenantState}
    (hst : st = if sb = 0 then .active else if sb = 1 then .frozen else if sb = 2 then .retired
      else (s.tenant n).state) :
    tenantSetHandler l w [tb, sb, ab] s =
      (tenantEffects n (s.tenant n).state st
          { s with tenants := s.tenants.set n { state := st, allowance := allowanceAfter ab (s.tenant n).allowance } },
        replyBody (if ab = 255 ∨ ab.toNat ≤ 8 then .ok else .clamped)
          [tb, st.code, byte (allowanceAfter ab (s.tenant n).allowance)]) := by
  simp only [tenantSetHandler, tenantOf_of hn, tenantStateAfter_some hs, h0, if_false, ← hst, hc, allowance_code]

theorem tenantSet_reply (h : Admitted .tenantSet l f s) (hb : f.body = [tb, sb, ab]) {t : State} {body : List Byte}
    (hh : tenantSetHandler l (requester l f.tenant) [tb, sb, ab] (dropOldest l s) = (t, body)) :
    exec (.tenantSet l) s = .next (placeReply l (replyFrame f body) t) :=
  congrArg _ (processRequest_admitted h (hb ▸ hh))

end

/-! ## What the write brings about (R38, R39) -/

/-- The state a TENANT_SET on tenant `n` that passes its tests leaves, but for the reply. -/
def tenantWritten (l : Link) (n : Fin 16) (rec : TenantRecord) (s : State) : State :=
  tenantEffects n (s.tenant n).state rec.state
    { dropOldest l s with tenants := s.tenants.set n rec }

section
variable {l : Link} {n : Fin 16} {rec : TenantRecord} {s : State}

theorem tenantWritten_tenant (m : Fin 16) :
    (tenantWritten l n rec s).tenant m = if m = n then rec else s.tenant m := by
  rw [← tenant_write]
  simp [tenantWritten, State.tenant]

/-- Leaving ACTIVE ends all standing; what a retirement adds does not touch custody. -/
theorem tenantWritten_custody (ha : (s.tenant n).state = .active) (hn : rec.state ≠ .active) :
    (tenantWritten l n rec s).custody
      = (endAllStanding (.app n) { dropOldest l s with tenants := s.tenants.set n rec }).custody := by
  simp only [tenantWritten, tenantEffects, ha, hn, ne_eq, not_false_eq_true, and_self, if_true]
  split
  · rw [foldl_keeps (fun s : State => s.custody) _ (fun _ _ => by simp)]
  · rfl

theorem tenantWritten_standing (hs : CustodyLaw s) (ha : (s.tenant n).state = .active) (hn : rec.state ≠ .active)
    (r : Resource) : (tenantWritten l n rec s).holder r ≠ some (.app n)
      ∧ findWaiter (.app n) ((tenantWritten l n rec s).entry r).waiting = none := by
  have hin : CustodyWithin (fun _ _ => True) { dropOldest l s with tenants := s.tenants.set n rec } :=
    (custodyLaw_iff.mp hs).congr (by simp)
  have hout := (endAllStanding_without (.app n) hin).congr (t := tenantWritten l n rec s)
    (by rw [tenantWritten_custody ha hn])
  obtain ⟨-, hmeets⟩ := custodyWithin_iff.mp hout
  refine ⟨fun hc => ?_, findWaiter_eq_none.mpr fun w hw => ((hmeets r).2 w hw).2⟩
  obtain ⟨g, hg, hh⟩ := holder_eq_some.mp hc
  exact ((hmeets r).1 g hg).2 hh

theorem tenantWritten_notices (ha : (s.tenant n).state = .active) (hn : rec.state ≠ .active)
    (hroom : ((s.port .a).notices ++ allResources.flatMap (standingNotice n s)).length ≤ 16) :
    ∃ more, ((tenantWritten l n rec s).port .a).notices
        = (s.port .a).notices ++ allResources.flatMap (standingNotice n s) ++ more
      ∧ ∀ m ∈ more, IsGrant m ∨ IsRetired m := by
  have hbefore : (({ dropOldest l s with tenants := s.tenants.set n rec } : State).port .a).notices
      = (s.port .a).notices := by
    show ((dropOldest l s).port .a).notices = _
    unfold dropOldest
    rw [setPort_port]
    split
    next hl => rw [hl]
    next => rfl
  have hstand : standingNotice n { dropOldest l s with tenants := s.tenants.set n rec } = standingNotice n s :=
    standingNotice_congr (by simp)
  obtain ⟨grants, hgrants, hisgrant⟩ := endAllStanding_notices (n := n)
    (s := { dropOldest l s with tenants := s.tenants.set n rec }) (by rw [hbefore, hstand]; exact hroom)
  rw [hbefore, hstand] at hgrants
  have hretire : Appends IsRetired .a (endAllStanding (.app n) { dropOldest l s with tenants := s.tenants.set n rec })
      (tenantWritten l n rec s) := by
    simp only [tenantWritten, tenantEffects, ha, hn, ne_eq, not_false_eq_true, and_self, if_true]
    split
    · exact Appends.foldl (fun _ _ => retireChannel_appends) _ _
    · exact .refl
  obtain ⟨closed, hclosed, hisclosed⟩ := hretire
  exact ⟨grants ++ closed, by rw [hclosed, hgrants, List.append_assoc _ grants closed], fun m hm =>
    (List.mem_append.mp hm).imp (hisgrant m) (hisclosed m)⟩

theorem tenantWritten_unbound (ho : (s.tenant n).state ≠ .retired) (hn : rec.state = .retired) (c : Fin 32) :
    ¬ BoundTo n (tenantWritten l n rec s) c := by
  simp only [tenantWritten, tenantEffects, ho, hn, ne_eq, not_false_eq_true, and_self, if_true]
  exact retireAll_unbound allChannels (.inl (List.mem_finRange c))

/-- A tenant whose state stays keeps all it has (R38). -/
theorem tenantWritten_same_state (h : rec.state = (s.tenant n).state) :
    tenantWritten l n rec s = { dropOldest l s with tenants := s.tenants.set n rec } := by
  unfold tenantWritten tenantEffects
  dsimp only
  rw [if_neg (fun hc => hc.1 (h.symm.trans hc.2)), if_neg (fun hc => hc.2 (h.trans hc.1))]

end

/-- Settles O23: the tests in their order, and what the write brings about. -/
theorem tenantSetWritesTheRecord : Obligations.TenantSetWritesTheRecord := by
  intro l f tb sb ab s h hb
  refine ⟨fun hbad => tenantSet_reply h hb ?_, fun ht hs => tenantSet_reply h hb ?_, fun n hn h0 hs => ?_⟩
  · rcases hbad with ht | hs
    · simp [tenantSetHandler, tenantOf_eq_none.mpr ht, refuse]
    · cases ht : tenantOf tb with
      | none => simp [tenantSetHandler, ht, refuse]
      | some n => simp [tenantSetHandler, ht, tenantStateAfter_none hs, refuse]
  · subst ht
    simp [tenantSetHandler, show tenantOf 0#8 = some 0 from rfl, tenantStateAfter_some hs, refuse]
  · have hrefused {c : ReplyCode} (hc : tenantSetRefusal (requester l f.tenant) (s.tenant n).state sb ab = some c) :
        exec (.tenantSet l) s = .next (refused l f c s) :=
      tenantSet_reply h hb (tenantSetHandler_refused hn h0 hs hc)
    refine ⟨fun hp ha => hrefused ?_, fun ha hf => hrefused ?_, fun ha hf hw => hrefused ?_, fun hmay st hst => ?_⟩
    · rw [tenantSetRefusal, if_neg hp, if_pos ha]
    · rw [ha, hf]; rfl
    · rw [ha, tenantSetRefusal_platform hf, if_pos hw]
    · have hpass : tenantSetRefusal (requester l f.tenant) (s.tenant n).state sb ab = none := by
        rcases hmay with hp | ⟨ha, hf, hsb, hab⟩
        · rw [tenantSetRefusal, if_pos hp]
        · rw [ha, tenantSetRefusal_platform hf, if_neg (not_or.mpr ⟨hsb, not_not.mpr hab⟩)]
      have hallow : allowanceAfter ab (s.tenant n).allowance
          = if ab = 255 then (s.tenant n).allowance else min ab.toNat 8 := rfl
      have hexec := tenantSet_reply h hb (tenantSetHandler_written (s := dropOldest l s) hn h0 hs hpass hst)
      simp only [dropOldest_tenant, hallow] at hexec
      refine ⟨tenantWritten l n { state := st, allowance := _ } s, hexec, ?_, fun n' hne => ?_, fun hlaw ha hna r => ?_,
        fun ha hna told htold hroom => ?_, fun ho hr c b hbind hown => ?_, fun hsame => ?_⟩
      · rw [tenantWritten_tenant, if_pos rfl]
      · rw [tenantWritten_tenant, if_neg hne]
      · exact tenantWritten_standing hlaw ha hna r
      · subst htold
        exact tenantWritten_notices ha hna hroom
      · exact tenantWritten_unbound ho hr c ⟨b, hbind, hown⟩
      · rw [tenantWritten_same_state hsame]

end Sys2Proof.Machine
end

section
/-! SUPPORT. The panel and the lamp within their law (R54, R99, R100, R104, R105), and that every shared operation on
custody keeps them so: DISPLAY enters TURNOVER with a change to the source its head needs, or completes at once, and
KEYPAD changes hands with the lamp recomputed. -/

namespace Sys2Proof.Machine

/-- The panel follows DISPLAY, and the lamp follows the panel and KEYPAD. -/
def PanelLaw (s : State) : Prop := DisplayLaw s ∧ LampLaw s

/-- What an operation on DISPLAY under way needs of the panel: a pending target has its timer, and the lamp is right. -/
def PanelReady (s : State) : Prop := (s.display.target.isSome → s.display.forcedTimer.isSome) ∧ LampLaw s

variable {s t : State} {r : Resource}

/-! ## What the laws read -/

theorem displayLaw_congr (h : DisplayLaw s) (he : t.entry .display = s.entry .display)
    (hm : t.display.mux = s.display.mux) (ht : t.display.target = s.display.target)
    (hr : t.display.required = s.display.required)
    (hf : t.display.forcedTimer.isSome = s.display.forcedTimer.isSome) : DisplayLaw t := by
  have hnone : t.display.forcedTimer = none ↔ s.display.forcedTimer = none := by
    simp only [← Option.not_isSome_iff_eq_none, hf]
  unfold DisplayLaw at *
  rw [he, hm, ht, hr, hf]
  simpa only [hnone] using h

theorem lampLaw_congr (h : LampLaw s) (hm : t.display.mux = s.display.mux) (hl : t.display.lamp = s.display.lamp)
    (hb : t.display.blinkTimer.isSome = s.display.blinkTimer.isSome) (hk : t.holder .keypad = s.holder .keypad) :
    LampLaw t := by
  unfold LampLaw at *
  rwa [hm, hl, hb, hk]

theorem PanelLaw.congr (h : PanelLaw s) (hd : t.display = s.display) (he : t.entry .display = s.entry .display)
    (hk : t.holder .keypad = s.holder .keypad) : PanelLaw t :=
  ⟨displayLaw_congr h.1 he (by rw [hd]) (by rw [hd]) (by rw [hd]) (by rw [hd]),
    lampLaw_congr h.2 (by rw [hd]) (by rw [hd]) (by rw [hd]) hk⟩

theorem PanelLaw.frame (h : PanelLaw s) (hd : t.display = s.display) (hc : t.custody.entries = s.custody.entries) :
    PanelLaw t := h.congr hd (by simp only [State.entry, hc]) (by simp only [State.holder, State.entry, hc])

theorem PanelReady.congr (h : PanelReady s) (hd : t.display = s.display) (hk : t.holder .keypad = s.holder .keypad) :
    PanelReady t := ⟨by simpa only [hd] using h.1, lampLaw_congr h.2 (by rw [hd]) (by rw [hd]) (by rw [hd]) hk⟩

theorem PanelLaw.ready (h : PanelLaw s) : PanelReady s := by
  refine ⟨fun ht => ?_, h.2⟩
  have hd := h.1
  unfold DisplayLaw at hd
  split at hd
  · exact hd.2.2.2
  all_goals simp [hd.1] at ht

/-! ## Grants that keep their holder, and lists of a resource that is not in TURNOVER -/

theorem setGrant_panel {g g' : Grant} (hg : (s.entry r).grant = some g) (hh : g'.holder = g.holder)
    (h : PanelLaw s) : PanelLaw (s.setGrant r g') := by
  have hs := CustodyEntry.grant_eq_some.mp hg
  have hkeep (q : Resource) : (s.setGrant r g').holder q = s.holder q := by
    rcases eq_or_ne q r with rfl | hq
    · rw [State.holder, State.holder, setGrant_entry_self, CustodyEntry.grant_owned, hg]
      simp [hh]
    · exact holder_of_entry (by simp [setGrant_entry, hq])
  refine ⟨?_, lampLaw_congr h.2 rfl rfl rfl (hkeep .keypad)⟩
  rcases eq_or_ne r .display with rfl | hr
  · have hd := h.1
    unfold DisplayLaw at *
    simpa [hs, hh] using hd
  · exact displayLaw_congr h.1 (by simp [setGrant_entry, hr.symm]) rfl rfl rfl rfl

theorem mapGrant_grant (f : Grant → Grant) (e : CustodyEntry) : (e.mapGrant f).grant = e.grant.map f := by
  unfold CustodyEntry.mapGrant CustodyEntry.grant
  cases h : e.state <;> simp [h]

theorem mapGrants_entry (f : Grant → Grant) (s : State) (r : Resource) :
    (mapGrants f s).entry r = (s.entry r).mapGrant f := by cases r <;> rfl

theorem mapGrants_holder {f : Grant → Grant} (hf : ∀ g, (f g).holder = g.holder) (s : State) (r : Resource) :
    (mapGrants f s).holder r = s.holder r := by
  simp only [State.holder, mapGrants_entry, mapGrant_grant, Option.map_map, Function.comp_def, hf]

theorem mapGrants_panel {f : Grant → Grant} (hf : ∀ g, (f g).holder = g.holder) (h : PanelLaw s) :
    PanelLaw (mapGrants f s) := by
  refine ⟨?_, lampLaw_congr h.2 rfl rfl rfl (mapGrants_holder hf s .keypad)⟩
  have hd := h.1
  unfold DisplayLaw at *
  rw [mapGrants_entry, CustodyEntry.mapGrant]
  cases hs : (s.entry .display).state <;> simpa [hs, hf] using hd

/-- The panel reads DISPLAY's list in TURNOVER alone. -/
theorem setWaiting_panel (ws : List Waiter) (hn : r = .display → ∀ k, (s.entry r).state ≠ .turnover k)
    (h : PanelLaw s) : PanelLaw (s.setWaiting r ws) := by
  have hk : (s.setWaiting r ws).holder .keypad = s.holder .keypad := by
    simp only [State.holder, setWaiting_entry]
    split <;> simp_all [CustodyEntry.grant]
  refine ⟨?_, lampLaw_congr h.2 rfl rfl rfl hk⟩
  rcases eq_or_ne r .display with rfl | hr
  · have hd := h.1
    unfold DisplayLaw at *
    rw [setWaiting_entry_self]
    cases hs : (s.entry .display).state with
    | turnover k => exact absurd hs (hn rfl k)
    | free => simpa [hs] using hd
    | owned g => simpa [hs] using hd
  · exact displayLaw_congr h.1 (by simp [setWaiting_entry, hr.symm]) rfl rfl rfl rfl

/-! ## The lamp (R104, R105) -/

theorem recomputeLamp_lamp (h : s.display.blinkTimer.isSome ↔ s.display.lamp = .blink) :
    LampLaw (recomputeLamp s) := by
  refine ⟨by simp [recomputeLamp], ?_⟩
  unfold recomputeLamp
  dsimp only
  split
  next hb =>
    split
    next hold => simp [hb, h.mpr hold]
    next => simp [hb]
  next hb => simp [hb]

theorem recomputeLamp_panel (hd : DisplayLaw s) (hb : s.display.blinkTimer.isSome ↔ s.display.lamp = .blink) :
    PanelLaw (recomputeLamp s) :=
  ⟨displayLaw_congr hd (by simp) rfl rfl rfl rfl, recomputeLamp_lamp hb⟩

/-! ## Turnovers (R54, R56, R100) -/

theorem requiredSource_cons (w : Waiter) (ws : List Waiter) : requiredSource (w :: ws) = .pay ↔ w.subject = .pay := by
  simp [requiredSource]

/-- The head of the DISPLAY list takes a panel that is on its source. -/
theorem completeDisplay_panel (hm : requiredSource (s.entry .display).waiting = s.display.mux) (hl : LampLaw s) :
    PanelLaw (completeDisplay s) := by
  set u : State := { s with display := { s.display with required := none, target := none, forcedTimer := none } }
    with hu
  have hd : (completeTurnover .display u).display = u.display := by simp
  refine ⟨?_, lampLaw_congr hl (by simp [completeDisplay]) (by simp [completeDisplay]) (by simp [completeDisplay])
    (holder_of_entry (completeTurnover_entry_other (s := u) (by decide)))⟩
  unfold DisplayLaw
  change match ((completeTurnover .display u).entry .display).state with | _ => _
  rw [completeDisplay, ← hu, hd]
  cases hw : (s.entry .display).waiting with
  | nil =>
    rw [completeTurnover_entry_nil (s := u) hw]
    simp [hu, ← hm, hw, requiredSource]
  | cons w ws =>
    rw [completeTurnover_entry_cons (s := u) hw]
    rw [hw] at hm
    simp [hu, ← hm, requiredSource_cons, startLease]

/-- DISPLAY in TURNOVER: the panel is on its way to what the head needs, or the turnover is complete. -/
theorem reportDisplayHead_panel {k : EndingKind} (hs : (s.entry .display).state = .turnover k) (h : PanelReady s) :
    PanelLaw (reportDisplayHead s) := by
  obtain ⟨htimer, hl⟩ := h
  unfold reportDisplayHead
  rw [hs]
  dsimp only
  split
  next hm => exact completeDisplay_panel hm hl
  next hm =>
    refine ⟨?_, lampLaw_congr hl rfl rfl rfl rfl⟩
    unfold DisplayLaw
    rw [entry_mk, entries_get, hs]
    refine ⟨rfl, rfl, hm, ?_⟩
    dsimp only
    split
    next ht => exact htimer ht
    next => rfl

theorem reportDisplayHead_of_not_turnover (hn : ∀ k, (s.entry .display).state ≠ .turnover k) :
    reportDisplayHead s = s := by
  unfold reportDisplayHead
  split
  next k hk => exact absurd hk (hn k)
  next => rfl

theorem changeWaiting_panel (r : Resource) (ws : List Waiter) (h : PanelLaw s) : PanelLaw (changeWaiting r ws s) := by
  unfold changeWaiting
  dsimp only
  split
  next hr =>
    subst hr
    by_cases hk : ∃ k, (s.entry .display).state = .turnover k
    · obtain ⟨k, hk⟩ := hk
      refine reportDisplayHead_panel (k := k) (by simpa using hk) (h.ready.congr rfl ?_)
      exact holder_of_entry (by simp [setWaiting_entry])
    · have hn (k : EndingKind) : (s.entry .display).state ≠ .turnover k := fun hc => hk ⟨k, hc⟩
      rw [reportDisplayHead_of_not_turnover (by simpa using hn)]
      exact setWaiting_panel ws (fun _ => hn) h
  next hr => exact setWaiting_panel ws (fun hc => absurd hc hr) h

/-- A completion that gives KEYPAD to its head, or frees it, recomputes the lamp; another is no matter of the lamp. -/
theorem completeTurnover_panel (hr : r ≠ .display) (hd : DisplayLaw s)
    (hb : s.display.blinkTimer.isSome ↔ s.display.lamp = .blink) (hl : r ≠ .keypad → LampLaw s) :
    PanelLaw (completeTurnover r s) := by
  have hother : (completeTurnover r s).entry .display = s.entry .display := completeTurnover_entry_other hr.symm
  cases r with
  | display => exact absurd rfl hr
  | keypad =>
    unfold completeTurnover
    split
    · exact recomputeLamp_panel (displayLaw_congr hd (by simp [setEntry_entry]) rfl rfl rfl rfl) hb
    next w rest _ =>
      refine PanelLaw.frame (s := startGrant .keypad w.subject w.priority w.order w.returnFlag
        ((s.policyOf w.subject .keypad).grans.grantable w.gran) (s.setWaiting .keypad rest)) ?_ (by simp) (by simp)
      unfold startGrant grantStarted
      dsimp only
      refine recomputeLamp_panel ?_ ?_
      · split
        all_goals exact displayLaw_congr hd (by simp [setGrant_entry, setWaiting_entry]) rfl rfl rfl rfl
      · split <;> exact hb
  | cless =>
    have hk := holder_of_entry (completeTurnover_entry_other (r := .cless) (q := .keypad) (s := s) (by decide))
    exact PanelLaw.congr ⟨hd, hl (by decide)⟩ (by simp) hother hk
  | printer =>
    have hk := holder_of_entry (completeTurnover_entry_other (r := .printer) (q := .keypad) (s := s) (by decide))
    exact PanelLaw.congr ⟨hd, hl (by decide)⟩ (by simp) hother hk

theorem completeTurnover_keeps_panel (hr : r ≠ .display) (h : PanelLaw s) : PanelLaw (completeTurnover r s) :=
  completeTurnover_panel hr h.1 h.2.2 fun _ => h.2

theorem keypadTurnover_panel (old : Option Subject) (hd : DisplayLaw s)
    (hb : s.display.blinkTimer.isSome ↔ s.display.lamp = .blink) : PanelLaw (keypadTurnover old s) := by
  unfold keypadTurnover
  dsimp only
  refine completeTurnover_panel (by decide) ?_ ?_ fun hk => absurd rfl hk
  · cases old <;> exact displayLaw_congr hd (by simp) (by simp) (by simp) (by simp) (by simp)
  · cases old <;> simpa using hb

theorem endSeparator_panel (h : PanelLaw s) : PanelLaw (endSeparator s) := by
  unfold endSeparator
  split
  · exact completeTurnover_keeps_panel (by decide) (h.frame rfl rfl)
  · exact h

theorem runPrinter_panel (h : PanelLaw s) : PanelLaw (runPrinter s) :=
  (endSeparator_panel (h.frame (t := endDrain s) (by simp) (by simp))).frame (by simp [runPrinter]) (by simp [runPrinter])

/-- Whatever its list, a resource may enter TURNOVER: the law of the panel is read before the entry is opened. -/
theorem enterTurnover_panel (k : EndingKind) (h : PanelReady s) (hd : r ≠ .display → DisplayLaw s) :
    PanelLaw (enterTurnover r k s) := by
  have hlamp : r ≠ .keypad → LampLaw (s.setEntry r { s.entry r with state := .turnover k }) := fun hk =>
    lampLaw_congr h.2 rfl rfl rfl (holder_of_entry (by simp [setEntry_entry, hk.symm]))
  have hdisp (hr : r ≠ .display) : DisplayLaw (s.setEntry r { s.entry r with state := .turnover k }) :=
    displayLaw_congr (hd hr) (by simp [setEntry_entry, hr.symm]) rfl rfl rfl rfl
  unfold enterTurnover
  dsimp only
  cases r with
  | keypad => exact keypadTurnover_panel _ (hdisp (by decide)) h.2.2
  | display => exact reportDisplayHead_panel (k := k) (by simp) ⟨h.1, hlamp (by decide)⟩
  | cless => exact PanelLaw.frame ⟨hdisp (by decide), hlamp (by decide)⟩ (by simp) (by simp)
  | printer =>
    refine runPrinter_panel ?_
    exact PanelLaw.frame ⟨hdisp (by decide), hlamp (by decide)⟩ rfl rfl

theorem enterTurnover_keeps_panel (r : Resource) (k : EndingKind) (h : PanelLaw s) : PanelLaw (enterTurnover r k s) :=
  enterTurnover_panel k h.ready fun _ => h.1

/-- A resource's list replaced, and the resource in TURNOVER at once (R49, R60, R64). -/
theorem enterTurnover_replaced_panel (k : EndingKind) (ws : List Waiter) (h : PanelLaw s) (hd : t.display = s.display)
    (hc : t.custody.entries = (s.setWaiting r ws).custody.entries) : PanelLaw (enterTurnover r k t) := by
  rcases eq_or_ne r .display with rfl | hr
  · have hkeypad : t.entry .keypad = s.entry .keypad := by
      simp only [State.entry, hc]
      exact setWaiting_entry s .display .keypad ws
    exact enterTurnover_panel k (h.ready.congr hd (holder_of_entry hkeypad)) fun hn => absurd rfl hn
  · exact enterTurnover_keeps_panel r k ((setWaiting_panel ws (fun hn => absurd hn hr) h).frame hd hc)

theorem revokeGrant_panel (r : Resource) (why : RevokeReason) (p : Nat) (h : PanelLaw s) :
    PanelLaw (revokeGrant r why p s) := by
  unfold revokeGrant
  split
  · exact enterTurnover_keeps_panel r .revoked (h.frame (by simp) (by simp))
  · exact h

/-! ## The attention takeover (R60) -/

/-- `placePay` is a change of the list, after the counter. -/
theorem placePay_eq (r : Resource) (s : State) : ∃ (t : State) (ws : List Waiter),
    placePay r s = t.setWaiting r ws ∧ t.display = s.display ∧ t.custody.entries = s.custody.entries := by
  unfold placePay
  split
  · exact ⟨s, _, rfl, rfl, rfl⟩
  · exact ⟨_, _, rfl, rfl, rfl⟩

/-- PAY placed on a resource, and the head reported where that is DISPLAY in TURNOVER. -/
theorem placePay_panel (r : Resource) (h : PanelLaw s) :
    PanelLaw (if r = .display then reportDisplayHead (placePay r s) else placePay r s) := by
  obtain ⟨t, ws, he, hd, hc⟩ := placePay_eq r s
  rw [he]
  exact changeWaiting_panel r ws (h.frame hd hc)

theorem takeOver_panel (hr : r = .keypad ∨ r = .display) (h : PanelLaw s) : PanelLaw (takeOver r s) := by
  have hturn {u : State} (hu : PanelLaw u) : PanelLaw (enterTurnover r .revoked (placePay r u)) := by
    obtain ⟨t, ws, he, hd, hc⟩ := placePay_eq r u
    rw [he]
    exact enterTurnover_replaced_panel .revoked ws (hu.frame hd hc) rfl rfl
  unfold takeOver
  split
  next g _ =>
    split
    · exact h
    · exact hturn (h.frame (by simp) (by simp))
  next => exact placePay_panel r (h.frame (by simp) (by simp))
  next =>
    rcases hr with rfl | rfl
    · have ht := placePay_panel .keypad h
      exact keypadTurnover_panel none ht.1 ht.2.2
    · exact hturn h

theorem attentionTakeover_panel (h : PanelLaw s) : PanelLaw (attentionTakeover s) :=
  (takeOver_panel (.inr rfl) (takeOver_panel (.inl rfl) h)).frame (by simp [attentionTakeover])
    (by simp [attentionTakeover])

theorem reportMatch_panel (h : PanelLaw s) : PanelLaw (reportMatch s) := by
  unfold reportMatch
  split
  · exact attentionTakeover_panel h
  · exact h.frame rfl rfl

end Sys2Proof.Machine
end

section
/-! SUPPORT. That every event, every request and every reference cycle keeps the panel and the lamp within their law,
and so every step (O55). -/

namespace Sys2Proof.Machine

variable {s : State} {r : Resource}

/-! ## Events of the lease, the panel, the printer and the bridge -/

theorem notifySubject_panel (who : Subject) (b : NoticeBody) (h : PanelLaw s) : PanelLaw (notifySubject who b s) :=
  h.frame (by simp) (by simp)

theorem expireHold_panel {g g' : Grant} (hg : (s.entry r).grant = some g) (hh : g'.holder = g.holder)
    (h : PanelLaw s) : PanelLaw (expireHold r g' s) :=
  notifySubject_panel _ _ (setGrant_panel hg (by simp [hh]) h)

theorem quarterBoundary_panel (r : Resource) (h : PanelLaw s) : PanelLaw (quarterBoundary r s) := by
  unfold quarterBoundary
  split
  · exact h
  next g hg =>
    have hset {g' : Grant} (hh : g'.holder = g.holder) : PanelLaw (s.setGrant r g') := setGrant_panel hg hh h
    dsimp only
    split
    · split
      · exact revokeGrant_panel r .lapsed 0 (hset rfl)
      · split
        · exact notifySubject_panel _ _ (hset rfl)
        · exact hset rfl
    · exact h

theorem heldQuarter_panel (r : Resource) (h : PanelLaw s) : PanelLaw (heldQuarter r s) := by
  unfold heldQuarter
  split
  · exact h
  next g hg =>
    split
    · dsimp only
      split
      · split
        · exact expireHold_panel hg (by rfl) h
        · exact setGrant_panel hg (by rfl) h
      · exact h
    · exact h

/-- The pending target is the source the head needs, so the switch to it completes the turnover (R101, R102). -/
theorem switchDisplay_panel {x : Source} (hx : s.display.target = some x) (h : PanelLaw s) :
    PanelLaw (switchDisplay x s) := by
  have hneed : requiredSource (s.entry .display).waiting = x := by
    have hd := h.1
    unfold DisplayLaw at hd
    split at hd
    next => exact Option.some.inj (hd.1.symm.trans hx)
    all_goals exact absurd (hd.1.symm.trans hx) (by simp)
  refine completeDisplay_panel ?_ (recomputeLamp_lamp (by simpa using h.2.2))
  simpa [recomputeLamp] using hneed

theorem fsyncEdge_panel (h : PanelLaw s) : PanelLaw (fsyncEdge s) := by
  unfold fsyncEdge
  split
  next hx => exact switchDisplay_panel hx h
  next => exact h

theorem forcedSwitch_panel (h : PanelLaw s) : PanelLaw (forcedSwitch s) := by
  unfold forcedSwitch
  split
  · split
    next hx => exact switchDisplay_panel (by simpa using hx) (h.frame (by simp) (by simp))
    next => exact h
  · exact h

theorem blinkToggle_panel (h : PanelLaw s) : PanelLaw (blinkToggle s) := by
  unfold blinkToggle
  split
  next t ht =>
    split
    · exact ⟨displayLaw_congr h.1 rfl rfl rfl rfl rfl, lampLaw_congr h.2 rfl rfl (by simp [ht]) rfl⟩
    · exact h
  next => exact h

theorem characterComplete_panel (h : PanelLaw s) : PanelLaw (characterComplete s) := by
  unfold characterComplete
  split
  · exact h
  · exact runPrinter_panel (h.frame (by simp) (by simp))

theorem printerStall_panel (h : PanelLaw s) : PanelLaw (printerStall s) := by
  unfold printerStall
  split
  · exact completeTurnover_keeps_panel (by decide) (h.frame (by simp) (by simp))
  · exact h

theorem fieldResetExpiry_panel (h : PanelLaw s) : PanelLaw (fieldResetExpiry s) := by
  have hgate {t : State} (ht : PanelLaw t) : PanelLaw (judgeGate t) := ht.frame (by simp) (by simp)
  unfold fieldResetExpiry
  split
  · split
    · dsimp only
      split
      · exact hgate (completeTurnover_keeps_panel (by decide) (h.frame rfl rfl))
      · exact hgate (h.frame rfl rfl)
    · exact h
  · exact h

/-! ## Keys and the matcher -/

theorem matchFound_panel (h : PanelLaw s) : PanelLaw (matchFound s) :=
  reportMatch_panel (h.frame (by split <;> simp) (by split <;> simp))

theorem keyScan_panel (contacts : BitVec 24) (h : PanelLaw s) : PanelLaw (keyScan contacts s) := by
  unfold keyScan
  split
  · rw [scanEvent_eq]
    extract_lets w _ _ t m u v
    have hv : PanelLaw v := by
      refine h.frame ?_ ?_
      all_goals
        unfold v
        split <;> simp [u, t]
    split
    · exact matchFound_panel hv
    · exact hv
  · exact h

theorem holdTimerMatch_panel (h : PanelLaw s) : PanelLaw (holdTimerMatch s) := by
  unfold holdTimerMatch
  split
  · split
    · exact matchFound_panel (h.frame rfl rfl)
    · exact h
  · exact h

/-! ## Doze, transfers and the timebase -/

theorem frameComplete_panel (l : Link) (h : PanelLaw s) : PanelLaw (frameComplete l s) := by
  have hdoze {t : State} (ht : PanelLaw t) : PanelLaw (dozeReplyCompleted t) := by
    unfold dozeReplyCompleted
    split
    · dsimp only
      split
      · exact mapGrants_panel Grant.dozeHold_holder (ht.frame rfl rfl)
      · exact ht.frame (by simp) (by simp)
    · exact ht
  unfold frameComplete
  split
  next x _ =>
    have hdrop : PanelLaw (s.setPort l { s.port l with inFlight := none }) := h.frame (by simp) (by simp)
    split
    · unfold reportCompletion
      split
      · split
        · exact hdoze hdrop
        · exact hdrop
      · exact hdrop.frame (by simp) (by simp)
      · exact hdrop
    · exact h
  next => exact h

theorem clockEdge_panel (l : Link) (h : PanelLaw s) : PanelLaw (clockEdge l s) := by
  unfold clockEdge
  split
  · exact h
  · exact (frameComplete_panel l h).frame (by simp) (by simp)

theorem moveByte_panel (l : Link) (b : Byte) (h : PanelLaw s) : PanelLaw (moveByte l b s) := by
  unfold moveByte
  split
  · exact h
  · exact (clockEdge_panel l h).frame (by simp) (by simp)

theorem arrive_panel (l : Link) (a : Arrival) (h : PanelLaw s) : PanelLaw (arrive l a s) := by
  cases a with
  | edge => exact clockEdge_panel l h
  | byte b => exact moveByte_panel l b h

theorem transferEnd_panel (l : Link) (h : PanelLaw s) : PanelLaw (transferEnd l s) := by
  unfold transferEnd
  split
  · exact h
  · exact (frameComplete_panel l h).frame (by simp) (by simp)

theorem lockIfDue_panel (h : PanelLaw s) : PanelLaw (lockIfDue s) := by
  have hrun {t : State} (ht : PanelLaw t) : PanelLaw (runPendingTakeover t) := by
    unfold runPendingTakeover
    split
    · exact attentionTakeover_panel (ht.frame rfl rfl)
    · exact ht
  unfold lockIfDue
  split
  · split
    · have hlock := hrun (mapGrants_panel Grant.dozeResume_holder
        (h.frame (t := { s with clock := { s.clock with fastClock := .locked, regime := .run } }) rfl rfl))
      refine hlock.frame ?_ ?_
      all_goals
        unfold lockEvent
        dsimp only
        split <;> simp
    · exact h
  · exact h

theorem millisecond_panel (h : PanelLaw s) : PanelLaw (millisecond s) := by
  refine mapGrants_panel (Grant.tick_holder _) ⟨?_, ?_⟩
  · exact displayLaw_congr h.1 rfl rfl rfl rfl (by simp [DisplaySwitch.tick])
  · exact lampLaw_congr h.2 rfl rfl (by simp [DisplaySwitch.tick]) rfl

/-- Every due event, in the order in which the model takes them (log entry 5). -/
theorem takeDue_panel (h : PanelLaw s) : PanelLaw (takeDue s) := by
  have hstall : PanelLaw (frameStall .r (frameStall .a (frameStall .p s))) := h.frame (by simp) (by simp)
  have hquarter := quarterBoundary_panel .printer (quarterBoundary_panel .cless
    (quarterBoundary_panel .display (quarterBoundary_panel .keypad hstall)))
  have hheld := heldQuarter_panel .printer (heldQuarter_panel .cless
    (heldQuarter_panel .display (heldQuarter_panel .keypad hquarter)))
  have htimeout {t : State} (ht : PanelLaw t) : PanelLaw (exchangeTimeout t) := ht.frame (by simp) (by simp)
  have hslot {t : State} (ht : PanelLaw t) : PanelLaw (slotBoundary t) := ht.frame (by simp) (by simp)
  exact lockIfDue_panel (hslot (fieldResetExpiry_panel (htimeout (printerStall_panel (blinkToggle_panel
    (forcedSwitch_panel (holdTimerMatch_panel (keyScan_panel _ hheld))))))))

theorem referenceCycle_panel (h : PanelLaw s) : PanelLaw (referenceCycle s) := by
  have hdue := takeDue_panel h
  unfold referenceCycle
  dsimp only
  split
  · exact hdue.frame rfl rfl
  · exact millisecond_panel (hdue.frame rfl rfl)

theorem referenceCycles_panel (n : Nat) (h : PanelLaw s) : PanelLaw (referenceCycles n s) := by
  induction n generalizing s with
  | zero => exact h
  | succ n ih => exact ih (referenceCycle_panel h)

theorem fastClockLock_panel (h : PanelLaw s) : PanelLaw (fastClockLock s) := by
  unfold fastClockLock
  split
  · split
    · exact lockIfDue_panel (referenceCycles_panel _ h)
    · exact h
  · exact h

theorem partReset_panel (c : ResetCause) (s : State) : PanelLaw (partReset c s) :=
  ⟨⟨rfl, rfl, rfl, rfl⟩, ⟨rfl, by simp [partReset, resetDisplay]⟩⟩

/-! ## Requests -/

theorem processWhere_panel {mine : Frame → Bool} {k : ReqKind} {handler : Handler} {l : Link}
    (hh : ∀ w b t, PanelLaw t → PanelLaw (handler l w b t).1) (h : PanelLaw s) :
    PanelLaw (processWhere mine k handler l s) :=
  processWhere_invariant PanelLaw (fun _ _ ht => ht.frame (by simp) (by simp)) (fun _ _ _ ht => hh _ _ _ ht) h

/-- A request that leaves the display switch and the custody unit as they stand. -/
theorem frame_panel {mine : Frame → Bool} {k : ReqKind} {handler : Handler} {l : Link}
    (hh : ∀ w b t, (handler l w b t).1.display = t.display ∧ (handler l w b t).1.custody = t.custody)
    (h : PanelLaw s) : PanelLaw (processWhere mine k handler l s) :=
  processWhere_panel (fun w b t ht => ht.frame (hh w b t).1 (by rw [(hh w b t).2])) h

/-! ### Policy and tenants (R31 to R39) -/

theorem dropStanding_panel (who : Subject) (r : Resource) (h : PanelLaw s) : PanelLaw (dropStanding who r s) := by
  unfold dropStanding
  split
  · exact enterTurnover_keeps_panel r .revoked h
  · split
    · exact changeWaiting_panel r _ h
    · exact h

theorem applyHoldLimit_panel (limit : Nat) (h : PanelLaw s) : PanelLaw (applyHoldLimit r limit s) := by
  unfold applyHoldLimit
  split
  · exact h
  next hg =>
    split
    · split
      · exact expireHold_panel hg rfl h
      · exact h
    · exact h

theorem policyOnHolder_panel (who : Subject) (old new : PolicyEntry) (h : PanelLaw s) :
    PanelLaw (policyOnHolder who r old new s) := by
  unfold policyOnHolder
  split
  · exact h
  next g hg =>
    split
    · have hgrans : PanelLaw (if new.grans ≠ old.grans then s.setGrant r (g.admitGrans new.grans) else s) := by
        split
        · exact setGrant_panel hg (by simp) h
        · exact h
      have hlimit {t : State} (ht : PanelLaw t) : PanelLaw
          (if new.holdLimit < old.holdLimit then applyHoldLimit r new.holdLimit t else t) := by
        split
        · exact applyHoldLimit_panel _ ht
        · exact ht
      have hboth := hlimit hgrans
      dsimp only
      split
      · split
        next hg' => exact setGrant_panel hg' rfl hboth
        next => exact hboth
      · exact hboth
    · exact h

theorem policyEffects_panel (who : Subject) (old new : PolicyEntry) (h : PanelLaw s) :
    PanelLaw (policyEffects who r old new s) := by
  unfold policyEffects
  split
  · exact dropStanding_panel who r (h.frame (by simp) (by simp))
  · have hholder := policyOnHolder_panel (r := r) who old new h
    unfold policyOnWaiter
    dsimp only
    split
    · exact changeWaiting_panel r _ hholder
    · exact hholder

theorem endAllStanding_panel (who : Subject) (h : PanelLaw s) : PanelLaw (endAllStanding who s) := by
  have htell : PanelLaw (allResources.foldl (fun s r => tellStandingEnds who r s) s) :=
    h.frame (foldl_keeps (fun s : State => s.display) _ (fun _ _ => by simp) _ _)
      (by rw [tellStandingEnds_all_custody])
  exact dropStanding_panel who _ (dropStanding_panel who _ (dropStanding_panel who _ (dropStanding_panel who _ htell)))

theorem tenantEffects_panel (n : Fin 16) (old new : TenantState) (h : PanelLaw s) :
    PanelLaw (tenantEffects n old new s) := by
  have hend : PanelLaw (if old = .active ∧ new ≠ .active then endAllStanding (.app n) s else s) := by
    split
    · exact endAllStanding_panel _ h
    · exact h
  unfold tenantEffects
  dsimp only
  split
  · exact hend.frame (foldl_keeps (fun s : State => s.display) _ (fun _ _ => by simp) _ _)
      (by rw [foldl_keeps (fun s : State => s.custody) _ (fun _ _ => by simp)])
  · exact hend

theorem policySetHandler_panel (l : Link) (w : Subject) (b : List Byte) (h : PanelLaw s) :
    PanelLaw (policySetHandler l w b s).1 := by
  unfold policySetHandler
  split
  · split
    · split
      · exact h
      · exact policyEffects_panel _ _ _ (h.frame rfl rfl)
    · exact h
  · exact h

theorem tenantSetHandler_panel (l : Link) (w : Subject) (b : List Byte) (h : PanelLaw s) :
    PanelLaw (tenantSetHandler l w b s).1 := by
  unfold tenantSetHandler
  split
  · split
    · exact h
    · dsimp only
      split
      · exact h
      · split
        · exact h
        · split
          · exact h
          · exact tenantEffects_panel _ _ _ (h.frame rfl rfl)
  · exact h

/-! ### Claims (R46 to R50) -/

/-- A FREE resource is granted: DISPLAY to PAY by way of a TURNOVER, and to anyone else at once, for which the panel
is on APP (R48, R99). -/
theorem claimFree_panel (c : ClaimTerms) (hf : (s.entry c.resource).state = .free) (h : PanelLaw s) :
    PanelLaw (claimFree c s).1 := by
  have harr : PanelLaw (takeArrival s).2 := h.frame rfl rfl
  unfold claimFree
  dsimp only
  split
  next => exact enterTurnover_replaced_panel .revoked _ harr rfl rfl
  next hd =>
    set u := (takeArrival s).2 with hu
    have hfree : (u.entry c.resource).state = .free := hf
    unfold startGrant
    set g := startLease c.who c.priority (takeArrival s).1 c.returnFlag c.gran (u.policyOf c.who c.resource).quarterLength
    have hother (q : Resource) (hq : q ≠ c.resource) : (u.setGrant c.resource g).entry q = u.entry q := by
      simp [setGrant_entry, hq]
    cases hr : c.resource with
    | keypad =>
      have hdisp : DisplayLaw (u.setGrant .keypad g) :=
        displayLaw_congr harr.1 (hr ▸ hother .display (by simp [hr])) rfl rfl rfl rfl
      unfold grantStarted
      dsimp only
      split
      · exact recomputeLamp_panel (displayLaw_congr hdisp rfl rfl rfl rfl rfl) harr.2.2
      · exact recomputeLamp_panel hdisp harr.2.2
    | display =>
      rw [hr] at hother hfree
      have hfree' := harr.1
      unfold DisplayLaw at hfree'
      rw [hfree] at hfree'
      obtain ⟨htarget, hreq, htimer, hmux⟩ := hfree'
      have hne : c.who ≠ .pay := fun hw => hd ⟨hr, hw⟩
      refine ⟨?_, lampLaw_congr harr.2 rfl rfl rfl (holder_of_entry (hother .keypad (by decide)))⟩
      simp [grantStarted, DisplayLaw, htarget, hreq, htimer, hmux, g, startLease, hne]
    | cless =>
      rw [hr] at hother
      exact harr.congr rfl (hother .display (by decide)) (holder_of_entry (hother .keypad (by decide)))
    | printer =>
      rw [hr] at hother
      exact harr.congr rfl (hother .display (by decide)) (holder_of_entry (hother .keypad (by decide)))

theorem claimPreempt_panel (c : ClaimTerms) (g : Grant) (hg : (s.entry c.resource).grant = some g) (h : PanelLaw s) :
    PanelLaw (claimPreempt c g s).1 := by
  have harr : PanelLaw (takeArrival s).2 := h.frame rfl rfl
  have hheld (ws : List Waiter) : ((takeArrival s).2.setWaiting c.resource ws).holder c.resource = some g.holder := by
    have he : ((takeArrival s).2.entry c.resource).grant = some g := hg
    rw [State.holder, setWaiting_entry_self]
    exact congrArg (Option.map (·.holder)) he
  unfold claimPreempt revokeGrant
  simp only [hheld]
  exact enterTurnover_replaced_panel .revoked _ harr (by simp)
    (congrArg CustodyUnit.entries (notifySubject_frame _ _ _).2.2.2.1)

theorem claimTaken_panel (c : ClaimTerms) (h : PanelLaw s) : PanelLaw (claimTaken c s).1 := by
  have hqueue : PanelLaw (claimQueue c s).1 := changeWaiting_panel _ _ (h.frame rfl rfl)
  unfold claimTaken
  dsimp only
  split
  next g hg =>
    have hpreempt := claimPreempt_panel c g hg h
    (repeat' split) <;> first | exact h | exact hqueue | exact hpreempt
  next => (repeat' split) <;> first | exact h | exact hqueue

theorem claimHandler_panel (l : Link) (w : Subject) (b : List Byte) (h : PanelLaw s) :
    PanelLaw (claimHandler l w b s).1 := by
  have hdecide (c : ClaimTerms) : PanelLaw (decideClaim c s).1 := by
    unfold decideClaim
    dsimp only
    split
    · exact h
    · split
      · exact h
      · split
        next hf => exact claimFree_panel c hf h
        next => exact claimTaken_panel c h
  unfold claimHandler
  split
  · split
    · dsimp only
      split
      · exact h
      · split
        · exact h
        · exact hdecide _
    · exact h
  · exact h

/-! ### The other requests on custody and on leases -/

theorem releaseHandler_panel (l : Link) (w : Subject) (b : List Byte) (h : PanelLaw s) :
    PanelLaw (releaseHandler l w b s).1 := by
  unfold releaseHandler
  split
  · split
    · exact h
    · split
      · exact enterTurnover_keeps_panel _ .released h
      · exact h
  · exact h

theorem withdrawHandler_panel (l : Link) (w : Subject) (b : List Byte) (h : PanelLaw s) :
    PanelLaw (withdrawHandler l w b s).1 := by
  unfold withdrawHandler
  split
  · split
    · exact h
    · split
      · exact changeWaiting_panel _ _ h
      · exact h
  · exact h

@[simp] theorem Grant.beginHold_holder (q : Nat) (g : Grant) : (g.beginHold q).holder = g.holder := rfl

/-- What the setting of a grant record of the same holder keeps, every request on a lease keeps (R69 to R74). -/
theorem leaseRequests_keep (P : State → Prop) {l : Link} {w : Subject} {b : List Byte}
    (hset : ∀ r g g', (s.entry r).grant = some g → g'.holder = g.holder → P (s.setGrant r g')) (h : P s) :
    P (renewHandler l w b s).1 ∧ P (setGrainHandler l w b s).1 ∧ P (holdHandler l w b s).1
      ∧ P (resumeHandler l w b s).1 := by
  have hown {r : Resource} {g g' : Grant} (hg : s.grantOf w r = some g) (hh : g'.holder = g.holder) :
      P (s.setGrant r g') := hset r g g' (Option.filter_eq_some_iff.mp hg).1 hh
  refine ⟨?_, ?_, ?_, ?_⟩
  · unfold renewHandler
    (repeat' split) <;> first | exact h | exact hown (by assumption) (Grant.renew_holder _)
  · unfold setGrainHandler
    (repeat' split) <;> first | exact h | exact hown (by assumption) (Grant.setGrain_holder _ _)
  · unfold holdHandler
    dsimp only
    (repeat' split) <;> first | exact h | exact hown (by assumption) (Grant.beginHold_holder _ _)
  · unfold resumeHandler
    (repeat' split) <;> first | exact h | exact hown (by assumption) (Grant.resume_holder _)

theorem lease_panel (l : Link) (w : Subject) (b : List Byte) (h : PanelLaw s) :
    PanelLaw (renewHandler l w b s).1 ∧ PanelLaw (setGrainHandler l w b s).1 ∧ PanelLaw (holdHandler l w b s).1
      ∧ PanelLaw (resumeHandler l w b s).1 := leaseRequests_keep PanelLaw (fun _ _ _ hg hh => setGrant_panel hg hh h) h

theorem printFlushHandler_panel (l : Link) (w : Subject) (b : List Byte) (h : PanelLaw s) :
    PanelLaw (printFlushHandler l w b s).1 := by
  unfold printFlushHandler
  split
  · exact runPrinter_panel (h.frame rfl rfl)
  · exact h

theorem restartEntry_panel (l : Link) (r : Resource) (h : PanelLaw s) : PanelLaw (restartEntry l s r) := by
  unfold restartEntry
  extract_lets ws held
  split
  · exact enterTurnover_replaced_panel .revoked _ h rfl rfl
  · split
    · exact changeWaiting_panel r _ h
    · exact h

theorem restartHandler_panel (l : Link) (w : Subject) (b : List Byte) (h : PanelLaw s) :
    PanelLaw (restartHandler l w b s).1 := by
  have hcustody : PanelLaw (restartCustody l (restartLink l s)) := by
    have hlink : PanelLaw (restartLink l s) := h.frame (by simp) (by simp)
    unfold restartCustody
    split
    · exact hlink
    · simp only [allResources, List.foldl_cons, List.foldl_nil]
      exact restartEntry_panel _ _ (restartEntry_panel _ _ (restartEntry_panel _ _ (restartEntry_panel _ _ hlink)))
  exact hcustody.frame (by simp [restartHandler]) (by simp [restartHandler])

/-! ## Every step -/

theorem processPartReset_panel (l : Link) (h : PanelLaw s) : PanelLaw (processPartReset l s) := by
  unfold processPartReset
  split
  · exact h
  · split
    · exact h
    · split
      · exact partReset_panel .request s
      · split
        · exact h.frame (by simp) (by simp)
        · exact h

theorem after_panel (c : Instr) (h : PanelLaw s) : PanelLaw (after c s) := by
  cases c
  case restart l => exact processWhere_panel (fun w b _ ht => restartHandler_panel l w b ht) h
  case policySet l => exact processWhere_panel (fun w b _ ht => policySetHandler_panel l w b ht) h
  case tenantSet l => exact processWhere_panel (fun w b _ ht => tenantSetHandler_panel l w b ht) h
  case claim l => exact processWhere_panel (fun w b _ ht => claimHandler_panel l w b ht) h
  case release l => exact processWhere_panel (fun w b _ ht => releaseHandler_panel l w b ht) h
  case withdraw l => exact processWhere_panel (fun w b _ ht => withdrawHandler_panel l w b ht) h
  case renew l => exact processWhere_panel (fun w b _ ht => (lease_panel l w b ht).1) h
  case setGrain l => exact processWhere_panel (fun w b _ ht => (lease_panel l w b ht).2.1) h
  case hold l => exact processWhere_panel (fun w b _ ht => (lease_panel l w b ht).2.2.1) h
  case resume l => exact processWhere_panel (fun w b _ ht => (lease_panel l w b ht).2.2.2) h
  case printFlush l => exact processWhere_panel (fun w b _ ht => printFlushHandler_panel l w b ht) h
  case partReset l => exact processPartReset_panel l h
  case pinReset => exact partReset_panel .pin s
  case powerUp => exact partReset_panel .power s
  case frameComplete l => exact frameComplete_panel l h
  case frameReceived l b => simp only [after]; split; exacts [moveByte_panel l b h, h]
  case frameLengthAbandoned l b => simp only [after]; split; exacts [moveByte_panel l b h, h]
  case transferEnd l => exact transferEnd_panel l h
  case arrivingByte l a => exact arrive_panel l a h
  case quarterBoundary r => exact quarterBoundary_panel r h
  case heldQuarter r => exact heldQuarter_panel r h
  case keyScan contacts => exact keyScan_panel contacts h
  case holdTimerMatch => exact holdTimerMatch_panel h
  case fsyncEdge => exact fsyncEdge_panel h
  case forcedSwitch => exact forcedSwitch_panel h
  case blinkTimer => exact blinkToggle_panel h
  case characterComplete => exact characterComplete_panel h
  case printerStall => exact printerStall_panel h
  case fieldResetExpiry => exact fieldResetExpiry_panel h
  case partTimeTick => exact referenceCycles_panel _ h
  case fastClockLock => exact fastClockLock_panel h
  case transferStart | outboundChoice | frameStall | unknownKind | prdyActive | writeComplete | clrdyActive
      | exchangeTimeout | abortComplete | readComplete | clfevEdge | slotBoundary | txRequestRise
      | txRequestFall => exact h.frame (by simp [after]) (by simp [after])
  case time | conditions | conditionsEnable | policyGet | tenantGet | custodyQuery | keySetup | matchSetup | print
      | printSetup | clExchange | clSetup | airMap | airQuery | chBind | chUnbind | chQuery | chQuerySummary | send
      | data | doze => exact frame_panel (fun _ _ _ => by simp) h

/-- Settles O55: every command and every reference cycle keeps the panel and the lamp within their law. -/
theorem panelAndLampFollowCustody : Obligations.PanelAndLampFollowCustody := fun _ _ hstep _ hs =>
  step_keeps PanelLaw (fun _ _ h => h.frame rfl rfl) (fun c _ h => after_panel c h)
    (fun _ h => referenceCycle_panel h) hstep hs

end Sys2Proof.Machine
end

section
/-! SUPPORT. A CLAIM by the tests that decide it (R46 to R50), RELEASE and WITHDRAW (R52, R58), and the completion of
a turnover (R56): O24 to O28. -/

namespace Sys2Proof.Machine

variable {l : Link} {f : Frame} {rb gb mb fb : Byte} {r : Resource} {want : Gran} {who : Subject} {s t : State}

/-! ## The tests of R46 -/

theorem granOf_eq_none {b : Byte} : granOf b = none ↔ 3 ≤ b.toNat := by
  unfold granOf
  (repeat' split) <;> simp only [reduceCtorEq, false_iff, true_iff] <;> bv_omega

/-- What a claim asks for, from the subject's policy entry and the bytes of the body. -/
def claimTerms (s : State) (who : Subject) (r : Resource) (want : Gran) (mb fb : Byte) : ClaimTerms where
  who := who
  resource := r
  gran := (s.policyOf who r).grans.grantable want
  limited := !(s.policyOf who r).grans.has want
  wait := decide (mb = 1)
  returnFlag := decide (fb = 1)
  priority := (s.policyOf who r).priority
  preempt := (s.policyOf who r).preempt

theorem claimHandler_badRequest (h : 4 ≤ rb.toNat ∨ 3 ≤ gb.toNat ∨ 2 ≤ mb.toNat ∨ 2 ≤ fb.toNat) :
    claimHandler l who [rb, gb, mb, fb] s = refuse .badRequest s := by
  simp only [← resourceOf_eq_none, ← granOf_eq_none, ← flagOf_eq_none] at h
  unfold claimHandler
  dsimp only
  split
  next hr hg hm hf => simp [hr, hg, hm, hf] at h
  next => rfl

theorem claimHandler_eq (hr : resourceOf rb = some r) (hg : granOf gb = some want) (hm : mb.toNat < 2)
    (hf : fb.toNat < 2) : claimHandler l who [rb, gb, mb, fb] s =
      if s.mayAct who = false then refuse .tenantInactive s
      else if (s.policyOf who r).allow = false then refuse .notPermitted s
      else decideClaim (claimTerms s who r want mb fb) s := by
  simp [claimHandler, hr, hg, flagOf_of_lt hm, flagOf_of_lt hf, claimTerms]

theorem claimHandler_decides (hr : resourceOf rb = some r) (hg : granOf gb = some want) (hm : mb.toNat < 2)
    (hf : fb.toNat < 2) (hact : s.mayAct who = true) (hallow : (s.policyOf who r).allow = true) :
    claimHandler l who [rb, gb, mb, fb] s = decideClaim (claimTerms s who r want mb fb) s := by
  simp [claimHandler_eq hr hg hm hf, hact, hallow]

/-! ## The first of R47 to R50 that applies -/

section
variable {c : ClaimTerms} {e : CustodyEntry}

theorem decideClaim_of_holder (h : s.holder c.resource = some c.who) : decideClaim c s = refuse .already s := by
  simp [decideClaim, holds_iff.mpr h]

theorem decideClaim_of_waiting (he : s.entry c.resource = e) (h : s.holder c.resource ≠ some c.who) {w : Waiter}
    (hw : findWaiter c.who e.waiting = some w) : decideClaim c s =
      (s, replyBody .queued [resourceCode c.resource, byte (positionOf c.who e.waiting), w.gran.code]) := by
  simp [decideClaim, holds_eq_false h, he, hw]

theorem decideClaim_of_free (he : s.entry c.resource = e) (hf : e.state = .free)
    (hw : findWaiter c.who e.waiting = none) : decideClaim c s = claimFree c s := by
  have hh : s.holds c.who c.resource = false := by simp [State.holds, State.holder, he, CustodyEntry.grant, hf]
  simp [decideClaim, hh, he, hf, hw]

theorem decideClaim_of_taken (he : s.entry c.resource = e) (h : s.holder c.resource ≠ some c.who)
    (hf : e.state ≠ .free) (hw : findWaiter c.who e.waiting = none) : decideClaim c s = claimTaken c s := by
  simp [decideClaim, holds_eq_false h, he, hf, hw]

theorem ClaimTerms.preempts_iff {g : Grant} : c.preempts g = true ↔ c.preempt = true ∧ g.priority < c.priority := by
  simp [ClaimTerms.preempts]

/-- An entry with a holder (R49, R50). -/
theorem claimTaken_of_grant (he : s.entry c.resource = e) {g : Grant} (hg : e.grant = some g) : claimTaken c s =
    if c.preempts g then if 6 ≤ e.waiting.length then refuse .listFull s else claimPreempt c g s
    else if c.wait = false then refuse .busy s
    else if 6 ≤ e.waiting.length then refuse .listFull s
    else claimQueue c s := by
  unfold claimTaken
  rw [he]
  dsimp only
  rw [hg]
  simp only [Config.listPlaces, Bool.not_eq_true]
  congr!

/-- An entry in TURNOVER (R50). -/
theorem claimTaken_of_no_grant (he : s.entry c.resource = e) (hg : e.grant = none) : claimTaken c s =
    if c.wait = false ∧ ∃ w ∈ e.waiting, c.priority ≤ w.priority then refuse .busy s
    else if 6 ≤ e.waiting.length then refuse .listFull s
    else claimQueue c s := by
  unfold claimTaken
  rw [he]
  dsimp only
  rw [hg]
  simp only [Config.listPlaces, Bool.not_eq_true, ClaimTerms.isBusy, hg, Option.isSome_none, Bool.false_or,
    List.any_eq_true, decide_eq_true_eq]
  congr!

end

/-! ## A claim as a whole -/

theorem claim_reply {body : List Byte} (h : Admitted .claim l f s)
    (hh : claimHandler l (requester l f.tenant) f.body (dropOldest l s) = (t, body)) :
    exec (.claim l) s = .next (placeReply l (replyFrame f body) t) := congrArg _ (processRequest_admitted h hh)

theorem claim_refused {c : ReplyCode} (h : Admitted .claim l f s)
    (hh : claimHandler l (requester l f.tenant) f.body (dropOldest l s) = refuse c (dropOldest l s)) :
    exec (.claim l) s = .next (refused l f c s) := claim_reply h hh

/-- A claim that passes the tests of R46 is decided in the state in which its frame has given up its place. -/
theorem claim_decided {body : List Byte} (h : Admitted .claim l f s) (hb : f.body = [rb, gb, mb, fb])
    (hr : resourceOf rb = some r) (hg : granOf gb = some want) (hm : mb.toNat < 2) (hf : fb.toNat < 2)
    (hw : who = requester l f.tenant) (hact : s.mayAct who = true) (hallow : (s.policyOf who r).allow = true)
    (hd : decideClaim (claimTerms s who r want mb fb) (dropOldest l s) = (t, body)) :
    exec (.claim l) s = .next (placeReply l (replyFrame f body) t) := by
  refine claim_reply h ?_
  rw [hb, ← hw, claimHandler_decides hr hg hm hf (by simpa using hact) (by simpa using hallow), ← hd]
  simp [claimTerms]

theorem CustodyEntry.grant_of_turnover {e : CustodyEntry} (h : e.standing = .turnover) :
    e.grant = none ∧ e.state ≠ .free := by
  obtain ⟨k, hk⟩ := standing_eq_turnover.mp h
  simp [CustodyEntry.grant, hk]

theorem CustodyEntry.state_ne_free_of_grant {e : CustodyEntry} {g : Grant} (h : e.grant = some g) :
    e.state ≠ .free := by simp [CustodyEntry.grant_eq_some.mp h]

/-- Settles O24: the tests of R46 and then the clauses of R47, R49 and R50 that refuse or repeat. -/
theorem claimsThatChangeNothing : Obligations.ClaimsThatChangeNothing := by
  intro l f rb gb mb fb s h hb
  refine ⟨fun hbad => claim_refused h (hb ▸ claimHandler_badRequest hbad),
    fun r want who hr hg hm hf hw => ⟨fun hact => ?_, fun hact hallow => ?_, fun hact hallow => ?_⟩⟩
  · refine claim_refused h ?_
    simp [hb, ← hw, claimHandler_eq hr hg hm hf, hact]
  · refine claim_refused h ?_
    simp [hb, ← hw, claimHandler_eq hr hg hm hf, hact, hallow]
  · set c := claimTerms s who r want mb fb
    have hentry : (dropOldest l s).entry c.resource = s.entry r := by simp [c, claimTerms]
    have hholder : (dropOldest l s).holder c.resource = s.holder r := by simp [c, claimTerms]
    have hdecided {t : State} {body : List Byte} (hd : decideClaim c (dropOldest l s) = (t, body)) :
        exec (.claim l) s = .next (placeReply l (replyFrame f body) t) :=
      claim_decided h hb hr hg hm hf hw hact hallow hd
    refine ⟨fun hh => hdecided (decideClaim_of_holder (hholder.trans hh)), fun hh w hwait => ?_, fun hh hwait => ?_⟩
    · have hd := decideClaim_of_waiting hentry (hholder.trans_ne hh) hwait
      rw [show resourceCode c.resource = rb from resourceCode_of hr] at hd
      exact hdecided hd
    · have htaken (hstate : (s.entry r).state ≠ .free) :
          decideClaim c (dropOldest l s) = claimTaken c (dropOldest l s) :=
        decideClaim_of_taken hentry (hholder.trans_ne hh) hstate hwait
      have hnowait (hmb : mb = 0) : c.wait = false := by subst hmb; rfl
      have hwaits (hmb : mb = 1) : ¬ c.wait = false := by subst hmb; simp [c, claimTerms]
      refine ⟨fun g hgrant => ?_, fun hturn => ?_⟩
      · have hd := (htaken (CustodyEntry.state_ne_free_of_grant hgrant)).trans (claimTaken_of_grant hentry hgrant)
        refine ⟨fun hp hfull => hdecided ?_, fun hp => ⟨fun hmb => hdecided ?_, fun hmb hfull => hdecided ?_⟩⟩
        · rw [hd, if_pos (ClaimTerms.preempts_iff.mpr hp), if_pos hfull, refuse]
        · rw [hd, if_neg (mt ClaimTerms.preempts_iff.mp hp), if_pos (hnowait hmb), refuse]
        · rw [hd, if_neg (mt ClaimTerms.preempts_iff.mp hp), if_neg (hwaits hmb), if_pos hfull, refuse]
      · obtain ⟨hnone, hstate⟩ := CustodyEntry.grant_of_turnover hturn
        have hd := (htaken hstate).trans (claimTaken_of_no_grant hentry hnone)
        refine ⟨fun hmb hbusy => hdecided ?_, fun hmb hfull => hdecided ?_⟩
        · rw [hd, if_pos ⟨hnowait hmb, hbusy⟩, refuse]
        · rw [hd, if_neg fun hc => hwaits hmb hc.1, if_pos hfull, refuse]

/-! ## The place and the reply of a processed frame -/

theorem placeReply_replies (f : Frame) : ((placeReply l f s).port l).replies = (s.port l).replies ++ [f] := by
  simp [placeReply]

theorem placeReply_notices (f : Frame) (k : Link) :
    ((placeReply l f s).port k).notices = (s.port k).notices := by
  rw [placeReply, setPort_port]
  split
  next hk => rw [hk]
  next => rfl

theorem dropOldest_notices (k : Link) : ((dropOldest l s).port k).notices = (s.port k).notices := by
  rw [dropOldest, setPort_port]
  split
  next hk => rw [hk]
  next => rfl

theorem dropOldest_replies : ((dropOldest l s).port l).replies = (s.port l).replies := by simp [dropOldest]

/-! ## A claim on a FREE resource (R48, R54, R66) -/

theorem startGrant_arrivals (p : Nat) (o : BitVec 32) (b : Bool) (g : Gran) :
    (startGrant r who p o b g s).custody.arrivals = s.custody.arrivals := by simp [startGrant]

theorem startGrant_printer (p : Nat) (o : BitVec 32) (b : Bool) (g : Gran) :
    (startGrant .printer who p o b g s).printer = { s.printer with armed := false } := rfl

/-- PAY takes KEYPAD with the matcher at rest (R90). -/
theorem startGrant_keypad_pay (p : Nat) (o : BitVec 32) (b : Bool) (g : Gran) :
    (startGrant .keypad .pay p o b g s).keys =
      { s.keys with position := 0, previousPress := none, holdTimer := none } := by
  simp [startGrant, grantStarted, resetMatcher]

/-- DISPLAY in TURNOVER, its head needing the other source, with no change pending (R54, R100). -/
theorem reportDisplayHead_moves {k : EndingKind} (hs : (s.entry .display).state = .turnover k)
    (hm : requiredSource (s.entry .display).waiting ≠ s.display.mux) :
    reportDisplayHead s = { s with display := { s.display with
      required := some (requiredSource (s.entry .display).waiting)
      target := some (requiredSource (s.entry .display).waiting)
      forcedTimer := if s.display.target.isSome then s.display.forcedTimer else some .zero } } := by
  unfold reportDisplayHead
  rw [hs]
  exact if_neg hm

theorem reportDisplayHead_completes {k : EndingKind} (hs : (s.entry .display).state = .turnover k)
    (hm : requiredSource (s.entry .display).waiting = s.display.mux) : reportDisplayHead s = completeDisplay s := by
  unfold reportDisplayHead
  rw [hs]
  exact if_pos hm

/-- PAY enters TURNOVER on DISPLAY with the panel on APP: the panel is to be moved first (R48). -/
theorem enterTurnover_display_moves {k : EndingKind} (hm : requiredSource (s.entry .display).waiting ≠ s.display.mux) :
    (enterTurnover .display k s).entry .display = { s.entry .display with state := .turnover k }
      ∧ (enterTurnover .display k s).display.target = some (requiredSource (s.entry .display).waiting)
      ∧ (enterTurnover .display k s).ports = s.ports := by
  have he := reportDisplayHead_moves (s := s.setEntry .display { s.entry .display with state := .turnover k })
    (k := k) (by simp) (by simpa using hm)
  simp only [enterTurnover, he]
  exact ⟨setEntry_entry_self s .display _, by simp, rfl⟩

theorem claimFree_grants {c : ClaimTerms} (h : ¬ (c.resource = .display ∧ c.who = .pay)) : claimFree c s =
    (startGrant c.resource c.who c.priority (s.custody.arrivals + 1) c.returnFlag c.gran (takeArrival s).2,
      replyBody (okOr c.limited) [resourceCode c.resource, 0, c.gran.code]) := if_neg h

theorem claimFree_queues {c : ClaimTerms} (h : c.resource = .display ∧ c.who = .pay) : claimFree c s =
    (enterTurnover .display .revoked ((takeArrival s).2.setWaiting .display [c.waiter (s.custody.arrivals + 1)]),
      c.queuedReply 1) := if_pos h

/-- The first byte of a claim's reply (R46). -/
theorem okOr_body (allowed : Bool) (data : List Byte) :
    replyBody (okOr (!allowed)) data = (if allowed then 0x00 else 0x03) :: data := by cases allowed <;> rfl

theorem queued_body (allowed : Bool) (data : List Byte) :
    replyBody (if (!allowed) = true then .clamped else .queued) data = (if allowed then 0x01 else 0x03) :: data := by
  cases allowed <;> rfl

/-- Settles O25: the entry is FREE with nobody waiting, so R48 decides, and its two cases are apart. -/
theorem freeResourceIsGrantedAtOnce : Obligations.FreeResourceIsGrantedAtOnce := by
  intro l f rb gb mb fb r want who s h hb hr hg hm hf hw hact hallow hfree hempty e given g
  set c := claimTerms s who r want mb fb
  set u := (takeArrival (dropOldest l s)).2 with hu
  have hentry (q : Resource) : u.entry q = s.entry q := by simp [hu, takeArrival]
  have hnotices (k : Link) : (u.port k).notices = (s.port k).notices := dropOldest_notices k
  have hreplies : (u.port l).replies = (s.port l).replies := dropOldest_replies
  have hclaim {t : State} {body : List Byte} (hd : claimFree c (dropOldest l s) = (t, body)) :
      exec (.claim l) s = .next (placeReply l (replyFrame f body) t) := by
    refine claim_decided h hb hr hg hm hf hw hact hallow ((decideClaim_of_free (e := s.entry r) ?_ hfree ?_).trans hd)
    · simp [claimTerms]
    · simp [findWaiter, hempty]
  refine ⟨fun hother => ?_, fun hpay hmux => ?_⟩
  · have hgrant : claimFree c (dropOldest l s) =
        (startGrant r who e.priority (s.custody.arrivals + 1) (decide (fb = 1)) given u,
          replyBody (okOr (!e.grans.has want)) [rb, 0, given.code]) := by
      rw [claimFree_grants hother, show resourceCode c.resource = rb from resourceCode_of hr]
      rfl
    refine ⟨_, hclaim hgrant, ?_, ?_, fun q hq => ?_, ?_, fun k => ?_, fun hp => ?_, fun hk hp => ?_⟩
    · simp only [placeReply_reads, startGrant_entry, if_true, hentry, hempty]
      rfl
    · simp only [placeReply_frame, startGrant_arrivals]
      rfl
    · simp only [placeReply_reads, startGrant_entry, hentry, if_neg hq]
    · rw [placeReply_replies, port_congr (startGrant_frame _ _ _ _ _ _ _).2.1, hreplies, okOr_body]
    · rw [placeReply_notices, port_congr (startGrant_frame _ _ _ _ _ _ _).2.1, hnotices]
    · subst hp
      simp only [placeReply_frame, startGrant_printer]
      rfl
    · subst hk hp
      simp [startGrant_keypad_pay]
  · obtain ⟨rfl, rfl⟩ := hpay
    set w : Waiter := { subject := .pay, priority := e.priority, order := s.custody.arrivals + 1, gran := given
                        returnFlag := decide (fb = 1), origin := .claim } with hwaiter
    have hqueue : claimFree c (dropOldest l s) = (enterTurnover .display .revoked (u.setWaiting .display [w]),
        replyBody (if (!e.grans.has want) = true then .clamped else .queued) [rb, 1, given.code]) := by
      rw [claimFree_queues ⟨rfl, rfl⟩, ClaimTerms.queuedReply, show resourceCode c.resource = rb from resourceCode_of hr]
      rfl
    obtain ⟨hdisplay, htarget, hports⟩ := enterTurnover_display_moves (k := .revoked)
      (s := u.setWaiting .display [w]) (by simp [u, hmux, hwaiter, requiredSource])
    refine ⟨_, hclaim hqueue, ?_, ?_, ?_, ?_⟩
    · simp [hdisplay, standing_eq_turnover]
    · simp [hdisplay]
    · simp only [placeReply_frame, htarget, setWaiting_entry_self]
      rfl
    · rw [placeReply_replies, port_congr hports, queued_body]
      exact congrArg (· ++ _) hreplies

/-! ## A claim that preempts, or is queued (R44, R49, R50) -/

theorem claimPreempt_eq {c : ClaimTerms} {g : Grant} (hg : (s.entry c.resource).grant = some g) {list : List Waiter}
    (hl : list = preemptedList (c.waiter (s.custody.arrivals + 1)) g (s.entry c.resource).waiting) :
    claimPreempt c g s =
      (enterTurnover c.resource .revoked (notifySubject g.holder
        (.revoke c.resource .preempted (positionOf g.holder list)) ((takeArrival s).2.setWaiting c.resource list)),
        c.queuedReply (positionOf c.who list)) := by
  have hh (ws : List Waiter) : ((takeArrival s).2.setWaiting c.resource ws).holder c.resource = some g.holder := by
    have he : ((takeArrival s).2.entry c.resource).grant = some g := hg
    rw [State.holder, setWaiting_entry_self]
    exact congrArg (Option.map (·.holder)) he
  subst hl
  unfold claimPreempt revokeGrant
  simp only [hh]
  rfl

theorem claimQueue_eq {c : ClaimTerms} {list : List Waiter}
    (hl : list = placeWaiter (c.waiter (s.custody.arrivals + 1)) (s.entry c.resource).waiting) :
    claimQueue c s =
      (changeWaiting c.resource list (takeArrival s).2, c.queuedReply (positionOf c.who list)) := hl ▸ rfl

/-- The place an entry takes in a list in order (R44). -/
theorem placeWaiter_splits (w : Waiter) (ws : List Waiter) (h : ws.Pairwise Waiter.mayLead) :
    ∃ before after, placeWaiter w ws = before ++ w :: after ∧ ws = before ++ after
      ∧ (∀ v ∈ before, w.before v = false) ∧ ∀ v ∈ after, w.mayLead v := by
  induction ws with
  | nil => exact ⟨[], [], rfl, rfl, by simp, by simp⟩
  | cons v vs ih =>
    obtain ⟨hv, hvs⟩ := List.pairwise_cons.mp h
    unfold placeWaiter
    split
    next hb =>
      have hw := Waiter.mayLead_of_before hb
      refine ⟨[], v :: vs, rfl, rfl, by simp, fun x hx => ?_⟩
      rcases List.mem_cons.mp hx with rfl | hx
      · exact hw
      · exact Waiter.mayLead_trans hw (hv x hx)
    next hb =>
      obtain ⟨before, after, hp, hs, hbefore, hafter⟩ := ih hvs
      refine ⟨v :: before, after, by rw [hp, List.cons_append], by rw [hs, List.cons_append], fun x hx => ?_, hafter⟩
      rcases List.mem_cons.mp hx with rfl | hx
      · simpa using hb
      · exact hbefore x hx

/-- The reply that names a position, for a claim that was read from its bytes. -/
theorem claimTerms_queuedReply (hr : resourceOf rb = some r) (n : Nat) :
    (claimTerms s who r want mb fb).queuedReply n =
      replyBody (if (s.policyOf who r).grans.has want = true then .queued else .clamped)
        [rb, byte n, ((s.policyOf who r).grans.grantable want).code] := by
  rw [ClaimTerms.queuedReply, show resourceCode (claimTerms s who r want mb fb).resource = rb from resourceCode_of hr]
  cases hg : (s.policyOf who r).grans.has want <;> simp [claimTerms, hg]

/-- The old holder comes back with its return flag, which is what brings it back (R49). -/
theorem preemptedList_eq (claimant : Waiter) (g : Grant) (ws : List Waiter) : preemptedList claimant g ws =
    if g.returnFlag = true ∧ (placeWaiter claimant ws).length < 6 then
      placeWaiter { subject := g.holder, priority := g.priority, order := g.order, gran := g.gran
                    returnFlag := true, origin := .ret } (placeWaiter claimant ws)
    else placeWaiter claimant ws := by
  unfold preemptedList
  exact ite_congr rfl (fun hc => by rw [hc.1]) fun _ => rfl

/-- Settles O26: the claimant is new, and R49 or R50 is the first that applies; a list keeps its order (R44). -/
theorem claimsPreemptOrQueue : Obligations.ClaimsPreemptOrQueue := by
  refine ⟨?_, ?_, fun w ws h => ⟨placeWaiter_pairwise w h, placeWaiter_splits w ws h⟩⟩
  · intro l f rb gb mb fb r want who g s h hb hr hg hm hf hw hact hallow hpre hgrant hne hlt hnew hroom
      e given placed list u
    set c := claimTerms s who r want mb fb
    have hentry : u.entry c.resource = s.entry r := by simp [u, c, claimTerms]
    have hholder : u.holder c.resource ≠ some c.who := by
      rw [State.holder, hentry, hgrant]
      exact fun hc => hne (Option.some.inj hc)
    have hlist : list = preemptedList (c.waiter (u.custody.arrivals + 1)) g (u.entry c.resource).waiting := by
      rw [hentry, preemptedList_eq]
      rfl
    have hd := (decideClaim_of_taken hentry hholder (CustodyEntry.state_ne_free_of_grant hgrant) hnew).trans
      (claimTaken_of_grant hentry hgrant)
    rw [if_pos (ClaimTerms.preempts_iff.mpr ⟨hpre, hlt⟩), if_neg (Nat.not_le.mpr hroom),
      claimPreempt_eq (by rw [hentry, hgrant]) hlist, claimTerms_queuedReply hr] at hd
    exact claim_decided h hb hr hg hm hf hw hact hallow hd
  · intro l f rb gb mb fb r want who s h hb hr hg hm hf hw hact hallow hhold hnew hroom hstate hgrant hhead
      e given list u
    set c := claimTerms s who r want mb fb
    have hentry : u.entry c.resource = s.entry r := by simp [u, c, claimTerms]
    have hholder : u.holder c.resource ≠ some c.who := by
      rw [State.holder, hentry]
      exact hhold
    have hlist : list = placeWaiter (c.waiter (u.custody.arrivals + 1)) (u.entry c.resource).waiting := by
      rw [hentry]
      rfl
    have hroom' : ¬ 6 ≤ (s.entry r).waiting.length := Nat.not_le.mpr hroom
    have htaken : claimTaken c u = claimQueue c u := by
      cases hsome : (s.entry r).grant with
      | some g =>
        obtain ⟨hmb, hp⟩ := hgrant g hsome
        have hwait : ¬ c.wait = false := by simp [c, claimTerms, hmb]
        rw [claimTaken_of_grant hentry hsome, if_neg (mt ClaimTerms.preempts_iff.mp hp), if_neg hwait, if_neg hroom']
      | none =>
        have hbusy : ¬ (c.wait = false ∧ ∃ w ∈ (s.entry r).waiting, c.priority ≤ w.priority) := by
          rintro ⟨hwait, w, hmem, hle⟩
          have hmb : mb = 0 := by
            have hne : mb ≠ 1 := by simpa [c, claimTerms] using hwait
            bv_omega
          exact absurd hle (Nat.not_le.mpr (hhead hmb w hmem))
        rw [claimTaken_of_no_grant hentry hsome, if_neg hbusy, if_neg hroom']
    have hd := (decideClaim_of_taken hentry hholder hstate hnew).trans (htaken.trans (claimQueue_eq hlist))
    rw [claimTerms_queuedReply hr] at hd
    exact claim_decided h hb hr hg hm hf hw hact hallow hd

/-! ## RELEASE and WITHDRAW (R52, R58) -/

theorem release_reply {body : List Byte} (h : Admitted .release l f s) (hb : f.body = [rb])
    (hh : releaseHandler l (requester l f.tenant) [rb] (dropOldest l s) = (t, body)) :
    exec (.release l) s = .next (placeReply l (replyFrame f body) t) := congrArg _ (processRequest_admitted h (hb ▸ hh))

theorem withdraw_reply {body : List Byte} (h : Admitted .withdraw l f s) (hb : f.body = [rb])
    (hh : withdrawHandler l (requester l f.tenant) [rb] (dropOldest l s) = (t, body)) :
    exec (.withdraw l) s = .next (placeReply l (replyFrame f body) t) :=
  congrArg _ (processRequest_admitted h (hb ▸ hh))

/-- Settles O27: the handlers' tests, one clause each. -/
theorem releaseAndWithdraw : Obligations.ReleaseAndWithdraw := by
  refine fun l f rb s hb => ⟨fun h => ⟨fun hbad => release_reply h hb ?_,
      fun r hr => ⟨fun hn => release_reply h hb ?_, fun hh => release_reply h hb ?_⟩⟩,
    fun h => ⟨fun hbad => withdraw_reply h hb ?_,
      fun r hr => ⟨fun hn => withdraw_reply h hb ?_, fun hw => withdraw_reply h hb ?_⟩⟩⟩
  · simp [releaseHandler, resourceOf_eq_none.mpr hbad, refuse]
  · simp [releaseHandler, hr, holds_eq_false hn, refuse]
  · simp [releaseHandler, hr, holds_iff.mpr hh]
  · simp [withdrawHandler, resourceOf_eq_none.mpr hbad, refuse]
  · simp [withdrawHandler, hr, hn, refuse]
  · simp [withdrawHandler, hr, Option.isSome_iff_ne_none.mpr hw, dropWaiter]

/-! ## The completion of a turnover (R56, R66) -/

theorem completeTurnover_ports_nil (hw : (s.entry r).waiting = []) : (completeTurnover r s).ports = s.ports := by
  unfold completeTurnover
  rw [hw]
  dsimp only
  split <;> simp

theorem completeTurnover_arrivals : (completeTurnover r s).custody.arrivals = s.custody.arrivals := by
  unfold completeTurnover
  split
  · dsimp only
    split <;> simp
  · simp [startGrant_arrivals]

/-- GRANT names the origin of the entry that was the head, and its granularity (R56). -/
theorem completeTurnover_notices_cons {w : Waiter} {rest : List Waiter} (hw : (s.entry r).waiting = w :: rest)
    (hroom : (s.port w.subject.link).notices.length < 16) :
    ((completeTurnover r s).port w.subject.link).notices = (s.port w.subject.link).notices
      ++ [{ tenant := w.subject.tenantField
            body := .grant r w.origin ((s.policyOf w.subject r).grans.grantable w.gran) }] := by
  unfold completeTurnover
  rw [hw]
  dsimp only
  have hports (g : Gran) : (startGrant r w.subject w.priority w.order w.returnFlag g (s.setWaiting r rest)).port
      w.subject.link = s.port w.subject.link := by
    rw [port_congr (startGrant_frame _ _ _ _ _ _ _).2.1]
    rfl
  rw [notifySubject, notify_notices (by rwa [hports]), hports]

/-- Settles O28: completion frees the entry or grants its head, and touches no other entry. -/
theorem completionGrantsTheHead : Obligations.CompletionGrantsTheHead := fun _ _ =>
  ⟨fun hw => ⟨completeTurnover_entry_nil hw, completeTurnover_ports_nil hw⟩,
    fun _ _ hw => ⟨completeTurnover_entry_cons hw, completeTurnover_notices_cons hw⟩,
    fun _ hr => completeTurnover_entry_other hr, completeTurnover_arrivals⟩

end Sys2Proof.Machine
end

section
/-! SUPPORT. What a KEYPAD turnover leaves of the key unit (R88), and the events of the panel and the lamp
(R100 to R105): O37 and O39. -/

namespace Sys2Proof.Machine

variable {s : State} {r : Resource} {l : Link}

/-! ## What a notice leaves of a port -/

theorem Condition.bit_and_other {c d : Condition} (h : c ≠ d) : d.bit &&& c.bit = 0 := by
  cases c <;> cases d <;> first | rfl | exact absurd rfl h

theorem hasCondition_join_other {c d : Condition} (h : c ≠ d) (set : BitVec 10) :
    hasCondition (set ||| d.bit) c = hasCondition set c := by
  simp [hasCondition, BitVec.and_or_distrib_right, Condition.bit_and_other h]

theorem hasCondition_join_self (c : Condition) (set : BitVec 10) : hasCondition (set ||| c.bit) c = true := by
  have hbit : c.bit ≠ 0 := by cases c <;> decide
  have hself : (set ||| c.bit) &&& c.bit = c.bit := by
    ext i
    simp only [BitVec.getElem_and, BitVec.getElem_or]
    cases set[i] <;> simp
  simpa [hasCondition, hself] using hbit

theorem setCondition_keeps (c : Condition) (k : Link) : ((setCondition k c s).port l).inFlight = (s.port l).inFlight
    ∧ ∀ d, d ≠ c → hasCondition ((setCondition k c s).port l).conditions d = hasCondition (s.port l).conditions d := by
  rw [setCondition, setPort_port]
  split
  next hk => exact ⟨by rw [hk], fun d hd => by rw [hasCondition_join_other hd, hk]⟩
  next => exact ⟨rfl, fun _ _ => rfl⟩

/-- A notice leaves the frame in flight, and of the conditions every one but NOTICE_LOST (R11). -/
theorem notify_keeps (n : Notice) (k : Link) : ((notify k n s).port l).inFlight = (s.port l).inFlight
    ∧ ∀ d, d ≠ .noticeLost →
      hasCondition ((notify k n s).port l).conditions d = hasCondition (s.port l).conditions d := by
  unfold notify
  split
  · rw [setPort_port]
    split
    next hk => exact ⟨by rw [hk], fun d _ => by rw [hk]⟩
    next => exact ⟨rfl, fun _ _ => rfl⟩
  · exact setCondition_keeps .noticeLost k

theorem completeTurnover_keeps (r : Resource) (s : State) (l : Link) :
    ((completeTurnover r s).port l).inFlight = (s.port l).inFlight
      ∧ ∀ d, d ≠ .noticeLost →
        hasCondition ((completeTurnover r s).port l).conditions d = hasCondition (s.port l).conditions d := by
  cases hw : (s.entry r).waiting with
  | nil => rw [port_congr (completeTurnover_ports_nil hw)]; exact ⟨rfl, fun _ _ => rfl⟩
  | cons w rest =>
    unfold completeTurnover
    rw [hw]
    dsimp only
    have hports (g : Gran) : (startGrant r w.subject w.priority w.order w.returnFlag g (s.setWaiting r rest)).port l
        = s.port l := by
      rw [port_congr (startGrant_frame _ _ _ _ _ _ _).2.1]
      rfl
    rw [← hports ((s.policyOf w.subject r).grans.grantable w.gran)]
    exact notify_keeps _ _

/-! ## The key unit in a KEYPAD turnover (R88, R90) -/

/-- The key unit with its FIFO flushed, its keys down suppressed and its matcher at rest. -/
def KeyUnit.flushed (k : KeyUnit) : KeyUnit :=
  { k with
    keys := k.keys.map KeyState.suppress, fifo := [], lossPending := false
    position := 0, previousPress := none, holdTimer := none }

theorem KeyUnit.flushed_key (k : KeyUnit) (i : Fin 24) : k.flushed.keys[i] =
    { k.keys[i] with standing := if k.keys[i].standing = .down then .suppressed else k.keys[i].standing } := by
  have hmap : k.flushed.keys[i] = k.keys[i].suppress := by simp [KeyUnit.flushed]
  rw [hmap, KeyState.suppress]
  split <;> rfl

/-- A grant of KEYPAD leaves a matcher at rest so. -/
theorem completeTurnover_keypad_keys (hp : s.keys.position = 0) (hprev : s.keys.previousPress = none)
    (ht : s.keys.holdTimer = none) : (completeTurnover .keypad s).keys = s.keys := by
  have hrest : ({ s.keys with position := 0, previousPress := none, holdTimer := none } : KeyUnit) = s.keys := by
    rw [← hp, ← hprev, ← ht]
  unfold completeTurnover
  split
  · simp
  · simp only [notifySubject_frame, startGrant, grantStarted, recomputeLamp_frame]
    split
    · exact hrest
    · rfl

/-- What completes in the KEYPAD turnover is the state in which the old holder's KEY frame is cancelled and the key
unit is flushed. -/
theorem keypadTurnover_eq (old : Option Subject) (s : State) : ∃ u : State, keypadTurnover old s = completeTurnover .keypad u
    ∧ u.keys = s.keys.flushed ∧ u.custody = s.custody ∧ u.policy = s.policy ∧ u.display = s.display
    ∧ ∀ l, (u.port l).notices = (s.port l).notices
      ∧ (u.port l).inFlight = if old.map Subject.link = some l ∧ s.inFlightFrom l .key then none
          else (s.port l).inFlight := by
  cases old with
  | none => exact ⟨_, rfl, rfl, rfl, rfl, rfl, fun l => ⟨rfl, by simp⟩⟩
  | some h =>
    refine ⟨_, rfl, by simp [resetMatcher, KeyUnit.flushed], by simp [resetMatcher], by simp [resetMatcher],
      by simp [resetMatcher], fun l => ⟨cancelFrom_notices h.link .key, ?_⟩⟩
    change ((cancelFrom h.link .key s).port l).inFlight = _
    rw [cancelFrom_quiet _ _ _ (by simp) (by simp)]
    rcases eq_or_ne l h.link with rfl | hl
    · by_cases hf : s.inFlightFrom h.link .key <;> simp [hf]
    · have hl' : ¬ h.link = l := fun hc => hl hc.symm
      split <;> simp [setPort_port, hl, hl']

theorem keypadTurnover_keys (old : Option Subject) (s : State) : (keypadTurnover old s).keys = s.keys.flushed := by
  obtain ⟨u, he, hkeys, -⟩ := keypadTurnover_eq old s
  rw [he, completeTurnover_keypad_keys (by rw [hkeys]; rfl) (by rw [hkeys]; rfl) (by rw [hkeys]; rfl), hkeys]

/-- A completed turnover leaves the former head as the holder, and the list behind it. -/
theorem completeTurnover_outcome (r : Resource) (s : State) : ((completeTurnover r s).entry r).standing ≠ .turnover
    ∧ (completeTurnover r s).holder r = (s.entry r).waiting.head?.map (·.subject)
    ∧ ((completeTurnover r s).entry r).waiting = (s.entry r).waiting.tail := by
  cases hw : (s.entry r).waiting with
  | nil => simp [State.holder, completeTurnover_entry_nil hw, standing_eq_turnover]
  | cons w rest => simp [State.holder, completeTurnover_entry_cons hw, standing_eq_turnover, startLease]

/-- Settles O37: the turnover flushes the key unit and completes in the same event. -/
theorem keypadTurnoverFlushes : Obligations.KeypadTurnoverFlushes := by
  intro k h s hh
  set s' := s.setEntry .keypad { s.entry .keypad with state := .turnover k } with hs'
  have ht : enterTurnover .keypad k s = keypadTurnover (some h) s' := by rw [← hh]; rfl
  have hkeys : (enterTurnover .keypad k s).keys = s.keys.flushed := ht ▸ keypadTurnover_keys _ _
  obtain ⟨u, he, -, hcustody, -, -, hport⟩ := keypadTurnover_eq (some h) s'
  have hwaiting : (u.entry .keypad).waiting = (s.entry .keypad).waiting := by simp [entry_congr hcustody, hs']
  obtain ⟨hstanding, hholder, hlist⟩ := completeTurnover_outcome .keypad u
  rw [← he, ← ht] at hstanding hholder hlist
  refine ⟨_, rfl, by rw [hkeys]; rfl, by rw [hkeys]; rfl, by rw [hkeys]; rfl, by rw [hkeys]; rfl, by rw [hkeys]; rfl,
    fun i => by rw [hkeys]; exact s.keys.flushed_key i, fun hf => ?_, hstanding, hwaiting ▸ hholder, hwaiting ▸ hlist⟩
  rw [ht, he, (completeTurnover_keeps .keypad u h.link).1, (hport h.link).2]
  exact if_pos ⟨rfl, hf⟩

/-! ## Panel and lamp events (R54, R100 to R105) -/

/-- The display switch after the switch to a source, with KEYPAD held as it is (R101, R102, R104, R105). -/
def DisplaySwitch.switched (d : DisplaySwitch) (x : Source) (keypad : Option Subject) : DisplaySwitch where
  mux := x
  required := none
  target := none
  forcedTimer := none
  lamp := lampFor x keypad
  blinkTimer := if lampFor x keypad = .blink then if d.lamp = .blink then d.blinkTimer else some .zero else none

theorem switchDisplay_display (x : Source) (s : State) :
    (switchDisplay x s).display = s.display.switched x (s.holder .keypad) := by
  unfold switchDisplay completeDisplay
  rw [(completeTurnover_display_frame _).2.2.2.2.1]
  simp [recomputeLamp, DisplaySwitch.switched]

/-- A switch completes the turnover of DISPLAY for the head of its list, and of the conditions can set NOTICE_LOST
alone (R56). -/
theorem switchDisplay_outcome (x : Source) (s : State) :
    (switchDisplay x s).holder .display = (s.entry .display).waiting.head?.map (·.subject)
      ∧ ((switchDisplay x s).entry .display).standing ≠ .turnover
      ∧ hasCondition ((switchDisplay x s).port .p).conditions .syncMissing
        = hasCondition (s.port .p).conditions .syncMissing := by
  unfold switchDisplay completeDisplay
  set u : State := recomputeLamp
    { s with display := { s.display with mux := x, target := none, forcedTimer := none } } with hu
  have hentry : ({ u with display := { u.display with required := none, target := none, forcedTimer := none } } :
      State).entry .display = s.entry .display := by simp [hu]
  have hports : u.port .p = s.port .p := by simp [hu]
  obtain ⟨hstanding, hholder, -⟩ := completeTurnover_outcome .display
    { u with display := { u.display with required := none, target := none, forcedTimer := none } }
  refine ⟨hentry ▸ hholder, hstanding, ?_⟩
  rw [(completeTurnover_keeps .display _ .p).2 .syncMissing (by decide), port_mk, ports_get, hports]

theorem lampFor_eq (x : Source) (keypad : Option Subject) : lampFor x keypad =
    if x = .app then .dark else if keypad = some .pay then .steady else .blink := by cases x <;> rfl

/-- The blink timer runs on through a switch that leaves the lamp BLINK, and begins at 0 where it became so (R105). -/
theorem DisplaySwitch.switched_blinkTimer (d : DisplaySwitch) (x : Source) (keypad : Option Subject) :
    (d.switched x keypad).blinkTimer = if x = .app ∨ keypad = some .pay then none
      else if d.lamp = .blink then d.blinkTimer else some { elapsed := 0, due := false } := by
  cases x with
  | app => rfl
  | pay => by_cases hk : keypad = some .pay <;> simp [DisplaySwitch.switched, lampFor, hk, Timer.zero]

/-- The head's source is what the mux selects, or what it is to select (R54, R100). -/
theorem panel_reports {k : EndingKind} (hs : (s.entry .display).state = .turnover k) {need : Source}
    (hn : need = requiredSource (s.entry .display).waiting) :
    (need = s.display.mux → reportDisplayHead s = completeTurnover .display { s with display := { s.display with
        required := none, target := none, forcedTimer := none } })
      ∧ (need ≠ s.display.mux → s.display.target = none → reportDisplayHead s = { s with display := { s.display with
          required := some need, target := some need, forcedTimer := some { elapsed := 0, due := false } } })
      ∧ (need ≠ s.display.mux → s.display.target = some need → reportDisplayHead s = { s with display :=
          { s.display with required := some need } }) := by
  subst hn
  refine ⟨fun hm => reportDisplayHead_completes hs hm, fun hm ht => ?_, fun hm ht => ?_⟩
  · rw [reportDisplayHead_moves hs hm, ht]
    rfl
  · rw [reportDisplayHead_moves hs hm, ← ht, if_pos (by simp [ht])]

theorem fsyncEdge_of_target {x : Source} (h : s.display.target = some x) : fsyncEdge s = switchDisplay x s := by
  simp [fsyncEdge, h]

theorem forcedSwitch_of_due {x : Source} (h : s.display.target = some x) (hd : isDue s.display.forcedTimer = true) :
    forcedSwitch s = switchDisplay x (setCondition .p .syncMissing s) := by simp [forcedSwitch, h, hd]

theorem blinkToggle_of_due {t : Timer} (hb : s.display.blinkTimer = some t) (hd : t.due = true) : blinkToggle s =
    { s with display := { s.display with
      blinkTimer := some { elapsed := if t.elapsed + 1 < 1000 then t.elapsed + 1 else 0, due := false } } } := by
  unfold blinkToggle
  rw [hb]
  exact if_pos hd

/-- SECLMP is lit for the first 500 ms of each second of BLINK (R105). -/
theorem seclmp_of_blink {t : Timer} (hl : s.display.lamp = .blink) (hb : s.display.blinkTimer = some t) :
    s.seclmp = decide (t.elapsed < 500) := by
  unfold State.seclmp
  rw [hl, hb]
  rfl

/-- Settles O39: the table of R100, then the two switches as one, then the blink timer. -/
theorem panelAndLampEvents : Obligations.PanelAndLampEvents := by
  refine ⟨fun k s hs need hneed => panel_reports hs ?_, fun s => ⟨fun ht => ⟨?_, ?_⟩, fun hd => ?_, fun x hx => ⟨?_, fun hd => ?_⟩⟩,
    fun s hb => ?_, fun s t0 hl hb => ⟨fun hd => ?_, fun hd he => ?_, fun hd he => ?_⟩⟩
  · rw [hneed]
    unfold requiredSource
    cases (s.entry .display).waiting <;> rfl
  · rw [exec_after, after, fsyncEdge, ht]
  · rw [exec_after, after, forcedSwitch, ht]
    simp
  · rw [exec_after, after, forcedSwitch, hd]
    simp
  · refine ⟨switchDisplay x s, by rw [exec_after, after, fsyncEdge_of_target hx], ?_⟩
    rw [switchDisplay_display]
    exact ⟨rfl, rfl, rfl, rfl, lampFor_eq _ _, s.display.switched_blinkTimer _ _, switchDisplay_outcome x s⟩
  · set u := setCondition .p .syncMissing s with hu
    refine ⟨switchDisplay x u, by rw [exec_after, after, forcedSwitch_of_due hx hd], ?_⟩
    obtain ⟨hholder, hstanding, hsync⟩ := switchDisplay_outcome x u
    have hdisplay : u.display.switched x (u.holder .keypad) = s.display.switched x (s.holder .keypad) := by simp [hu]
    have hentry : u.entry .display = s.entry .display := by simp [hu]
    rw [switchDisplay_display, hdisplay]
    refine ⟨rfl, rfl, rfl, rfl, lampFor_eq _ _, s.display.switched_blinkTimer _ _, hentry ▸ hholder, hstanding,
      hsync.trans ?_⟩
    simp [hu, setCondition, hasCondition_join_self]
  · rw [exec_after, after, blinkToggle, hb]
  · rw [exec_after, after, blinkToggle, hb]
    simp [hd]
  · refine ⟨_, by rw [exec_after, after, blinkToggle_of_due hb hd], by simp [he], ?_, ?_⟩
    · simp [seclmp_of_blink hl hb, he]
    · refine Eq.trans (seclmp_of_blink ?_ rfl) ?_
      · exact hl
      · simp [he]
  · refine ⟨_, by rw [exec_after, after, blinkToggle_of_due hb hd], by simp [he], ?_, ?_⟩
    · simp [seclmp_of_blink hl hb, he]
    · refine Eq.trans (seclmp_of_blink ?_ rfl) ?_
      · exact hl
      · simp [he]

end Sys2Proof.Machine
end

section
/-! SUPPORT. The attention takeover (R60, R61): what it leaves of custody, of the key unit and of the panel, and the
notices it sends on each link. -/

namespace Sys2Proof.Machine

variable {s t u v : State} {r : Resource} {l : Link}

/-! ## Notices that find room, one link at a time -/

/-- Some notices join a link's queue, where the queue has room for them all. -/
def Adds (l : Link) (ns : List Notice) (s t : State) : Prop :=
  ((s.port l).notices ++ ns).length ≤ 16 → (t.port l).notices = (s.port l).notices ++ ns

theorem Adds.none (h : (t.port l).notices = (s.port l).notices) : Adds l [] s t := fun _ => by simp [h]

theorem Adds.trans {xs ys : List Notice} (h : Adds l xs s t) (h' : Adds l ys t u) : Adds l (xs ++ ys) s u := by
  intro hroom
  have hxs := h (by simp only [List.length_append] at *; omega)
  rw [h' (by rwa [hxs, List.append_assoc]), hxs, List.append_assoc]

theorem Adds.after {xs : List Notice} (h : Adds l xs s t) (h' : (u.port l).notices = (t.port l).notices) :
    Adds l xs s u := fun hroom => h'.trans (h hroom)

theorem notify_adds (k : Link) (n : Notice) (s : State) : Adds l (if k = l then [n] else []) s (notify k n s) := by
  rcases eq_or_ne k l with rfl | hk
  · rw [if_pos rfl]
    exact fun hroom => notify_notices (by simpa using hroom)
  · rw [if_neg hk]
    exact .none (by rw [notify_port_other k l n s hk.symm])

theorem notifySubject_adds (who : Subject) (b : NoticeBody) (s : State) :
    Adds l (if who.link = l then [{ tenant := who.tenantField, body := b }] else []) s (notifySubject who b s) :=
  notify_adds _ _ _

/-- The APP waiters are told on the A-link, head first (log entry 29), and nobody on the others. -/
theorem withdrawAppWaiters_adds (r : Resource) (s : State) :
    Adds l (if l = .a then ((s.entry r).waiting.filter fun w => w.subject.isApp).map fun w =>
      { tenant := w.subject.tenantField, body := .withdrawn r .attention } else []) s (withdrawAppWaiters r s) := by
  unfold withdrawAppWaiters
  have happ : ∀ w ∈ (s.entry r).waiting.filter fun w => w.subject.isApp, w.subject.link = .a := by
    intro w hw
    have hiw := (List.mem_filter.mp hw).2
    cases hsub : w.subject <;> simp_all [Subject.isApp, Subject.link]
  generalize (s.entry r).waiting.filter (fun w => w.subject.isApp) = ws at happ
  induction ws generalizing s with
  | nil => simpa using Adds.none rfl
  | cons w ws ih =>
    have hfirst := notifySubject_adds (l := l) w.subject (.withdrawn r .attention) s
    have hrest := ih (notifySubject w.subject (.withdrawn r .attention) s) fun x hx => happ x (List.mem_cons_of_mem _ hx)
    rw [happ w List.mem_cons_self] at hfirst
    have hboth := hfirst.trans hrest
    rcases eq_or_ne l .a with rfl | hl
    · simpa using hboth
    · simpa [hl, hl.symm] using hboth

/-! ## PAY placed alone in a list (R60) -/

/-- PAY's waiting entry in a takeover. -/
def payWaiter (r : Resource) (s : State) : Waiter :=
  match findWaiter .pay (s.entry r).waiting with
  | some w => { w with priority := 8, origin := .attention }
  | none => { subject := .pay, priority := 8, order := s.custody.arrivals + 1, gran := .full, returnFlag := false
              origin := .attention }

theorem payWaiter_fields (r : Resource) (s : State) : (payWaiter r s).subject = .pay ∧ (payWaiter r s).priority = 8
    ∧ (payWaiter r s).origin = .attention
    ∧ (payWaiter r s).gran = ((findWaiter .pay (s.entry r).waiting).map (·.gran)).getD .full := by
  unfold payWaiter
  split
  next w hw => exact ⟨(findWaiter_some hw).2, rfl, rfl, by rw [hw]; rfl⟩
  next hw => exact ⟨rfl, rfl, rfl, by rw [hw]; rfl⟩

theorem payWaiter_congr (h : t.custody = s.custody) : payWaiter r t = payWaiter r s := by
  simp only [payWaiter, entry_congr h, h]

theorem placePay_entry (q : Resource) : (placePay r s).entry q =
    if q = r then { s.entry r with waiting := [payWaiter r s] } else s.entry q := by
  cases hw : findWaiter .pay (s.entry r).waiting with
  | some w =>
    simp only [placePay, payWaiter, hw, setWaiting_entry]
    rfl
  | none =>
    simp only [placePay, payWaiter, hw, setWaiting_entry, takeArrival]
    rfl

/-- A takeover of a resource has told those it takes it from, and PAY stands alone in the list. -/
structure PayPlaced (r : Resource) (s v : State) : Prop where
  waiting : (v.entry r).waiting = [payWaiter r s]
  others : ∀ q, q ≠ r → v.entry q = s.entry q
  mux : v.display.mux = s.display.mux
  policy : v.policy = s.policy
  tells : ∀ l, Adds l (if l = .a then takenFrom s r else []) s v

theorem PayPlaced.after (h : PayPlaced r s v) (hw : (u.entry r).waiting = (v.entry r).waiting)
    (ho : ∀ q, q ≠ r → u.entry q = v.entry q) (hd : u.display.mux = v.display.mux) (hp : u.policy = v.policy)
    (hn : ∀ l, (u.port l).notices = (v.port l).notices) : PayPlaced r s u where
  waiting := hw.trans h.waiting
  others q hq := (ho q hq).trans (h.others q hq)
  mux := hd.trans h.mux
  policy := hp.trans h.policy
  tells l := (h.tells l).after (hn l)

theorem placePay_placed (hc : t.custody = s.custody) (hd : t.display = s.display) (hp : t.policy = s.policy)
    (hn : ∀ l, Adds l (if l = .a then takenFrom s r else []) s t) : PayPlaced r s (placePay r t) where
  waiting := by rw [placePay_entry, if_pos rfl, payWaiter_congr hc]
  others q hq := by rw [placePay_entry, if_neg hq, entry_congr hc]
  mux := by simp [hd]
  policy := by simp [hp]
  tells l := (hn l).after (by rw [port_congr (show (placePay r t).ports = t.ports by simp)])

/-! ## The takeover of one resource (R60) -/

/-- Those it is taken from are told: the holder, then the APP waiters (R60, R61). -/
theorem told_of_owned {g : Grant} (hg : (s.entry r).grant = some g) (hne : g.holder ≠ .pay) (hrad : g.holder ≠ .rad)
    (l : Link) : Adds l (if l = .a then takenFrom s r else []) s
      (withdrawAppWaiters r (notifySubject g.holder (.revoke r .attention 0) s)) := by
  have happ : g.holder.link = .a := by cases hs : g.holder <;> simp_all [Subject.link]
  have hh : s.holder r = some g.holder := holder_eq_some.mpr ⟨g, hg, rfl⟩
  have hfirst := notifySubject_adds (l := l) g.holder (.revoke r .attention 0) s
  have hboth := hfirst.trans (withdrawAppWaiters_adds r _)
  rw [happ] at hboth
  rcases eq_or_ne l .a with rfl | hl
  · simpa [takenFrom, hh, hne] using hboth
  · simpa [hl, hl.symm] using hboth

theorem told_of_turnover (hn : s.holder r = none) (l : Link) :
    Adds l (if l = .a then takenFrom s r else []) s (withdrawAppWaiters r s) := by
  have h := withdrawAppWaiters_adds (l := l) r s
  simpa only [takenFrom, hn, reduceCtorEq, if_false, Option.toList_none, List.map_nil, List.nil_append] using h

theorem told_of_free (hn : s.holder r = none) (hw : (s.entry r).waiting = []) (l : Link) :
    Adds l (if l = .a then takenFrom s r else []) s s := by
  have hnil : takenFrom s r = [] := by simp [takenFrom, hn, hw]
  rw [hnil, ite_self]
  exact .none rfl

theorem takeOver_of_pay (h : s.holder r = some .pay) : takeOver r s = s := by
  obtain ⟨g, hg, hp⟩ := holder_eq_some.mp h
  unfold takeOver
  rw [CustodyEntry.grant_eq_some.mp hg]
  exact if_pos hp

/-- A KEYPAD that PAY does not hold goes through a turnover to PAY, alone in the list, in the same event. -/
theorem takeOver_keypad_placed (hl : CustodyLaw s) (hp : s.holder .keypad ≠ some .pay) :
    ∃ u, takeOver .keypad s = completeTurnover .keypad u ∧ PayPlaced .keypad s u ∧ u.keys = s.keys.flushed := by
  have hturn (old : Option Subject) {v : State} (hv : PayPlaced .keypad s v) (hk : v.keys = s.keys) :
      ∃ u, keypadTurnover old v = completeTurnover .keypad u ∧ PayPlaced .keypad s u ∧ u.keys = s.keys.flushed := by
    obtain ⟨u, he, hkeys, hcustody, hpolicy, hdisplay, hport⟩ := keypadTurnover_eq old v
    exact ⟨u, he, hv.after (by rw [entry_congr hcustody]) (fun q _ => entry_congr hcustody q)
      (by rw [hdisplay]) hpolicy fun l => (hport l).1, by rw [hkeys, hk]⟩
  obtain ⟨hlaw, hstanding⟩ := hl
  obtain ⟨-, hfree, hgrant⟩ := hlaw .keypad
  unfold takeOver
  cases hs : (s.entry .keypad).state with
  | turnover k => exact absurd (standing_eq_turnover.mpr ⟨k, hs⟩) hstanding
  | free =>
    have hn : s.holder .keypad = none := by simp [State.holder, CustodyEntry.grant, hs]
    exact hturn none (placePay_placed rfl rfl rfl (told_of_free hn (hfree hs))) (by simp)
  | owned g =>
    have hg : (s.entry .keypad).grant = some g := CustodyEntry.grant_eq_some.mpr hs
    have hne : g.holder ≠ .pay := fun hc => hp (holder_eq_some.mpr ⟨g, hg, hc⟩)
    have hplaced := placePay_placed (t := withdrawAppWaiters .keypad (notifySubject g.holder
      (.revoke .keypad .attention 0) s)) (by simp) (by simp) (by simp) (told_of_owned hg hne (hgrant g hg).1)
    dsimp only
    rw [if_neg hne]
    exact hturn _ (hplaced.after (by rw [setEntry_entry_self]) (fun q hq => by rw [setEntry_entry, if_neg hq])
      rfl rfl fun l => rfl) (by simp)

/-- A DISPLAY that PAY does not hold is in TURNOVER with PAY alone in the list, which is reported to the panel. -/
theorem takeOver_display_placed (hl : CustodyLaw s) (hp : s.holder .display ≠ some .pay) :
    ∃ u k, takeOver .display s = reportDisplayHead u ∧ PayPlaced .display s u
      ∧ (u.entry .display).state = .turnover k := by
  have hturn {v : State} (hv : PayPlaced .display s v) : ∃ u k, enterTurnover .display .revoked v = reportDisplayHead u
      ∧ PayPlaced .display s u ∧ (u.entry .display).state = .turnover k :=
    ⟨v.setEntry .display { v.entry .display with state := .turnover .revoked }, .revoked, rfl,
      hv.after (by rw [setEntry_entry_self]) (fun q hq => by rw [setEntry_entry, if_neg hq]) rfl rfl fun l => rfl,
      by rw [setEntry_entry_self]⟩
  obtain ⟨-, hfree, hgrant⟩ := hl.1 .display
  unfold takeOver
  cases hs : (s.entry .display).state with
  | free =>
    have hn : s.holder .display = none := by simp [State.holder, CustodyEntry.grant, hs]
    exact hturn (placePay_placed rfl rfl rfl (told_of_free hn (hfree hs)))
  | turnover k =>
    have hn : s.holder .display = none := by simp [State.holder, CustodyEntry.grant, hs]
    refine ⟨_, k, if_pos rfl, placePay_placed (by simp) (by simp) (by simp) (told_of_turnover hn), ?_⟩
    rw [placePay_state]
    simpa using hs
  | owned g =>
    have hg : (s.entry .display).grant = some g := CustodyEntry.grant_eq_some.mpr hs
    have hne : g.holder ≠ .pay := fun hc => hp (holder_eq_some.mpr ⟨g, hg, hc⟩)
    dsimp only
    rw [if_neg hne]
    exact hturn (placePay_placed (by simp) (by simp) (by simp) (told_of_owned hg hne (hgrant g hg).1))

/-! ## What the takeover of one resource leaves, and tells (R56, R60, R61) -/

theorem completeTurnover_mux (r : Resource) (s : State) : (completeTurnover r s).display.mux = s.display.mux := by
  cases r with
  | keypad =>
    unfold completeTurnover
    split
    · simp [recomputeLamp]
    · simp only [notifySubject_frame, startGrant, grantStarted, recomputeLamp]
      split <;> rfl
  | display | cless | printer => simp

theorem completeTurnover_adds {w : Waiter} {rest : List Waiter} (hw : (s.entry r).waiting = w :: rest) (l : Link) :
    Adds l (if w.subject.link = l then [{ tenant := w.subject.tenantField
                                          body := .grant r w.origin ((s.policyOf w.subject r).grans.grantable w.gran) }]
      else []) s (completeTurnover r s) := by
  unfold completeTurnover
  rw [hw]
  dsimp only
  set g := (s.policyOf w.subject r).grans.grantable w.gran
  have hports (k : Link) : (startGrant r w.subject w.priority w.order w.returnFlag g (s.setWaiting r rest)).port k
      = s.port k := by
    rw [port_congr (startGrant_frame _ _ _ _ _ _ _).2.1]
    rfl
  simpa only [Adds, hports] using notifySubject_adds (l := l) w.subject (.grant r w.origin g)
    (startGrant r w.subject w.priority w.order w.returnFlag g (s.setWaiting r rest))

/-- The GRANT that gives PAY a resource in a takeover. -/
def payGrantNotice (s : State) (r : Resource) : Notice where
  tenant := 0
  body := .grant r .attention
    ((s.policyOf .pay r).grans.grantable (((findWaiter .pay (s.entry r).waiting).map (·.gran)).getD .full))

theorem grantedToPay_eq (s : State) (r : Resource) : grantedToPay s r =
    if s.holder r = some .pay ∨ (r = .display ∧ s.display.mux = .app) then [] else [payGrantNotice s r] := rfl

/-- PAY holds a resource at priority 8 with nobody waiting, and every other entry stands. -/
structure GivenToPay (r : Resource) (s t : State) : Prop where
  waiting : (t.entry r).waiting = []
  grant : ∃ g, (t.entry r).grant = some g ∧ g.holder = .pay ∧ g.priority = 8
  others : ∀ q, q ≠ r → t.entry q = s.entry q
  tells : ∀ l, Adds l ((if l = .a then takenFrom s r else []) ++ if l = .p then [payGrantNotice s r] else []) s t

theorem completeTurnover_gives (h : PayPlaced r s u) : GivenToPay r s (completeTurnover r u) := by
  obtain ⟨hsub, hprio, horigin, hgran⟩ := payWaiter_fields r s
  have hentry := completeTurnover_entry_cons h.waiting
  refine ⟨by rw [hentry], ⟨_, by rw [hentry]; rfl, hsub, hprio⟩, fun q hq => ?_, fun l => (h.tells l).trans ?_⟩
  · rw [completeTurnover_entry_other hq, h.others q hq]
  · have hadds := completeTurnover_adds h.waiting l
    rw [hsub, horigin, hgran, State.policyOf, h.policy] at hadds
    simpa only [Subject.link, Subject.tenantField, eq_comm (a := Link.p), payGrantNotice, State.policyOf] using hadds

/-- PAY stands alone in the list of DISPLAY in TURNOVER, and the panel is on its way to PAY. -/
structure AwaitedByPay (s t : State) : Prop where
  standing : (t.entry .display).standing = .turnover
  waiting : ∃ w, (t.entry .display).waiting = [w] ∧ w.subject = .pay ∧ w.priority = 8
  others : ∀ q, q ≠ .display → t.entry q = s.entry q
  tells : ∀ l, Adds l (if l = .a then takenFrom s .display else []) s t

theorem reportDisplayHead_awaits {k : EndingKind} (h : PayPlaced .display s u)
    (hs : (u.entry .display).state = .turnover k) (hm : s.display.mux = .app) :
    AwaitedByPay s (reportDisplayHead u) := by
  obtain ⟨hsub, hprio, -, -⟩ := payWaiter_fields .display s
  have hneed : requiredSource (u.entry .display).waiting ≠ u.display.mux := by
    rw [h.waiting, h.mux, hm]
    simp [requiredSource, hsub]
  rw [reportDisplayHead_moves hs hneed]
  exact ⟨standing_eq_turnover.mpr ⟨k, hs⟩, ⟨_, h.waiting, hsub, hprio⟩, h.others, h.tells⟩

theorem reportDisplayHead_gives {k : EndingKind} (h : PayPlaced .display s u)
    (hs : (u.entry .display).state = .turnover k) (hm : s.display.mux = .pay) :
    GivenToPay .display s (reportDisplayHead u) := by
  obtain ⟨hsub, -, -, -⟩ := payWaiter_fields .display s
  have hneed : requiredSource (u.entry .display).waiting = u.display.mux := by
    rw [h.waiting, h.mux, hm]
    simp [requiredSource, hsub]
  rw [reportDisplayHead_completes hs hneed]
  exact completeTurnover_gives (h.after rfl (fun _ _ => rfl) rfl rfl fun _ => rfl)

/-! ## The two takeovers, one after the other -/

/-- What a takeover of one resource tells a link. -/
def toldOf (s : State) (l : Link) (r : Resource) : List Notice :=
  (if l = .a then takenFrom s r else []) ++ if l = .p then grantedToPay s r else []

theorem toldOf_of_pay (h : s.holder r = some .pay) (l : Link) : toldOf s l r = [] := by
  simp [toldOf, takenFrom, grantedToPay, h]

theorem toldOf_of_given (hp : s.holder r ≠ some .pay) (hm : ¬ (r = .display ∧ s.display.mux = .app)) (l : Link) :
    toldOf s l r = (if l = .a then takenFrom s r else []) ++ if l = .p then [payGrantNotice s r] else [] := by
  rw [toldOf, grantedToPay_eq, if_neg (not_or.mpr ⟨hp, hm⟩)]

theorem toldOf_of_awaited (hm : s.display.mux = .app) (l : Link) :
    toldOf s l .display = if l = .a then takenFrom s .display else [] := by
  simp [toldOf, grantedToPay, hm]

theorem toldOf_congr (he : t.entry r = s.entry r) (hm : t.display.mux = s.display.mux) (hp : t.policy = s.policy)
    (l : Link) : toldOf t l r = toldOf s l r := by
  have hpol : t.policyOf .pay r = s.policyOf .pay r := by simp only [State.policyOf, hp]
  simp only [toldOf, takenFrom, grantedToPay, holder_of_entry he, he, hm, hpol]

/-- KEYPAD in an attention takeover: as it stands where PAY holds it, and otherwise flushed and given to PAY. -/
theorem takeOver_keypad_outcome (hl : CustodyLaw s) :
    (s.holder .keypad = some .pay ∧ takeOver .keypad s = s)
      ∨ (s.holder .keypad ≠ some .pay ∧ GivenToPay .keypad s (takeOver .keypad s)
        ∧ (takeOver .keypad s).keys = s.keys.flushed
        ∧ (takeOver .keypad s).display.mux = s.display.mux) := by
  by_cases hp : s.holder .keypad = some .pay
  · exact .inl ⟨hp, takeOver_of_pay hp⟩
  · obtain ⟨u, he, hplaced, hkeys⟩ := takeOver_keypad_placed hl hp
    rw [he]
    refine .inr ⟨hp, completeTurnover_gives hplaced, ?_, by rw [completeTurnover_mux, hplaced.mux]⟩
    rw [completeTurnover_keypad_keys (by rw [hkeys]; rfl) (by rw [hkeys]; rfl) (by rw [hkeys]; rfl), hkeys]

/-- DISPLAY in an attention takeover: as it stands where PAY holds it, given to PAY where the panel is on PAY, and
otherwise awaited by PAY while the panel moves. -/
theorem takeOver_display_outcome (hl : CustodyLaw s) :
    (s.holder .display = some .pay ∧ takeOver .display s = s)
      ∨ (s.holder .display ≠ some .pay ∧ s.display.mux = .pay ∧ GivenToPay .display s (takeOver .display s))
      ∨ (s.holder .display ≠ some .pay ∧ s.display.mux = .app ∧ AwaitedByPay s (takeOver .display s)) := by
  by_cases hp : s.holder .display = some .pay
  · exact .inl ⟨hp, takeOver_of_pay hp⟩
  · obtain ⟨u, k, he, hplaced, hs⟩ := takeOver_display_placed hl hp
    rw [he]
    cases hm : s.display.mux with
    | pay => exact .inr (.inl ⟨hp, rfl, reportDisplayHead_gives hplaced hs hm⟩)
    | app => exact .inr (.inr ⟨hp, rfl, reportDisplayHead_awaits hplaced hs hm⟩)

theorem GivenToPay.holder (h : GivenToPay r s t) : t.holder r = some .pay := by
  obtain ⟨g, hg, hp, -⟩ := h.grant
  exact holder_eq_some.mpr ⟨g, hg, hp⟩

/-- Everything but the taken resource stands, and the links are told what R61 says, in any of the outcomes. -/
theorem takeOver_keypad_leaves (hl : CustodyLaw s) : (takeOver .keypad s).display.mux = s.display.mux
    ∧ (∀ q, q ≠ .keypad → (takeOver .keypad s).entry q = s.entry q)
    ∧ ∀ l, Adds l (toldOf s l .keypad) s (takeOver .keypad s) := by
  rcases takeOver_keypad_outcome hl with ⟨hp, he⟩ | ⟨hp, hgiven, -, hm⟩
  · rw [he]
    exact ⟨rfl, fun _ _ => rfl, fun l => toldOf_of_pay hp l ▸ .none rfl⟩
  · refine ⟨hm, hgiven.others, fun l => ?_⟩
    rw [toldOf_of_given hp (by simp)]
    exact hgiven.tells l

theorem takeOver_display_leaves (hl : CustodyLaw s) :
    (∀ q, q ≠ .display → (takeOver .display s).entry q = s.entry q)
    ∧ ∀ l, Adds l (toldOf s l .display) s (takeOver .display s) := by
  rcases takeOver_display_outcome hl with ⟨hp, he⟩ | ⟨hp, hm, hgiven⟩ | ⟨hp, hm, hawaited⟩
  · rw [he]
    exact ⟨fun _ _ => rfl, fun l => toldOf_of_pay hp l ▸ .none rfl⟩
  · refine ⟨hgiven.others, fun l => ?_⟩
    rw [toldOf_of_given hp (by simp [hm])]
    exact hgiven.tells l
  · refine ⟨hawaited.others, fun l => ?_⟩
    rw [toldOf_of_awaited hm]
    exact hawaited.tells l

/-! ## A takeover leaves the pending takeover as it stands (R62) -/

theorem completeTurnover_pendingTakeover (r : Resource) (s : State) :
    (completeTurnover r s).custody.pendingTakeover = s.custody.pendingTakeover := by
  unfold completeTurnover
  split
  · dsimp only
    split <;> simp
  · simp [startGrant, State.setGrant, State.setWaiting]

theorem keypadTurnover_pendingTakeover (old : Option Subject) (s : State) :
    (keypadTurnover old s).custody.pendingTakeover = s.custody.pendingTakeover := by
  obtain ⟨u, he, -, hcustody, -⟩ := keypadTurnover_eq old s
  rw [he, completeTurnover_pendingTakeover, hcustody]

theorem reportDisplayHead_pendingTakeover (s : State) :
    (reportDisplayHead s).custody.pendingTakeover = s.custody.pendingTakeover := by
  unfold reportDisplayHead
  split
  · dsimp only
    split
    · exact completeTurnover_pendingTakeover .display _
    · rfl
  · rfl

theorem placePay_pendingTakeover (r : Resource) (s : State) :
    (placePay r s).custody.pendingTakeover = s.custody.pendingTakeover := by
  unfold placePay
  split <;> rfl

theorem takeOver_pendingTakeover (hr : r = .keypad ∨ r = .display) (s : State) :
    (takeOver r s).custody.pendingTakeover = s.custody.pendingTakeover := by
  have hturn (k : EndingKind) (t : State) :
      (enterTurnover r k t).custody.pendingTakeover = t.custody.pendingTakeover := by
    rcases hr with rfl | rfl
    · exact keypadTurnover_pendingTakeover _ _
    · exact reportDisplayHead_pendingTakeover _
  unfold takeOver
  split
  · split
    · rfl
    · simp [hturn, placePay_pendingTakeover]
  · dsimp only
    split
    · simp [reportDisplayHead_pendingTakeover, placePay_pendingTakeover]
    · simp [placePay_pendingTakeover]
  · dsimp only
    rcases hr with rfl | rfl
    · simp [keypadTurnover_pendingTakeover, placePay_pendingTakeover]
    · simp [hturn, placePay_pendingTakeover]

theorem attentionTakeover_pendingTakeover (s : State) :
    (attentionTakeover s).custody.pendingTakeover = s.custody.pendingTakeover := by
  simp [attentionTakeover, takeOver_pendingTakeover]

/-! ## The attention takeover as a whole -/

theorem takeOver_keypad_lawful (hl : CustodyLaw s) : CustodyLaw (takeOver .keypad s) :=
  custodyLaw_iff.mpr (takeOver_within trivial (custodyLaw_iff.mp hl))

theorem attentionTakeover_entry (q : Resource) (s : State) :
    (attentionTakeover s).entry q = (takeOver .display (takeOver .keypad s)).entry q := by simp [attentionTakeover]

theorem attentionTakeover_entry_keypad (hl : CustodyLaw s) :
    (attentionTakeover s).entry .keypad = (takeOver .keypad s).entry .keypad := by
  rw [attentionTakeover_entry, (takeOver_display_leaves (takeOver_keypad_lawful hl)).1 _ (by decide)]

/-- CLESS and PRINTER are no matter of a takeover (R60). -/
theorem attentionTakeover_entry_other (hl : CustodyLaw s) {q : Resource} (hk : q ≠ .keypad) (hd : q ≠ .display) :
    (attentionTakeover s).entry q = s.entry q := by
  rw [attentionTakeover_entry, (takeOver_display_leaves (takeOver_keypad_lawful hl)).1 q hd,
    (takeOver_keypad_leaves hl).2.1 q hk]

theorem attentionTakeover_keypad_of_pay (h : s.holder .keypad = some .pay) (hl : CustodyLaw s) :
    (attentionTakeover s).entry .keypad = s.entry .keypad := by
  rw [attentionTakeover_entry_keypad hl, takeOver_of_pay h]

theorem attentionTakeover_display_of_pay (h : s.holder .display = some .pay) (hl : CustodyLaw s) :
    (attentionTakeover s).entry .display = s.entry .display := by
  have hkeypad := (takeOver_keypad_leaves hl).2.1 .display (by decide)
  rw [attentionTakeover_entry, takeOver_of_pay (by rw [holder_of_entry hkeypad, h]), hkeypad]

theorem attentionTakeover_keys (s : State) : (attentionTakeover s).keys = (takeOver .keypad s).keys := by
  simp [attentionTakeover]

/-- A KEYPAD that changes hands is flushed, with its keys down suppressed (R88, R93; log entry 31). -/
theorem attentionTakeover_keys_flushed (hl : CustodyLaw s) (hp : s.holder .keypad ≠ some .pay) :
    (attentionTakeover s).keys = s.keys.flushed := by
  rw [attentionTakeover_keys]
  rcases takeOver_keypad_outcome hl with ⟨hpay, -⟩ | ⟨-, -, hkeys, -⟩
  · exact absurd hpay hp
  · exact hkeys

theorem attentionTakeover_keys_of_pay (h : s.holder .keypad = some .pay) : (attentionTakeover s).keys = s.keys := by
  rw [attentionTakeover_keys, takeOver_of_pay h]

/-- A takeover leaves custody as R60 says. -/
theorem attentionTakeover_takenOver (hl : CustodyLaw s) : TakenOver s (attentionTakeover s) := by
  obtain ⟨hmux, hothers, -⟩ := takeOver_keypad_leaves hl
  have hkeypad := attentionTakeover_entry_keypad hl
  have hdisplay := attentionTakeover_entry .display s
  have hbefore : (takeOver .keypad s).entry .display = s.entry .display := hothers .display (by decide)
  have hpay : (attentionTakeover s).holder .keypad = some .pay := by
    rw [holder_of_entry hkeypad]
    rcases takeOver_keypad_outcome hl with ⟨hp, he⟩ | ⟨-, hgiven, -⟩
    · rwa [he]
    · exact hgiven.holder
  have hgiven : s.holder .keypad ≠ some .pay → GivenToPay .keypad s (takeOver .keypad s) := fun hp =>
    (takeOver_keypad_outcome hl).elim (fun h => absurd h.1 hp) fun h => h.2.1
  have houtcome := takeOver_display_outcome (takeOver_keypad_lawful hl)
  rw [hmux, holder_of_entry hbefore] at houtcome
  refine ⟨hpay, fun hp => by rw [attentionTakeover_keypad_of_pay hp hl], fun hp => ?_, fun hp => ?_, fun hp hm => ?_,
    fun hp hm => ?_⟩
  · obtain ⟨g, hg, -, hprio⟩ := (hgiven hp).grant
    rw [hkeypad]
    exact ⟨(hgiven hp).waiting, g, hg, hprio⟩
  · have he := attentionTakeover_display_of_pay hp hl
    exact ⟨by rw [holder_of_entry he, hp], by rw [he]⟩
  · obtain ⟨h, -⟩ | ⟨-, h, -⟩ | ⟨-, -, hawaited⟩ := houtcome
    · exact absurd h hp
    · exact absurd (hm.symm.trans h) (by decide)
    · rw [hdisplay]
      exact ⟨hawaited.standing, hawaited.waiting⟩
  · obtain ⟨h, -⟩ | ⟨-, -, hgiven⟩ | ⟨-, h, -⟩ := houtcome
    · exact absurd h hp
    · rw [hdisplay]
      exact ⟨hgiven.waiting, hgiven.grant⟩
    · exact absurd (hm.symm.trans h) (by decide)

/-- The notices of a takeover, link by link (R61). -/
theorem attentionTakeover_adds (hl : CustodyLaw s) (l : Link) :
    Adds l (takeoverNotices s (attentionTakeover s) l) s (attentionTakeover s) := by
  obtain ⟨hmux, hothers, hkeypad⟩ := takeOver_keypad_leaves hl
  obtain ⟨-, hdisplay⟩ := takeOver_display_leaves (takeOver_keypad_lawful hl)
  have hsame : toldOf (takeOver .keypad s) l .display = toldOf s l .display :=
    toldOf_congr (hothers .display (by decide)) hmux (by simp) l
  set t := takeOver .display (takeOver .keypad s) with ht
  have htaken : Adds l (toldOf s l .keypad ++ toldOf s l .display) s t := (hkeypad l).trans (hsame ▸ hdisplay l)
  set told : Notice := { tenant := 0, body := .attention (t.entry .keypad).standing (t.entry .display).standing }
  have hattention : Adds l ((if Link.p = l then [told] else []) ++ if Link.a = l then [told] else []) t
      (attentionTakeover s) := (notify_adds .p told t).trans (notify_adds .a told _)
  have hlist : takeoverNotices s (attentionTakeover s) l = toldOf s l .keypad ++ toldOf s l .display
      ++ ((if Link.p = l then [told] else []) ++ if Link.a = l then [told] else []) := by
    cases l <;> simp [takeoverNotices, toldOf, attentionTakeover_entry, ← ht, told]
  exact hlist ▸ htaken.trans hattention

/-! ## The hold timer (R92, R93, O38) -/

theorem matchFound_running (h : s.clock.regime = .run) : matchFound s = attentionTakeover s := by
  have hwake : wake .matched s = s := by simp [wake, h]
  simp [matchFound, hwake, reportMatch, State.running, h]

/-- Outside RUN a match is kept as one pending takeover, and under wake mode MATCH it wakes a part in DOZE (R62,
R93, R95). -/
theorem matchFound_not_running (h : s.clock.regime ≠ .run) : matchFound s = { s with
    custody := { s.custody with pendingTakeover := true }
    clock := if s.clock.regime = .doze ∧ s.keys.settings.wake = .matching then
        { s.clock with wakeCause := some .matched, regime := .waking, fastClock := .locking 0 }
      else s.clock } := by
  by_cases hw : s.keys.settings.wake = .matching
  · by_cases hd : s.clock.regime = .doze
    · simp [matchFound, hw, wake, hd, reportMatch]
    · simp [matchFound, hw, wake, hd, reportMatch, State.running, h]
  · simp [matchFound, hw, reportMatch, State.running, h]

/-- What a takeover is told by, and judged by: who holds and waits, the mux, and PAY's policy. -/
theorem takeoverNotices_congr (hh : ∀ r, s.holder r = t.holder r) (hw : ∀ r, (s.entry r).waiting = (t.entry r).waiting)
    (hm : s.display.mux = t.display.mux) (hp : s.policy = t.policy) (hc : v.custody = u.custody) :
    takeoverNotices s v = takeoverNotices t u := by
  have hpol (r : Resource) : s.policyOf .pay r = t.policyOf .pay r := by simp only [State.policyOf, hp]
  funext l
  simp only [takeoverNotices, grantedToPay, takenFrom, hh, hw, hm, hpol, entry_congr hc]

theorem takenOver_congr (hh : ∀ r, s.holder r = t.holder r) (hw : ∀ r, (s.entry r).waiting = (t.entry r).waiting)
    (hm : s.display.mux = t.display.mux) (hc : v.custody = u.custody) (h : TakenOver t u) : TakenOver s v := by
  simpa only [TakenOver, hh, hw, hm, holder_congr hc, entry_congr hc] using h

theorem custodyLaw_congr (hc : t.custody = s.custody) (h : CustodyLaw s) : CustodyLaw t := by
  simpa only [CustodyLaw, entry_congr hc] using h

theorem holdTimerMatch_of_due {timer : Timer} (h : s.keys.holdTimer = some timer) (hd : timer.due = true) :
    holdTimerMatch s = matchFound { s with keys := { s.keys with holdTimer := none } } := by
  simp [holdTimerMatch, h, hd]

/-- Settles O38: a hold timer that is due is a match, which RUN carries out and another regime keeps. -/
theorem attentionTakesKeypadAndDisplay : Obligations.AttentionTakesKeypadAndDisplay := by
  intro timer s ht
  refine ⟨fun hd => ?_, fun hd hrun hl => ?_, fun hd hw => ?_, fun hd hz => ?_⟩
  · rw [exec_after, after, holdTimerMatch, ht]
    simp [hd]
  · set u : State := { s with keys := { s.keys with holdTimer := none } } with hu
    have hlaw : CustodyLaw u := custodyLaw_congr rfl hl
    have hmatch : holdTimerMatch s = attentionTakeover u := (holdTimerMatch_of_due ht hd).trans (matchFound_running hrun)
    refine ⟨attentionTakeover u, by rw [exec_after, after, hmatch], ?_,
      takenOver_congr (fun _ => rfl) (fun _ => rfl) rfl rfl (attentionTakeover_takenOver hlaw), fun hp => attentionTakeover_keypad_of_pay hp hlaw,
      fun hp => attentionTakeover_display_of_pay hp hlaw, attentionTakeover_entry_other hlaw (by decide) (by decide),
      attentionTakeover_entry_other hlaw (by decide) (by decide), fun hp => ?_, fun l => ?_⟩
    · by_cases hp : u.holder .keypad = some .pay
      · rw [attentionTakeover_keys_of_pay hp]
      · rw [attentionTakeover_keys_flushed hlaw hp]
        rfl
    · rw [attentionTakeover_keys_flushed hlaw hp]
      exact ⟨rfl, fun i => u.keys.flushed_key i⟩
    · have hadds := attentionTakeover_adds hlaw l
      have hnotices : takeoverNotices u (attentionTakeover u) = takeoverNotices s (attentionTakeover u) :=
        takeoverNotices_congr (fun _ => rfl) (fun _ => rfl) rfl rfl rfl
      rw [hnotices] at hadds
      exact hadds
  · rw [exec_after, after, holdTimerMatch_of_due ht hd, matchFound_not_running (by simp [hw])]
    simp [hw]
  · rw [exec_after, after, holdTimerMatch_of_due ht hd, matchFound_not_running (by simp [hz])]
    simp [hz]

end Sys2Proof.Machine
end

section
/-! SUPPORT. The lock of the fast clock (R62, R76, R169, R175): what it leaves of the clock, of every grant and of the
ports, and that a part in WAKING reaches it (O5). -/

namespace Sys2Proof.Machine

variable {s t : State} {r : Resource} {l : Link}

/-! ## The lock itself (R175) -/

/-- The part in RUN with the fast clock LOCKED, and the holds of a doze ended (R76, R175). -/
def lockResumed (s : State) : State :=
  mapGrants Grant.dozeResume { s with clock := { s.clock with fastClock := .locked, regime := .run } }

/-- The DOZE_ENDED of a lock that ends a doze, the same on every link (R175, step 3). -/
def dozeEndedNotices (s : State) : List Notice :=
  match s.clock.wakeCause, s.clock.dozeEntry with
  | some c, some entered => [{ tenant := 0, body := .dozeEnded (.woken c) entered s.clock.partTime }]
  | _, _ => []

theorem runPendingTakeover_clock (s : State) : (runPendingTakeover s).clock = s.clock := by
  unfold runPendingTakeover
  split <;> simp

theorem runPendingTakeover_done (s : State) : (runPendingTakeover s).custody.pendingTakeover = false := by
  unfold runPendingTakeover
  split
  · rw [attentionTakeover_pendingTakeover]
  next h => simpa using h

theorem runPendingTakeover_of_pending (h : s.custody.pendingTakeover = true) : runPendingTakeover s =
    attentionTakeover { s with custody := { s.custody with pendingTakeover := false } } := if_pos h

theorem runPendingTakeover_of_not_pending (h : s.custody.pendingTakeover = false) : runPendingTakeover s = s :=
  if_neg (by simp [h])

theorem notifyDozeEnded_adds (c : WakeCause) (entered : BitVec 32) (s : State) (l : Link) :
    Adds l [{ tenant := 0, body := .dozeEnded (.woken c) entered s.clock.partTime }] s (notifyDozeEnded c entered s) := by
  have hall := (notify_adds (l := l) .p
    { tenant := 0, body := .dozeEnded (.woken c) entered s.clock.partTime } s).trans
    ((notify_adds .a { tenant := 0, body := .dozeEnded (.woken c) entered s.clock.partTime } _).trans
      (notify_adds .r { tenant := 0, body := .dozeEnded (.woken c) entered s.clock.partTime } _))
  cases l <;> exact hall

/-- DOZE_ENDED where the lock ends a doze (R175, step 3). -/
def tellDozeEnded (woken : Option WakeCause) (entered : Option (BitVec 32)) (s : State) : State :=
  match woken, entered with
  | some c, some t => notifyDozeEnded c t s
  | _, _ => s

theorem tellDozeEnded_frame (woken : Option WakeCause) (entered : Option (BitVec 32)) (s : State) :
    (tellDozeEnded woken entered s).clock = s.clock ∧ (tellDozeEnded woken entered s).custody = s.custody
      ∧ (tellDozeEnded woken entered s).keys = s.keys ∧ (tellDozeEnded woken entered s).display = s.display
      ∧ (woken = none → (tellDozeEnded woken entered s).ports = s.ports) := by
  unfold tellDozeEnded
  split <;> simp

/-- What the lock has brought about before it clears the wake cause and the doze entry time. -/
def lockTold (s : State) : State :=
  tellDozeEnded s.clock.wakeCause s.clock.dozeEntry (runPendingTakeover (lockResumed s))

theorem lockEvent_eq (s : State) :
    lockEvent s = { lockTold s with clock := { (lockTold s).clock with wakeCause := none, dozeEntry := none } } := by
  unfold lockEvent lockTold tellDozeEnded
  cases s.clock.wakeCause with
  | none => rfl
  | some c => cases s.clock.dozeEntry <;> rfl

theorem lockEvent_clock (s : State) : (lockEvent s).clock = { s.clock with
    fastClock := .locked, regime := .run, wakeCause := none, dozeEntry := none } := by
  rw [lockEvent_eq, lockTold, (tellDozeEnded_frame _ _ _).1, runPendingTakeover_clock]
  rfl

theorem lockEvent_custody (s : State) : (lockEvent s).custody = (runPendingTakeover (lockResumed s)).custody := by
  rw [lockEvent_eq]
  exact (tellDozeEnded_frame _ _ _).2.1

theorem lockEvent_adds (s : State) (l : Link) :
    Adds l (dozeEndedNotices s) (runPendingTakeover (lockResumed s)) (lockEvent s) := by
  refine Adds.after (t := lockTold s) ?_ (by rw [lockEvent_eq]; rfl)
  have htime : (runPendingTakeover (lockResumed s)).clock.partTime = s.clock.partTime := by
    rw [runPendingTakeover_clock]
    rfl
  unfold lockTold tellDozeEnded dozeEndedNotices
  cases s.clock.wakeCause with
  | none => exact .none rfl
  | some c =>
    cases s.clock.dozeEntry with
    | none => exact .none rfl
    | some entered => exact htime ▸ notifyDozeEnded_adds c entered _ l

theorem mapGrants_custody (f : Grant → Grant) (s : State) (r : Resource) :
    ((mapGrants f s).entry r).grant = (s.entry r).grant.map f
      ∧ ((mapGrants f s).entry r).waiting = (s.entry r).waiting := by
  rw [mapGrants_entry]
  refine ⟨mapGrant_grant f _, ?_⟩
  unfold CustodyEntry.mapGrant
  split <;> rfl

/-- The grants of a lock, and those who hold and wait (R76). -/
theorem lockResumed_custody (s : State) (r : Resource) :
    ((lockResumed s).entry r).grant = (s.entry r).grant.map Grant.dozeResume
      ∧ ((lockResumed s).entry r).waiting = (s.entry r).waiting
      ∧ (lockResumed s).holder r = s.holder r :=
  ⟨(mapGrants_custody _ _ r).1, (mapGrants_custody _ _ r).2, mapGrants_holder Grant.dozeResume_holder _ r⟩

/-- A hold of a doze ends with the resume arithmetic; another grant stands (R74, R76). -/
theorem Grant.dozeResume_byDoze {g : Grant} {p : Nat} (h : g.hold = some (.byDoze p)) : g.dozeResume = { g with
    owed := if p = 0 then 0 else 4, phase := 0, gran := g.pendingGran.getD g.gran, pendingGran := none
    renewed := false, hold := none } := by
  unfold Grant.dozeResume Grant.resume
  rw [h]
  rfl

theorem Grant.dozeResume_other {g : Grant} (h : ∀ p, g.hold ≠ some (.byDoze p)) : g.dozeResume = g := by
  unfold Grant.dozeResume
  split
  next p hp => exact absurd hp (h p)
  next => rfl

theorem fastClockLock_of_due {n : Nat} (h : s.clock.fastClock = .locking n) (hn : 80 ≤ n) :
    fastClockLock s = lockEvent s := by
  have hzero : Config.lockCycles - n = 0 := by simp [Config.lockCycles, hn]
  unfold fastClockLock
  rw [h]
  simp only [hzero, Nat.zero_le, if_true, referenceCycles, lockIfDue, h]
  exact if_pos hn

/-! ## A part in WAKING reaches the lock (R169) -/

theorem wake_of_not_doze {c : WakeCause} (h : s.clock.regime ≠ .doze) : wake c s = s := if_neg h

theorem matchFound_clock (h : s.clock.regime ≠ .doze) : (matchFound s).clock = s.clock := by
  unfold matchFound
  rw [wake_of_not_doze h, ite_self, reportMatch]
  split <;> simp

theorem keyScan_clock (contacts : BitVec 24) (h : s.clock.regime ≠ .doze) : (keyScan contacts s).clock = s.clock := by
  unfold keyScan
  split
  · rw [scanEvent_eq]
    extract_lets w _ _ t m u v
    have hu : u.clock = s.clock := by simp [u, t]
    have hv : v.clock = s.clock := by
      unfold v
      rw [wake_of_not_doze (by rwa [hu]), ite_self, hu]
    split
    · rw [matchFound_clock (by rwa [hv]), hv]
    · exact hv
  · rfl

theorem holdTimerMatch_clock (h : s.clock.regime ≠ .doze) : (holdTimerMatch s).clock = s.clock := by
  unfold holdTimerMatch
  split
  · split
    · exact matchFound_clock h
    · rfl
  · rfl

theorem lockIfDue_of_not_due {n : Nat} (h : s.clock.fastClock = .locking n) (hn : n < 80) : lockIfDue s = s := by
  unfold lockIfDue
  rw [h]
  exact if_neg (Nat.not_le.mpr hn)

theorem keyEvents_clock (m : BitVec 24) (h : s.clock.regime ≠ .doze) :
    (holdTimerMatch (keyScan m s)).clock = s.clock := by
  have hscan := keyScan_clock m h
  rw [holdTimerMatch_clock (by rwa [hscan]), hscan]

/-- While the fast clock is LOCKING in WAKING, no event but the lock changes the clock. -/
theorem takeDue_clock {n : Nat} (hr : s.clock.regime = .waking) (hf : s.clock.fastClock = .locking n) (hn : n < 80) :
    (takeDue s).clock = s.clock := by
  unfold takeDue
  dsimp only
  set c := heldQuarter .printer (heldQuarter .cless (heldQuarter .display (heldQuarter .keypad
    (quarterBoundary .printer (quarterBoundary .cless (quarterBoundary .display (quarterBoundary .keypad
      (frameStall .r (frameStall .a (frameStall .p s)))))))))) with hc
  have hclock : c.clock = s.clock := by simp [hc]
  clear_value c
  have hkeys := keyEvents_clock (s := c) c.lines.matrix (by simp [hclock, hr])
  rw [lockIfDue_of_not_due (n := n) (by simp [hkeys, hclock, hf]) hn]
  simp [hkeys, hclock]

/-- A state whose lock count has taken a cycle, with the accumulator at a value. -/
def cycled (s : State) (accumulator : Nat) : State :=
  { s with clock := { s.clock with fastClock := s.clock.fastClock.cycle, accumulator := accumulator } }

theorem referenceCycle_eq (s : State) : ∃ n, referenceCycle s = cycled (takeDue s) n
    ∨ referenceCycle s = millisecond (cycled (takeDue s) n) := by
  unfold referenceCycle
  dsimp only
  split
  · exact ⟨_, .inl rfl⟩
  · exact ⟨_, .inr rfl⟩

theorem millisecond_lock (s : State) : (millisecond s).clock.regime = s.clock.regime
    ∧ (millisecond s).clock.fastClock = s.clock.fastClock := by simp [millisecond]

/-- A reference cycle counts towards the lock, and leaves the regime to the due events. -/
theorem referenceCycle_lock (s : State) : (referenceCycle s).clock.regime = (takeDue s).clock.regime
    ∧ (referenceCycle s).clock.fastClock = (takeDue s).clock.fastClock.cycle := by
  obtain ⟨n, he | he⟩ := referenceCycle_eq s
  · rw [he]
    exact ⟨rfl, rfl⟩
  · rw [he, (millisecond_lock _).1, (millisecond_lock _).2]
    exact ⟨rfl, rfl⟩

theorem referenceCycle_waking {n : Nat} (hr : s.clock.regime = .waking) (hf : s.clock.fastClock = .locking n)
    (hn : n < 80) :
    (referenceCycle s).clock.regime = .waking ∧ (referenceCycle s).clock.fastClock = .locking (n + 1) := by
  obtain ⟨hregime, hfast⟩ := referenceCycle_lock s
  rw [hregime, hfast, takeDue_clock hr hf hn, hf]
  exact ⟨hr, by simp [FastClock.cycle, Config.lockCycles, hn]⟩

theorem referenceCycles_waking {n k : Nat} (hr : s.clock.regime = .waking) (hf : s.clock.fastClock = .locking n)
    (hk : n + k ≤ 80) : (referenceCycles k s).clock.fastClock = .locking (n + k) := by
  induction k generalizing s n with
  | zero => exact hf
  | succ k ih =>
    obtain ⟨hr', hf'⟩ := referenceCycle_waking hr hf (by omega)
    rw [referenceCycles, ih hr' hf' (by omega)]
    congr 1
    omega

theorem lockIfDue_of_due {n : Nat} (h : s.clock.fastClock = .locking n) (hn : 80 ≤ n) : lockIfDue s = lockEvent s := by
  unfold lockIfDue
  rw [h]
  exact if_pos hn

/-- Where the 80th cycle falls within the present millisecond, the lock comes about. -/
theorem fastClockLock_of_waking {n : Nat} (hr : s.clock.regime = .waking) (hf : s.clock.fastClock = .locking n)
    (hc : 80 - n ≤ cyclesToTick s.clock.accumulator) : ∃ u, fastClockLock s = lockEvent u := by
  refine ⟨referenceCycles (80 - n) s, ?_⟩
  unfold fastClockLock
  rw [hf]
  refine (if_pos hc).trans ?_
  change lockIfDue (referenceCycles (80 - n) s) = _
  rcases Nat.lt_or_ge n 80 with hn | hn
  · exact lockIfDue_of_due (referenceCycles_waking hr hf (by omega)) (by omega)
  · have hzero : 80 - n = 0 := by omega
    rw [hzero]
    exact lockIfDue_of_due hf hn

/-! ## The statement -/

/-- Settles O5: a part in WAKING comes to the lock; the lock resumes every doze hold, and carries out a pending
takeover before it tells that the doze has ended. -/
theorem lockEndsTheDoze : Obligations.LockEndsTheDoze := by
  refine ⟨⟨fun s n hr hf _ hc => ?_, fun s hf => ?_, fun s n hf hc => ?_⟩, fun s n hf hn hp => ?_,
    fun s n hf hn hp hl => ?_⟩
  · obtain ⟨u, hu⟩ := fastClockLock_of_waking hr hf hc
    refine ⟨lockEvent u, by rw [exec_after, after, hu], ?_⟩
    rw [lockEvent_clock, lockEvent_custody]
    exact ⟨rfl, rfl, rfl, rfl, runPendingTakeover_done _⟩
  · rw [exec_after, after, fastClockLock]
    rcases hf with hf | hf <;> rw [hf]
  · rw [exec_after, after, fastClockLock, hf]
    exact congrArg _ (if_neg (Nat.not_le.mpr hc))
  · have hrun : runPendingTakeover (lockResumed s) = lockResumed s := runPendingTakeover_of_not_pending hp
    have hcustody : (lockEvent s).custody = (lockResumed s).custody := by rw [lockEvent_custody, hrun]
    have hadds (l : Link) : Adds l (dozeEndedNotices s) (lockResumed s) (lockEvent s) := hrun ▸ lockEvent_adds s l
    refine ⟨lockEvent s, by rw [exec_after, after, fastClockLock_of_due hf hn], fun r g hg => ?_, fun r => ?_,
      fun c entered hc he l hroom => ?_, fun hc => ?_, lockEvent_clock s, fun b hb => ?_⟩
    · rw [entry_congr hcustody, (lockResumed_custody s r).1, hg, Option.map_some]
      congr 1
      split
      next p hh => exact Grant.dozeResume_byDoze hh
      next hh => exact Grant.dozeResume_other hh
    · rw [entry_congr hcustody, (lockResumed_custody s r).2.1]
    · have hone : dozeEndedNotices s = [{ tenant := 0, body := .dozeEnded (.woken c) entered s.clock.partTime }] := by
        simp [dozeEndedNotices, hc, he]
      have hnotices := hadds l
      rw [hone] at hnotices
      exact hnotices (by simpa [lockResumed] using hroom)
    · rw [lockEvent_eq, lockTold, hrun]
      exact (tellDozeEnded_frame _ _ _).2.2.2.2 hc
    · have hkeys : (lockEvent s).keys = s.keys := by
        rw [lockEvent_eq, lockTold, hrun]
        exact (tellDozeEnded_frame _ _ _).2.2.1
      have hdisplay : (lockEvent s).display = s.display := by
        rw [lockEvent_eq, lockTold, hrun]
        exact (tellDozeEnded_frame _ _ _).2.2.2.1
      cases b with
      | clock | custody => simp at hb
      | port l => cases l <;> simp [portBlocks] at hb
      | keys => exact hkeys.symm
      | display => exact hdisplay.symm
      | policy | tenants | printer | bridge | air | relay | lines => simp [Block.same]
  · set u : State := { lockResumed s with custody := { (lockResumed s).custody with pendingTakeover := false } } with hu
    have hrun : runPendingTakeover (lockResumed s) = attentionTakeover u := runPendingTakeover_of_pending hp
    have hcustody : (lockEvent s).custody = (attentionTakeover u).custody := by rw [lockEvent_custody, hrun]
    have hlaw : CustodyLaw u := by
      have hwithin := mapGrants_within Grant.dozeResume_holder ((custodyLaw_iff.mp hl).congr
        (t := { s with clock := { s.clock with fastClock := .locked, regime := .run } }) rfl)
      exact custodyLaw_iff.mpr (hwithin.congr rfl)
    have hholder (r : Resource) : u.holder r = s.holder r := (lockResumed_custody s r).2.2
    have hwaiting (r : Resource) : (u.entry r).waiting = (s.entry r).waiting := (lockResumed_custody s r).2.1
    refine ⟨lockEvent s, by rw [exec_after, after, fastClockLock_of_due hf hn], ?_, ?_, lockEvent_clock s,
      fun l told htold hroom => ?_⟩
    · rw [lockEvent_custody, runPendingTakeover_done]
    · exact takenOver_congr (fun r => (hholder r).symm) (fun r => (hwaiting r).symm) rfl hcustody
        (attentionTakeover_takenOver hlaw)
    · have hnotices : takeoverNotices u (attentionTakeover u) = takeoverNotices s (lockEvent s) :=
        takeoverNotices_congr hholder hwaiting rfl rfl hcustody.symm
      have hadds := (attentionTakeover_adds hlaw l).trans (hrun ▸ lockEvent_adds s l)
      rw [hnotices] at hadds
      rw [htold]
      exact hadds (htold ▸ hroom)

end Sys2Proof.Machine
end

section
/-! SUPPORT. The scan event (R80 to R95): the records of a scan, what each reaches of the key FIFO, the conditions and
the matcher, and what becomes of a match (O36). -/

namespace Sys2Proof.Machine

variable {s t : State} {h : Subject} {now : BitVec 32} {k : KeyUnit} {r : KeyRecord} {rs : List KeyRecord}
  {sample : BitVec 24}

/-! ## The records of a scan (R82, R83) -/

/-- The key records of some keys at one scan. -/
def recordsOf (now : BitVec 32) (e : Edge) (l : List (Fin 24)) : List KeyRecord := l.map fun i => scanRecord now i e

theorem acceptRelease_key (w : ScanWork) (i j : Fin 24) : (acceptRelease now w i).keys[j] =
    if i = j then { w.keys[i] with standing := .up } else w.keys[j] := by
  simp [acceptRelease, Vector.getElem_set, Fin.ext_iff]

theorem acceptPress_key_other (w : ScanWork) {i j : Fin 24} (hij : i ≠ j) :
    (acceptPress now w i).keys[j] = w.keys[j] := by
  unfold acceptPress
  split <;> simp [Fin.val_ne_of_ne hij]

/-- An accepted press makes a record exactly where the key comes to stand DOWN (table of R82). -/
theorem acceptPress_self (w : ScanWork) (i : Fin 24) :
    (acceptPress now w i).records =
      w.records ++ if (acceptPress now w i).keys[i].standing = .down then [scanRecord now i .press] else [] := by
  unfold acceptPress
  split <;> simp

/-- The accepted releases: their keys stand UP, and those that stood DOWN make a record. -/
theorem foldl_acceptRelease (l : List (Fin 24)) (hl : l.Nodup) (w : ScanWork) :
    (∀ i ∈ l, (l.foldl (acceptRelease now) w).keys[i].standing = .up)
      ∧ (∀ i ∉ l, (l.foldl (acceptRelease now) w).keys[i] = w.keys[i])
      ∧ (l.foldl (acceptRelease now) w).records =
          w.records ++ recordsOf now .release (l.filter fun i => w.keys[i].standing == .down) := by
  induction l generalizing w with
  | nil => simp [recordsOf]
  | cons i l ih =>
    obtain ⟨hi, hl⟩ := List.nodup_cons.mp hl
    obtain ⟨hup, hother, hrecords⟩ := ih hl (acceptRelease now w i)
    have hkeys (j : Fin 24) (hj : j ≠ i) : (acceptRelease now w i).keys[j] = w.keys[j] := by
      rw [acceptRelease_key, if_neg (Ne.symm hj)]
    refine ⟨fun j hj => ?_, fun j hj => ?_, ?_⟩
    · by_cases hjl : j ∈ l
      · exact hup j hjl
      · obtain rfl : j = i := (List.mem_cons.mp hj).resolve_right hjl
        rw [List.foldl_cons, hother j hjl, acceptRelease_key, if_pos rfl]
    · obtain ⟨hji, hjl⟩ := not_or.mp (mt List.mem_cons.mpr hj)
      rw [List.foldl_cons, hother j hjl, hkeys j hji]
    · have hfilter : (l.filter fun j => (acceptRelease now w i).keys[j].standing == .down)
          = l.filter fun j => w.keys[j].standing == .down :=
        List.filter_congr fun j hj => by rw [hkeys j (ne_of_mem_of_not_mem hj hi)]
      rw [List.foldl_cons, hrecords, hfilter, List.filter_cons]
      by_cases hd : w.keys[i].standing = .down <;> simp [-Fin.getElem_fin, acceptRelease, recordsOf, hd]

/-- The accepted presses: a record for each of their keys that comes to stand DOWN, and no other key changes. -/
theorem foldl_acceptPress (l : List (Fin 24)) (hl : l.Nodup) (w : ScanWork) :
    (∀ i ∉ l, (l.foldl (acceptPress now) w).keys[i] = w.keys[i])
      ∧ (l.foldl (acceptPress now) w).records = w.records
          ++ recordsOf now .press (l.filter fun i => (l.foldl (acceptPress now) w).keys[i].standing == .down) := by
  induction l generalizing w with
  | nil => simp [recordsOf]
  | cons i l ih =>
    obtain ⟨hi, hl⟩ := List.nodup_cons.mp hl
    obtain ⟨hother, hrecords⟩ := ih hl (acceptPress now w i)
    refine ⟨fun j hj => ?_, ?_⟩
    · obtain ⟨hji, hjl⟩ := not_or.mp (mt List.mem_cons.mpr hj)
      rw [List.foldl_cons, hother j hjl, acceptPress_key_other w (Ne.symm hji)]
    · rw [List.foldl_cons, hrecords, acceptPress_self, List.filter_cons, hother i hi]
      by_cases hd : (acceptPress now w i).keys[i].standing = .down <;> simp [-Fin.getElem_fin, recordsOf, hd]

/-- Whether a scan accepts a key's sensed level. -/
def scanAccepts (d : Nat) (sample : BitVec 24) (keys : Vector KeyState 24) (i : Fin 24) : Bool :=
  keys[i].accepts d (sample.getLsbD i.val)

theorem nodup_filter_allKeys (p : Fin 24 → Bool) : (allKeys.filter p).Nodup := (List.nodup_finRange 24).filter p

theorem mem_filter_allKeys {p : Fin 24 → Bool} {i : Fin 24} : i ∈ allKeys.filter p ↔ p i = true :=
  List.mem_filter.trans (and_iff_right (List.mem_finRange i))

/-- A scan's records, by the standings before and after it. -/
theorem scanMatrix_records (d : Nat) (now : BitVec 32) (sample : BitVec 24) (keys : Vector KeyState 24) :
    (scanMatrix d now sample keys).records =
      recordsOf now .release (allKeys.filter fun i =>
          keys[i].standing == .down && (scanMatrix d now sample keys).keys[i].standing == .up)
        ++ recordsOf now .press (allKeys.filter fun i =>
          keys[i].standing == .up && (scanMatrix d now sample keys).keys[i].standing == .down) := by
  set counted : Vector KeyState 24 :=
    Vector.ofFn fun i => { keys[i] with count := keys[i].countAfter d (sample.getLsbD i.val) } with hcounted
  set released := allKeys.filter fun i => scanAccepts d sample keys i && keys[i].standing != .up with hreleased
  set pressed := allKeys.filter fun i => scanAccepts d sample keys i && keys[i].standing == .up with hpressed
  have hcount (i : Fin 24) : counted[i].standing = keys[i].standing := by simp [hcounted]
  obtain ⟨hup, hkept, hfirst⟩ := foldl_acceptRelease (now := now) released (nodup_filter_allKeys _)
    { keys := counted, records := [] }
  set u := released.foldl (acceptRelease now) { keys := counted, records := [] } with hu
  obtain ⟨hother, hthen⟩ := foldl_acceptPress (now := now) pressed (nodup_filter_allKeys _) u
  have hw : scanMatrix d now sample keys = pressed.foldl (acceptPress now) u := rfl
  rw [← hw] at hother hthen
  have hcalm (i : Fin 24) (ha : scanAccepts d sample keys i = false) :
      (scanMatrix d now sample keys).keys[i].standing = keys[i].standing := by
    rw [hother i (by simp [hpressed, ha]),
      hkept i (by simp [hreleased, ha]), hcount]
  rw [hthen, hfirst, List.nil_append, List.filter_filter, List.filter_filter]
  refine congrArg₂ _ (congrArg _ (List.filter_congr fun i _ => ?_)) (congrArg _ (List.filter_congr fun i _ => ?_))
  · cases ha : scanAccepts d sample keys i with
    | false => rw [hcalm i ha]; cases keys[i].standing <;> simp
    | true =>
      rw [hcount]
      by_cases hd : keys[i].standing = .down
      · rw [hother i (by rw [hpressed, mem_filter_allKeys, hd]; simp),
          hup i (by rw [hreleased, mem_filter_allKeys, ha, hd]; rfl), hd]
        rfl
      · rw [beq_eq_false_iff_ne.mpr hd]
        rfl
  · cases ha : scanAccepts d sample keys i with
    | false => rw [hcalm i ha]; cases keys[i].standing <;> rfl
    | true => rw [Bool.true_and, Bool.and_comm]

/-- The mark of a loss is set only as the FIFO takes a record (R85). -/
theorem scanMatrix_unmarked {d : Nat} {sample : BitVec 24} {keys : Vector KeyState 24}
    (hr : r ∈ (scanMatrix d now sample keys).records) : r.lostBefore = false := by
  rw [scanMatrix_records, List.mem_append] at hr
  simp only [recordsOf, List.mem_map] at hr
  rcases hr with ⟨i, -, rfl⟩ | ⟨i, -, rfl⟩ <;> rfl

/-! ## A record reaches FIFO and echo (R85, R87) -/

/-- The key unit of a held KEYPAD after a record (R85). -/
def KeyUnit.receive (k : KeyUnit) (r : KeyRecord) : KeyUnit :=
  if k.fifo.length < 32 then
    { k with fifo := k.fifo ++ [{ r with lostBefore := k.lossPending }], lossPending := false }
  else { k with lossPending := true }

/-- The records the FIFO takes, the first of them marked where a loss is pending (R85). -/
def markFirst (lost : Bool) : List KeyRecord → List KeyRecord
  | [] => []
  | r :: rest => { r with lostBefore := lost } :: rest

theorem markFirst_cons (lost : Bool) (r : KeyRecord) (rs : List KeyRecord) :
    markFirst lost (r :: rs) = { r with lostBefore := lost } :: rs := rfl

theorem markFirst_false (h : ∀ r ∈ rs, r.lostBefore = false) : markFirst false rs = rs := by
  cases rs with
  | nil => rfl
  | cons r rest => rw [markFirst, ← h r List.mem_cons_self]

/-- What the records of a scan make of the FIFO and the pending loss. -/
theorem foldl_receive (h : ∀ r ∈ rs, r.lostBefore = false) (k : KeyUnit) : rs.foldl KeyUnit.receive k = { k with
    fifo := k.fifo ++ markFirst k.lossPending (rs.take (32 - k.fifo.length))
    lossPending := if 32 - k.fifo.length < rs.length then true else if rs = [] then k.lossPending else false } := by
  induction rs generalizing k with
  | nil => simp [markFirst]
  | cons r rest ih =>
    have hrest : ∀ q ∈ rest, q.lostBefore = false := fun q hq => h q (List.mem_cons_of_mem r hq)
    rw [List.foldl_cons, ih hrest, KeyUnit.receive]
    split
    next hroom =>
      obtain ⟨n, hn⟩ : ∃ n, 32 - k.fifo.length = n + 1 := ⟨31 - k.fifo.length, by omega⟩
      have hn' : 32 - (k.fifo.length + 1) = n := by omega
      simp [hn, hn', markFirst_cons, markFirst_false fun q hq => hrest q (List.mem_of_mem_take hq)]
    next hfull =>
      have hn : 32 - k.fifo.length = 0 := by omega
      cases rest <;> simp [hn, markFirst]

/-- What a record sets on a link while KEYPAD is held (R85, R87). -/
def recordConditions (h : Subject) (echo lost pressed : Bool) (l : Link) : BitVec 10 :=
  (if lost ∧ l = h.link then 0x020 else 0) ||| (if pressed ∧ h = .pay ∧ echo ∧ l = .a then 0x040 else 0)

theorem recordConditions_none (h : Subject) (echo : Bool) (l : Link) :
    recordConditions h echo false false l = 0 := by simp [recordConditions]

theorem or_ite_same {n : Nat} (p q : Prop) [Decidable p] [Decidable q] (x : BitVec n) :
    (if p then x else 0) ||| (if q then x else 0) = if p ∨ q then x else 0 := by
  by_cases hp : p <;> by_cases hq : q <;> simp [hp, hq]

/-- What two records set is what either sets. -/
theorem recordConditions_or (h : Subject) (echo lost pressed lost' pressed' : Bool) (l : Link) :
    recordConditions h echo lost pressed l ||| recordConditions h echo lost' pressed' l =
      recordConditions h echo (lost || lost') (pressed || pressed') l := by
  have hswap (a b c d : BitVec 10) : a ||| b ||| (c ||| d) = a ||| c ||| (b ||| d) := by ac_rfl
  simp only [recordConditions, Bool.or_eq_true, or_and_right]
  rw [hswap, or_ite_same, or_ite_same]

/-- A port with more conditions in its set (R16). -/
def Port.join (p : Port) (b : BitVec 10) : Port := { p with conditions := p.conditions ||| b }

theorem Port.join_join (p : Port) (b c : BitVec 10) : (p.join b).join c = p.join (b ||| c) := by
  simp [Port.join, BitVec.or_assoc]

theorem Port.join_zero (p : Port) : p.join 0 = p := by simp [Port.join]

theorem setCondition_port (k : Link) (c : Condition) (s : State) (l : Link) :
    (setCondition k c s).port l = (s.port l).join (if l = k then c.bit else 0) := by
  rw [setCondition, setPort_port]
  split
  next hl => rw [hl]; rfl
  next => rw [Port.join_zero]

theorem recordToFifo_room (hh : s.holder .keypad = some h) (hroom : s.keys.fifo.length < 32) (r : KeyRecord) :
    recordToFifo r s = { s with keys := s.keys.receive r } := by
  rw [recordToFifo, hh, KeyUnit.receive, if_pos hroom]
  exact if_pos hroom

theorem recordToFifo_full (hh : s.holder .keypad = some h) (hfull : ¬ s.keys.fifo.length < 32) (r : KeyRecord) :
    recordToFifo r s = setCondition h.link .keysLost { s with keys := s.keys.receive r } := by
  rw [recordToFifo, hh, KeyUnit.receive, if_neg hfull]
  exact if_neg hfull

theorem recordToFifo_held (hh : s.holder .keypad = some h) (r : KeyRecord) :
    (recordToFifo r s).keys = s.keys.receive r ∧ ∀ l, (recordToFifo r s).port l =
      (s.port l).join (recordConditions h s.keys.settings.echo (32 ≤ s.keys.fifo.length) false l) := by
  by_cases hroom : s.keys.fifo.length < 32
  · have hnone (l : Link) : recordConditions h s.keys.settings.echo (32 ≤ s.keys.fifo.length) false l = 0 := by
      simp [recordConditions, hroom]
    rw [recordToFifo_room hh hroom]
    exact ⟨rfl, fun l => by rw [hnone, Port.join_zero]; rfl⟩
  · have hlost (l : Link) : recordConditions h s.keys.settings.echo (32 ≤ s.keys.fifo.length) false l =
        if l = h.link then Condition.keysLost.bit else 0 := by
      simp [recordConditions, Nat.not_lt.mp hroom, Condition.bit]
    rw [recordToFifo_full hh hroom]
    exact ⟨by simp, fun l => by rw [setCondition_port, hlost]; rfl⟩

theorem echoPress_held (hh : s.holder .keypad = some h) (r : KeyRecord) (l : Link) :
    (echoPress r s).port l =
      (s.port l).join (recordConditions h s.keys.settings.echo false (r.edge == .press) l) := by
  have hpay : s.holds .pay .keypad = true ↔ h = .pay := by rw [holds_iff, hh, Option.some_inj]
  unfold echoPress
  split
  next he =>
    obtain ⟨hedge, hp, hecho⟩ := he
    rw [setCondition_port]
    simp [recordConditions, hedge, hpay.mp hp, hecho, Condition.bit]
  next he =>
    have hnot : ¬ (r.edge = .press ∧ h = .pay ∧ s.keys.settings.echo = true) := by rwa [← hpay]
    have hnone : recordConditions h s.keys.settings.echo false (r.edge == .press) l = 0 := by
      rw [recordConditions, if_neg (by simp), if_neg fun ⟨hr, hp, hecho, _⟩ => hnot ⟨beq_iff_eq.mp hr, hp, hecho⟩]
      rfl
    rw [hnone, Port.join_zero]

/-- A record of a held KEYPAD (R85, R87). -/
theorem deliverRecord_held (hh : s.holder .keypad = some h) (r : KeyRecord) :
    (deliverRecord s r).keys = s.keys.receive r ∧ ∀ l, (deliverRecord s r).port l = (s.port l).join
      (recordConditions h s.keys.settings.echo (32 ≤ s.keys.fifo.length) (r.edge == .press) l) := by
  obtain ⟨hkeys, hport⟩ := recordToFifo_held hh r
  have hh' : (recordToFifo r s).holder .keypad = some h := by simpa using hh
  have hecho : (recordToFifo r s).keys.settings = s.keys.settings := by
    rw [hkeys, KeyUnit.receive]
    split <;> rfl
  refine ⟨by simpa [deliverRecord] using hkeys, fun l => ?_⟩
  rw [deliverRecord, echoPress_held hh', hport, hecho, Port.join_join, recordConditions_or, Bool.or_false,
    Bool.false_or]

theorem deliverRecord_free (hh : s.holder .keypad = none) (r : KeyRecord) : deliverRecord s r = s := by
  have hfifo : recordToFifo r s = s := by rw [recordToFifo, hh]
  have hpay : s.holds .pay .keypad = false := holds_eq_false (by simp [hh])
  simp [deliverRecord, hfifo, echoPress, hpay]

/-- With no holder the records of a scan are dropped (R85). -/
theorem deliverRecords_free (hh : s.holder .keypad = none) (rs : List KeyRecord) : rs.foldl deliverRecord s = s := by
  induction rs with
  | nil => rfl
  | cons r rest ih => rw [List.foldl_cons, deliverRecord_free hh, ih]

/-- The records of a scan while KEYPAD is held: its FIFO, and the conditions they set. -/
theorem deliverRecords_held (hh : s.holder .keypad = some h) (rs : List KeyRecord) :
    (rs.foldl deliverRecord s).keys = rs.foldl KeyUnit.receive s.keys ∧ ∀ l, (rs.foldl deliverRecord s).port l =
      (s.port l).join (recordConditions h s.keys.settings.echo (32 - s.keys.fifo.length < rs.length)
        (rs.any fun r => r.edge == .press) l) := by
  induction rs generalizing s with
  | nil =>
    have hnone : decide (32 - s.keys.fifo.length < ([] : List KeyRecord).length) = false := by simp
    exact ⟨rfl, fun l => by rw [hnone, List.any_nil, recordConditions_none, Port.join_zero, List.foldl_nil]⟩
  | cons r rest ih =>
    obtain ⟨hkeys, hport⟩ := deliverRecord_held hh r
    obtain ⟨hthen, hports⟩ := ih (s := deliverRecord s r) (by simpa using hh)
    have hsettings : (s.keys.receive r).settings = s.keys.settings := by
      unfold KeyUnit.receive
      split <;> rfl
    have hlost : (decide (32 ≤ s.keys.fifo.length) || decide (32 - (s.keys.receive r).fifo.length < rest.length))
        = decide (32 - s.keys.fifo.length < (r :: rest).length) := by
      rw [← Bool.decide_or, decide_eq_decide, List.length_cons, KeyUnit.receive]
      split <;> simp <;> omega
    rw [List.foldl_cons, List.foldl_cons]
    refine ⟨by rw [hthen, hkeys], fun l => ?_⟩
    rw [hports, hport, Port.join_join, hkeys, hsettings, recordConditions_or, hlost, List.any_cons]

/-! ## The matcher (R90 to R92) -/

/-- The key units whose matchers stand alike. -/
def KeyUnit.SameMatcher (k j : KeyUnit) : Prop :=
  k.matching = j.matching ∧ k.position = j.position ∧ k.previousPress = j.previousPress ∧ k.holdTimer = j.holdTimer

theorem matcherStep_press (h : k.matching.mode = .sequence) (hr : r.edge = .press) : matcherStep now k r =
    if sequencePosition k now r.code = k.matching.sequence.length then
      ({ k with position := 0, previousPress := some now }, true)
    else ({ k with position := sequencePosition k now r.code, previousPress := some now }, false) := by
  simp only [matcherStep, h, hr]

theorem matcherStep_hold (h : k.matching.mode = .hold) : matcherStep now k r = ({ k with holdTimer :=
    if r.code ≠ k.matching.holdCode then k.holdTimer
    else match r.edge with
      | .press => some { elapsed := 0, due := false }
      | .release => none }, false) := by
  by_cases hc : r.code = k.matching.holdCode <;> cases hr : r.edge <;> simp [matcherStep, h, hr, hc, Timer.zero]

theorem matcherStep_still (h : k.matching.mode = .off ∨ (k.matching.mode = .sequence ∧ r.edge = .release)) :
    matcherStep now k r = (k, false) := by
  rcases h with h | ⟨h, hr⟩
  · simp only [matcherStep, h]
  · simp only [matcherStep, h, hr]

/-- The four things a record can be to the matcher. -/
theorem matcher_cases (k : KeyUnit) (r : KeyRecord) : (k.matching.mode = .sequence ∧ r.edge = .press)
    ∨ k.matching.mode = .hold ∨ (k.matching.mode = .off ∨ (k.matching.mode = .sequence ∧ r.edge = .release)) := by
  cases k.matching.mode <;> cases r.edge <;> simp

/-- The matcher changes nothing of the key unit but its own position, previous press and hold timer. -/
theorem matcherStep_leaves (now : BitVec 32) (k : KeyUnit) (r : KeyRecord) :
    ∃ p b t, (matcherStep now k r).1 = { k with position := p, previousPress := b, holdTimer := t } := by
  rcases matcher_cases k r with ⟨h, hr⟩ | h | h
  · rw [matcherStep_press h hr]
    split <;> exact ⟨_, _, _, rfl⟩
  · rw [matcherStep_hold h]
    exact ⟨_, _, _, rfl⟩
  · rw [matcherStep_still h]
    exact ⟨_, _, _, rfl⟩

/-- Only a press completes a match. -/
theorem matcherStep_found (h : (matcherStep now k r).2 = true) : r.edge = .press := by
  rcases matcher_cases k r with ⟨-, hr⟩ | hm | hm
  · exact hr
  · rw [matcherStep_hold hm] at h
    cases h
  · rw [matcherStep_still hm] at h
    cases h

theorem sequencePosition_congr {j : KeyUnit} (h : k.SameMatcher j) (now : BitVec 32) (code : Nat) :
    sequencePosition k now code = sequencePosition j now code := by
  obtain ⟨hm, hp, hb, -⟩ := h
  simp only [sequencePosition, hm, hp, hb]

theorem matcherStep_congr {j : KeyUnit} (h : k.SameMatcher j) (now : BitVec 32) (r : KeyRecord) :
    (matcherStep now k r).1.SameMatcher (matcherStep now j r).1
      ∧ (matcherStep now k r).2 = (matcherStep now j r).2 := by
  have ⟨hm, hp, hb, ht⟩ := h
  rcases matcher_cases k r with ⟨hk, hr⟩ | hk | hk
  · rw [matcherStep_press hk hr, matcherStep_press (hm ▸ hk) hr, sequencePosition_congr h, hm]
    split <;> exact ⟨⟨rfl, rfl, rfl, ht⟩, rfl⟩
  · rw [matcherStep_hold hk, matcherStep_hold (hm ▸ hk), hm, ht]
    exact ⟨⟨rfl, hp, hb, rfl⟩, rfl⟩
  · rw [matcherStep_still hk, matcherStep_still (hm ▸ hk)]
    exact ⟨h, rfl⟩

theorem matchRecords_cons (now : BitVec 32) (r : KeyRecord) (rs : List KeyRecord) (k : KeyUnit) :
    matchRecords now (r :: rs) k = ((matchRecords now rs (matcherStep now k r).1).1,
      (matcherStep now k r).2 || (matchRecords now rs (matcherStep now k r).1).2) := by
  have hflag (rs : List KeyRecord) (k : KeyUnit) (b : Bool) :
      rs.foldl (fun (acc : KeyUnit × Bool) r =>
        let (k, found) := matcherStep now acc.1 r
        (k, acc.2 || found)) (k, b) = ((matchRecords now rs k).1, b || (matchRecords now rs k).2) := by
    induction rs generalizing k b with
    | nil => simp [matchRecords]
    | cons r rs ih =>
      have hfirst : matchRecords now (r :: rs) k = ((matchRecords now rs (matcherStep now k r).1).1,
          (false || (matcherStep now k r).2) || (matchRecords now rs (matcherStep now k r).1).2) := ih _ _
      rw [hfirst, Bool.false_or, ← Bool.or_assoc]
      exact ih _ _
  exact hflag rs _ _

theorem matchRecords_leaves (now : BitVec 32) (rs : List KeyRecord) (k : KeyUnit) :
    ∃ p b t, (matchRecords now rs k).1 = { k with position := p, previousPress := b, holdTimer := t } := by
  induction rs generalizing k with
  | nil => exact ⟨_, _, _, rfl⟩
  | cons r rs ih =>
    obtain ⟨p, b, t, hstep⟩ := matcherStep_leaves now k r
    obtain ⟨p', b', t', hrest⟩ := ih (matcherStep now k r).1
    rw [matchRecords_cons, hrest, hstep]
    exact ⟨_, _, _, rfl⟩

theorem matchRecords_congr {j : KeyUnit} (h : k.SameMatcher j) (now : BitVec 32) (rs : List KeyRecord) :
    (matchRecords now rs k).1.SameMatcher (matchRecords now rs j).1
      ∧ (matchRecords now rs k).2 = (matchRecords now rs j).2 := by
  induction rs generalizing k j with
  | nil => exact ⟨h, rfl⟩
  | cons r rs ih =>
    obtain ⟨hsame, hfound⟩ := matcherStep_congr h now r
    obtain ⟨hrest, hlater⟩ := ih hsame
    rw [matchRecords_cons, matchRecords_cons, hfound, hlater]
    exact ⟨hrest, rfl⟩

theorem matchRecords_found (h : (matchRecords now rs k).2 = true) : (rs.any fun r => r.edge == .press) = true := by
  induction rs generalizing k with
  | nil => cases h
  | cons r rs ih =>
    rw [matchRecords_cons, Bool.or_eq_true] at h
    rw [List.any_cons, Bool.or_eq_true, beq_iff_eq]
    exact h.imp matcherStep_found ih

theorem matchRecords_off (h : k.matching.mode = .off) (now : BitVec 32) (rs : List KeyRecord) :
    matchRecords now rs k = (k, false) := by
  induction rs with
  | nil => rfl
  | cons r rs ih => rw [matchRecords_cons, matcherStep_still (.inl h), ih]; rfl

theorem gapBroken_eq (previous : Option (BitVec 32)) (now : BitVec 32) (limit p : Nat) :
    (if gapBroken previous now limit then 0 else p) = match previous with
      | some was => if (now - was).toNat ≤ limit then p else 0
      | none => 0 := by
  cases previous with
  | none => rfl
  | some was =>
    by_cases hb : (now - was).toNat ≤ limit
    · simp only [gapBroken, Nat.not_lt.mpr hb, decide_false, Bool.false_eq_true, if_false, if_pos hb]
    · simp only [gapBroken, Nat.not_le.mp hb, decide_true, if_true, if_neg hb]

theorem takes_iff (m : MatchSettings) (p code : Nat) :
    m.takes p code = true ↔ ∃ e, m.sequence[p]? = some e ∧ (e = 0 ∨ e = code) := by
  cases he : m.sequence[p]? <;> simp [MatchSettings.takes, he]

/-! ## The scan event in its steps (R80, R84, R93, R95) -/

/-- The scan of a scan event. -/
def scanOf (sample : BitVec 24) (s : State) : ScanWork :=
  scanMatrix s.keys.settings.debounce s.clock.partTime sample s.keys.keys

/-- A scan event once the matrix is sampled and debounced (R80, R81). -/
def scanSampled (sample : BitVec 24) (s : State) : State := { s with
  lines := { s.lines with matrix := sample }
  keys := { s.keys with keys := (scanOf sample s).keys, scanDue := false } }

/-- A scan event once its records have reached FIFO and echo (R84, steps 1 and 2). -/
def scanDelivered (sample : BitVec 24) (s : State) : State :=
  (scanOf sample s).records.foldl deliverRecord (scanSampled sample s)

/-- What the matcher makes of the scan (R84, step 3; R90). -/
def scanMatched (sample : BitVec 24) (s : State) : KeyUnit × Bool :=
  if (scanDelivered sample s).holds .pay .keypad then ((scanDelivered sample s).keys, false)
  else matchRecords s.clock.partTime (scanOf sample s).records (scanDelivered sample s).keys

/-- Whether a scan has a press. -/
def scanPressed (sample : BitVec 24) (s : State) : Bool := (scanOf sample s).records.any fun r => r.edge == .press

/-- A scan event but for a match: delivered, matched, and the part woken by a press under ANY (R95). -/
def scanWoken (sample : BitVec 24) (s : State) : State :=
  let u := { scanDelivered sample s with keys := (scanMatched sample s).1 }
  if scanPressed sample s ∧ u.keys.settings.wake = .any then wake .key u else u

theorem scanEvent_steps (sample : BitVec 24) (s : State) : scanEvent sample s =
    if (scanMatched sample s).2 then matchFound (scanWoken sample s) else scanWoken sample s :=
  scanEvent_eq sample s

theorem scanOf_unmarked (sample : BitVec 24) (s : State) : ∀ r ∈ (scanOf sample s).records, r.lostBefore = false :=
  fun _ hr => scanMatrix_unmarked hr

theorem scanDelivered_frame (sample : BitVec 24) (s : State) :
    (scanDelivered sample s).clock = s.clock ∧ (scanDelivered sample s).custody = s.custody
      ∧ (scanDelivered sample s).display = s.display
      ∧ (scanDelivered sample s).lines = { s.lines with matrix := sample } := by simp [scanDelivered, scanSampled]

/-- The delivery of a scan leaves the matcher and the settings. -/
theorem scanDelivered_keys (sample : BitVec 24) (s : State) : ∃ f b, (scanDelivered sample s).keys = { s.keys with
    keys := (scanOf sample s).keys, scanDue := false, fifo := f, lossPending := b } := by
  unfold scanDelivered
  cases hh : (scanSampled sample s).holder .keypad with
  | none => rw [deliverRecords_free hh]; exact ⟨_, _, rfl⟩
  | some h =>
    rw [(deliverRecords_held hh _).1, foldl_receive (scanOf_unmarked sample s)]
    exact ⟨_, _, rfl⟩

/-- The matcher is at rest while PAY holds KEYPAD, and in mode OFF (R90). -/
theorem scanMatched_still (sample : BitVec 24) (h : s.holder .keypad = some .pay ∨ s.keys.matching.mode = .off) :
    scanMatched sample s = ((scanDelivered sample s).keys, false) := by
  obtain ⟨f, b, hkeys⟩ := scanDelivered_keys sample s
  unfold scanMatched
  split
  · rfl
  next hp =>
    refine matchRecords_off ?_ _ _
    rw [hkeys]
    refine h.resolve_left fun hpay => hp ?_
    rw [holds_iff, holder_congr (scanDelivered_frame sample s).2.1, hpay]

/-- While PAY does not hold KEYPAD, the matcher takes the records as it stood before the scan (R84, R90). -/
theorem scanMatched_matcher (sample : BitVec 24) (h : s.holder .keypad ≠ some .pay) :
    (scanMatched sample s).1.SameMatcher (matchRecords s.clock.partTime (scanOf sample s).records s.keys).1
      ∧ (scanMatched sample s).2 = (matchRecords s.clock.partTime (scanOf sample s).records s.keys).2 := by
  obtain ⟨f, b, hkeys⟩ := scanDelivered_keys sample s
  have hfree : (scanDelivered sample s).holds .pay .keypad = false :=
    holds_eq_false (by rwa [holder_congr (scanDelivered_frame sample s).2.1])
  have hsame : (scanDelivered sample s).keys.SameMatcher s.keys := by
    rw [hkeys]
    exact ⟨rfl, rfl, rfl, rfl⟩
  rw [scanMatched, hfree, if_neg Bool.false_ne_true]
  exact matchRecords_congr hsame _ _

theorem scanMatched_settings (sample : BitVec 24) (s : State) :
    (scanMatched sample s).1.settings = s.keys.settings := by
  obtain ⟨f, b, hkeys⟩ := scanDelivered_keys sample s
  unfold scanMatched
  split
  · rw [hkeys]
  · obtain ⟨p, c, t, hrest⟩ := matchRecords_leaves s.clock.partTime (scanOf sample s).records
      (scanDelivered sample s).keys
    rw [hrest, hkeys]

theorem scanWoken_frame (sample : BitVec 24) (s : State) :
    (scanWoken sample s).keys = (scanMatched sample s).1 ∧ (scanWoken sample s).custody = s.custody
      ∧ (scanWoken sample s).display = s.display ∧ (scanWoken sample s).ports = (scanDelivered sample s).ports
      ∧ (scanWoken sample s).lines = { s.lines with matrix := sample } := by
  obtain ⟨-, hcustody, hdisplay, hlines⟩ := scanDelivered_frame sample s
  unfold scanWoken
  dsimp only
  split <;> simp [hcustody, hdisplay, hlines]

/-- A press wakes the part in DOZE under ANY (R95). -/
theorem scanWoken_clock (sample : BitVec 24) (s : State) : (scanWoken sample s).clock =
    if s.clock.regime = .doze ∧ s.keys.settings.wake = .any ∧ scanPressed sample s = true then
      { s.clock with wakeCause := some .key, regime := .waking, fastClock := .locking 0 }
    else s.clock := by
  have hclock := (scanDelivered_frame sample s).1
  unfold scanWoken wake
  simp only [scanMatched_settings, hclock]
  by_cases hd : s.clock.regime = .doze <;> by_cases hw : s.keys.settings.wake = .any <;>
    by_cases hp : scanPressed sample s = true <;> simp [hd, hw, hp]

theorem exec_keyScan_due (h : s.keys.scanDue = true) (sample : BitVec 24) :
    exec (.keyScan sample) s = .next (scanEvent sample s) := by
  rw [exec_after, after, keyScan, if_pos h]

/-! ## The scan event as a whole (O36) -/

/-- A scan whose records bring no match leaves the part woken at most. -/
theorem scanEvent_still (sample : BitVec 24) (h : s.holder .keypad = some .pay ∨ s.keys.matching.mode = .off) :
    scanEvent sample s = scanWoken sample s ∧ (scanEvent sample s).keys = (scanDelivered sample s).keys := by
  have hstill := scanMatched_still sample h
  have he : scanEvent sample s = scanWoken sample s := by rw [scanEvent_steps, hstill, if_neg Bool.false_ne_true]
  exact ⟨he, by rw [he, (scanWoken_frame sample s).1, hstill]⟩

/-- FIFO and conditions after the scan of a held KEYPAD (R85, R87). -/
theorem scanDelivered_held (hh : s.holder .keypad = some h) (sample : BitVec 24) :
    (scanDelivered sample s).keys = { s.keys with
        keys := (scanOf sample s).keys, scanDue := false
        fifo := s.keys.fifo
          ++ markFirst s.keys.lossPending ((scanOf sample s).records.take (32 - s.keys.fifo.length))
        lossPending := if 32 - s.keys.fifo.length < (scanOf sample s).records.length then true
          else if (scanOf sample s).records = [] then s.keys.lossPending else false }
      ∧ ∀ l, (scanDelivered sample s).port l = (s.port l).join (recordConditions h s.keys.settings.echo
          (32 - s.keys.fifo.length < (scanOf sample s).records.length) (scanPressed sample s) l) := by
  obtain ⟨hkeys, hport⟩ := deliverRecords_held (s := scanSampled sample s) hh (scanOf sample s).records
  exact ⟨hkeys.trans (foldl_receive (scanOf_unmarked sample s) _), hport⟩

theorem scanPressed_iff (sample : BitVec 24) (s : State) :
    scanPressed sample s = true ↔ ∃ r ∈ (scanOf sample s).records, r.edge = .press := by
  simp [scanPressed]

/-- In RUN a match is an attention takeover, and the keys down become suppressed (R93). -/
theorem scanEvent_matched_running (hm : (scanMatched sample s).2 = true) (hr : s.clock.regime = .run)
    (hp : s.holder .keypad ≠ some .pay) (hl : CustodyLaw s) : TakenOver s (scanEvent sample s)
      ∧ (scanEvent sample s).keys = (scanMatched sample s).1.flushed := by
  obtain ⟨hkeys, hcustody, hdisplay, -⟩ := scanWoken_frame sample s
  have hrun : (scanWoken sample s).clock.regime = .run := by simp [scanWoken_clock, hr]
  have hlaw : CustodyLaw (scanWoken sample s) := custodyLaw_congr hcustody hl
  have hfree : (scanWoken sample s).holder .keypad ≠ some .pay := by rwa [holder_congr hcustody]
  rw [scanEvent_steps, if_pos hm, matchFound_running hrun, attentionTakeover_keys_flushed hlaw hfree, hkeys]
  exact ⟨takenOver_congr (fun r => holder_congr hcustody.symm r) (fun r => by rw [entry_congr hcustody])
    (by rw [hdisplay]) rfl (attentionTakeover_takenOver hlaw), rfl⟩

/-- Outside RUN a match is kept, and a match or its press wakes the part as its wake mode has it (R62, R95). -/
theorem scanEvent_matched_not_running (hm : (scanMatched sample s).2 = true) (hr : s.clock.regime ≠ .run)
    (hp : scanPressed sample s = true) :
    (scanEvent sample s).custody = { s.custody with pendingTakeover := true }
      ∧ (scanEvent sample s).clock = (match s.clock.regime, s.keys.settings.wake with
        | .doze, .any => { s.clock with wakeCause := some .key, regime := .waking, fastClock := .locking 0 }
        | .doze, .matching =>
          { s.clock with wakeCause := some .matched, regime := .waking, fastClock := .locking 0 }
        | _, _ => s.clock) := by
  obtain ⟨hkeys, hcustody, -⟩ := scanWoken_frame sample s
  have hsettings : (scanWoken sample s).keys.settings = s.keys.settings := by rw [hkeys, scanMatched_settings]
  have hclock := scanWoken_clock sample s
  rw [hp] at hclock
  have hrun : (scanWoken sample s).clock.regime ≠ .run := by
    rw [hclock]
    split
    · exact Regime.noConfusion
    · exact hr
  rw [scanEvent_steps, if_pos hm, matchFound_not_running hrun, hcustody, hsettings, hclock]
  refine ⟨rfl, ?_⟩
  cases hd : s.clock.regime <;> cases hw : s.keys.settings.wake <;> simp [hd]

/-- A held KEYPAD with room takes the scan's records whole (R85). -/
theorem scanDelivered_room (hh : s.holder .keypad = some h) (hl : s.keys.lossPending = false)
    (hroom : s.keys.fifo.length + (scanOf sample s).records.length ≤ 32) :
    (scanDelivered sample s).keys.fifo = s.keys.fifo ++ (scanOf sample s).records := by
  have hall : (scanOf sample s).records.take (32 - s.keys.fifo.length) = (scanOf sample s).records :=
    List.take_of_length_le (by omega)
  rw [(scanDelivered_held hh sample).1]
  simp only [hall, hl, markFirst_false (scanOf_unmarked sample s)]

/-- With no holder of KEYPAD the records are dropped (R85). -/
theorem scanDelivered_free (hh : s.holder .keypad = none) : scanDelivered sample s = scanSampled sample s :=
  deliverRecords_free (s := scanSampled sample s) hh _

/-- The position after a press, by the entries that fit its code (R91). -/
theorem sequencePosition_eq (now : BitVec 32) (k : KeyUnit) (r : KeyRecord) (fits : Nat → Bool) (before : Nat)
    (hfits : ∀ n, fits n = true ↔ ∃ e, k.matching.sequence[n]? = some e ∧ (e = 0 ∨ e = r.code))
    (hbefore : before = match k.previousPress with
      | some was => if (now - was).toNat ≤ k.matching.gapLimit then k.position else 0
      | none => 0) :
    sequencePosition k now r.code = if fits before then before + 1 else if fits 0 then 1 else 0 := by
  have htakes (n : Nat) : k.matching.takes n r.code = fits n :=
    Bool.eq_iff_iff.mpr ((takes_iff _ _ _).trans (hfits n).symm)
  rw [sequencePosition, gapBroken_eq, ← hbefore, htakes, htakes]

/-- Settles O36, by the steps of the scan event: the records of the scan, what they do to FIFO, conditions and matcher,
and what a match brings about. -/
theorem scanRecordsReachTheFifoInOrder : Obligations.ScanRecordsReachTheFifoInOrder := by
  refine ⟨scanMatrix_records, fun sample h s => ⟨fun hd => ?_, fun hd hh hr hm hl hroom => ?_, fun hd hh hr hm => ?_⟩,
    fun sample h s w room pressed hw hroom hpressed hd hh hstill => ?_,
    ⟨fun now k r => ⟨fun hm hr fits before p hfits hbefore hp => ?_, matcherStep_hold, matcherStep_still⟩,
      fun sample s m hm hd hp => ?_⟩⟩
  · rw [exec_after, after, keyScan, hd, if_neg Bool.false_ne_true]
  · obtain ⟨he, hkeys⟩ := scanEvent_still sample (.inr hm)
    obtain ⟨-, hcustody, -, -, hlines⟩ := scanWoken_frame sample s
    refine ⟨_, exec_keyScan_due hd sample, ?_, hkeys ▸ scanDelivered_room hh hl hroom, ?_, ?_, ?_, ?_⟩
    · rw [hkeys, (scanDelivered_held hh sample).1]
      rfl
    · rw [hkeys, (scanDelivered_held hh sample).1]
    · rw [he, hlines]
    · rw [he, hcustody]
    · rw [he, scanWoken_clock, hr, if_neg (by simp)]
  · obtain ⟨he, hkeys⟩ := scanEvent_still sample (.inr hm)
    obtain ⟨-, -, -, hports, -⟩ := scanWoken_frame sample s
    refine ⟨_, exec_keyScan_due hd sample, ?_, ?_, ?_⟩
    · rw [hkeys, scanDelivered_free hh]
      rfl
    · rw [hkeys, scanDelivered_free hh]
      rfl
    · rw [he, hports, scanDelivered_free hh]
      rfl
  · obtain ⟨he, hkeys⟩ := scanEvent_still sample (hstill.imp_left fun hp => hp ▸ hh)
    obtain ⟨hheld, hport⟩ := scanDelivered_held hh sample
    obtain ⟨-, hcustody, -, hports, hlines⟩ := scanWoken_frame sample s
    obtain rfl : w = scanOf sample s := hw
    obtain rfl : pressed = scanPressed sample s :=
      Bool.eq_iff_iff.mpr (hpressed.trans (scanPressed_iff sample s).symm)
    refine ⟨_, exec_keyScan_due hd sample, ?_, fun l => ?_, ?_, by rw [he, hlines], by rw [he, hcustody]⟩
    · rw [hkeys, hheld, hroom]
      cases (scanOf sample s).records.take (32 - s.keys.fifo.length) <;> rfl
    · rw [he, port_congr hports, hport, hroom, Port.join, recordConditions, BitVec.or_assoc]
      simp only [decide_eq_true_eq]
    · rw [he, scanWoken_clock]
  · rw [matcherStep_press hm hr, sequencePosition_eq now k r fits before hfits hbefore, ← hp]
  · obtain ⟨⟨-, hposition, hprevious, htimer⟩, hfound⟩ := scanMatched_matcher sample hp
    obtain rfl : m = matchRecords s.clock.partTime (scanOf sample s).records s.keys := hm
    refine ⟨fun hnone => ?_, fun hmatch hr hl => ?_, fun hmatch hr => ?_⟩
    · obtain ⟨hkeys, hcustody, -⟩ := scanWoken_frame sample s
      refine ⟨_, exec_keyScan_due hd sample, ?_⟩
      rw [scanEvent_steps, hfound, hnone, if_neg Bool.false_ne_true, hkeys, hcustody]
      exact ⟨rfl, hposition, hprevious, htimer⟩
    · obtain ⟨htaken, hflushed⟩ := scanEvent_matched_running (hfound.trans hmatch) hr hp hl
      refine ⟨_, exec_keyScan_due hd sample, htaken, ?_⟩
      rw [hflushed]
      refine ⟨rfl, rfl, rfl, rfl, fun i => ?_⟩
      rw [KeyUnit.flushed_key]
      dsimp only
      split
      · exact Standing.noConfusion
      next hup => exact hup
    · exact ⟨_, exec_keyScan_due hd sample,
        scanEvent_matched_not_running (hfound.trans hmatch) hr (matchRecords_found hmatch)⟩

end Sys2Proof.Machine
end

section
/-! SUPPORT. What a lease request does to the grant it names (R69 to R74), and the two quarters that part time counts
(R67, R68, R73): O30 to O33. -/

namespace Sys2Proof.Machine

variable {l : Link} {f : Frame} {rb gb : Byte} {r : Resource} {want : Gran} {who : Subject} {g : Grant} {s t : State}

/-! ## Requests of the holder -/

/-- A request row whose handler's answer is known (R8, R10). -/
theorem exec_of_admitted {i : Instr} {k : ReqKind} {handler : Handler} {c : ReplyCode} {body data : List Byte}
    (hi : exec i s = .next (processRequest k handler l s)) (h : Admitted k l f s) (hb : f.body = body)
    (hh : handler l (requester l f.tenant) body (dropOldest l s) = (t, replyBody c data)) :
    exec i s = .next (replied l f c data t) :=
  hi.trans (congrArg _ (processRequest_admitted h (hb ▸ hh)))

@[simp] theorem dropOldest_grantOf (l : Link) (who : Subject) (r : Resource) (s : State) :
    (dropOldest l s).grantOf who r = s.grantOf who r := by simp [State.grantOf]

/-- The handler of a request finds the grant its requester holds. -/
theorem grantOf_of_holder (hg : (s.entry r).grant = some g) (hh : g.holder = who) :
    (dropOldest l s).grantOf who r = some g := by
  simp [State.grantOf, hg, hh]

theorem grantOf_of_not_holder (h : s.holder r ≠ some who) : s.grantOf who r = none := by
  rw [State.grantOf, Option.filter_eq_none_iff]
  intro g hg hh
  exact h (by simp [State.holder, hg, beq_iff_eq.mp hh])

theorem granCode_of {b : Byte} (h : granOf b = some want) : want.code = b := by
  unfold granOf at h
  (repeat' split at h) <;> cases h <;> (subst_vars; rfl)

/-! ## RENEW (R71) -/

theorem Grant.renew_eq (g : Grant) : g.renew = { g with
    owed := g.owed - min g.owed g.gran.weight
    balance := min (g.balance + (g.gran.weight - min g.owed g.gran.weight : Nat)) 16
    phase := (g.phase + g.gran.weight) % 4
    renewed := true
    gran := if (g.phase + g.gran.weight) % 4 = 0 then g.pendingGran.getD g.gran else g.gran
    pendingGran := if (g.phase + g.gran.weight) % 4 = 0 then none else g.pendingGran } := by
  by_cases h : (g.phase + g.gran.weight) % 4 = 0 <;>
    simp [Grant.renew, Grant.applyPending, Config.periodQuarters, Config.maxBalance, h]

theorem renewHandler_of_holder (hr : resourceOf rb = some r) (hg : s.grantOf who r = some g) :
    renewHandler l who [rb] s = if g.hold = none then
      (s.setGrant r g.renew, replyBody (okOr g.renewLimited)
        [rb, signedByte g.renew.balance, byte g.renew.phase, byte g.renew.owed, g.renew.gran.code])
      else refuse .held s := by
  cases hf : g.hold <;> simp [renewHandler, hr, hg, hf]

/-- Settles O30: the handler's tests, and the renewal field by field. -/
theorem renewPaysOwedQuartersFirst : Obligations.RenewPaysOwedQuartersFirst := by
  refine fun l f rb s h hb => ⟨fun hbad => exec_of_admitted rfl h hb ?_, fun r hr =>
    ⟨fun hn => exec_of_admitted rfl h hb ?_, fun g hg hh => ?_⟩⟩
  · simp [renewHandler, resourceOf_eq_none.mpr hbad, refuse]
  · simp [renewHandler, hr, grantOf_of_not_holder hn, refuse]
  have hholder := renewHandler_of_holder (l := l) hr (grantOf_of_holder (l := l) hg hh)
  refine ⟨fun hheld => exec_of_admitted rfl h hb (hholder.trans (if_neg hheld)), fun hfree w hw =>
    exec_of_admitted rfl h hb (hholder.trans ((if_pos hfree).trans ?_))⟩
  obtain rfl : w = g.gran.weight := hw
  rw [Grant.renew_eq]
  simp [okOr, Grant.renewLimited, Config.maxBalance, signedByte]

/-! ## SET_GRAIN (R69) -/

theorem setGrainHandler_badRequest (h : 4 ≤ rb.toNat ∨ 3 ≤ gb.toNat) :
    setGrainHandler l who [rb, gb] s = refuse .badRequest s := by
  simp only [← resourceOf_eq_none, ← granOf_eq_none] at h
  unfold setGrainHandler
  dsimp only
  split
  next hr hg => simp [hr, hg] at h
  next => rfl

theorem setGrainHandler_of_holder (hr : resourceOf rb = some r) (hw : granOf gb = some want)
    (hg : s.grantOf who r = some g) : setGrainHandler l who [rb, gb] s =
      if (s.policyOf who r).grans.has want = false then refuse .notPermitted s else
      (s.setGrant r (g.setGrain want), replyBody (if (g.setGrain want).pendingGran.isSome then .pending else .ok)
        [rb, (g.setGrain want).gran.code, pendingCode (g.setGrain want).pendingGran]) := by
  simp [setGrainHandler, hr, hw, hg]

/-- Settles O31: the handler's tests, and the three outcomes of a granularity that is allowed. -/
theorem grainChangesAtPhaseZero : Obligations.GrainChangesAtPhaseZero := by
  refine fun l f rb gb s h hb => ⟨fun hbad => exec_of_admitted rfl h hb (setGrainHandler_badRequest hbad),
    fun r want hr hw => ⟨fun hn => exec_of_admitted rfl h hb ?_, fun g hg hh => ?_⟩⟩
  · simp [setGrainHandler, hr, hw, grantOf_of_not_holder hn, refuse]
  have hholder := setGrainHandler_of_holder (l := l) hr hw (grantOf_of_holder (l := l) hg hh)
  have hpolicy : (dropOldest l s).policyOf (requester l f.tenant) r = s.policyOf g.holder r := by simp [hh]
  have hcode : want.code = gb := granCode_of hw
  rw [hpolicy] at hholder
  refine ⟨fun hno => exec_of_admitted rfl h hb (hholder.trans (if_pos hno)), fun hyes => ?_⟩
  have hallowed := hholder.trans (if_neg (by simp [hyes]))
  refine ⟨fun hsame => exec_of_admitted rfl h hb (hallowed.trans ?_),
    fun hnew hphase => exec_of_admitted rfl h hb (hallowed.trans ?_),
    fun hnew hphase => exec_of_admitted rfl h hb (hallowed.trans ?_)⟩
  · simp [Grant.setGrain, hsame, ← hcode, pendingCode]
  · simp [Grant.setGrain, hnew, hphase, hcode, pendingCode]
  · simp [Grant.setGrain, hnew, hphase, hcode, pendingCode]

/-! ## HOLD and RESUME (R72, R74) -/

theorem holdHandler_of_holder (hr : resourceOf rb = some r) (hg : s.grantOf who r = some g) :
    holdHandler l who [rb] s =
      if (s.policyOf who r).holdLimit = 0 then refuse .notPermitted s
      else if g.renewed = false ∨ g.owed ≠ 0 then refuse .renewFirst s
      else if g.hold ≠ none then refuse .already s
      else (s.setGrant r (g.beginHold (s.policyOf who r).quarterLength),
        replyBody .ok [rb, byte (s.policyOf who r).holdLimit]) := by
  simp [holdHandler, hr, hg, imp_iff_not_or, Option.isSome_iff_ne_none]

theorem resumeHandler_of_holder (hr : resourceOf rb = some r) (hg : s.grantOf who r = some g) :
    resumeHandler l who [rb] s = if g.hold = none then refuse .notHeld s else
      (s.setGrant r g.resume,
        replyBody .ok [rb, signedByte g.resume.balance, byte g.resume.owed, g.resume.gran.code]) := by
  simp [resumeHandler, hr, hg]

/-- Settles O32: the handlers' tests in their order, and the grant that HOLD and RESUME leave. -/
theorem holdAndResume : Obligations.HoldAndResume := by
  refine ⟨fun l f rb s hb hbad => ⟨fun h => exec_of_admitted rfl h hb ?_, fun h => exec_of_admitted rfl h hb ?_⟩,
    fun l f rb r s hb hr => ⟨fun h => ⟨fun hn => exec_of_admitted rfl h hb ?_, fun g e hg hh he => ?_⟩,
      fun h => ⟨fun hn => exec_of_admitted rfl h hb ?_, fun g hg hh => ?_⟩⟩⟩
  · simp [holdHandler, resourceOf_eq_none.mpr hbad, refuse]
  · simp [resumeHandler, resourceOf_eq_none.mpr hbad, refuse]
  · simp [holdHandler, hr, grantOf_of_not_holder hn, refuse]
  · have hholder := holdHandler_of_holder (l := l) hr (grantOf_of_holder (l := l) hg hh)
    obtain rfl : e = (dropOldest l s).policyOf (requester l f.tenant) r := by simp [he, hh]
    refine ⟨fun hlimit => exec_of_admitted rfl h hb (hholder.trans (if_pos hlimit)),
      fun hlimit hrenew => exec_of_admitted rfl h hb (hholder.trans ?_),
      fun hlimit hren howed hheld => exec_of_admitted rfl h hb (hholder.trans ?_),
      fun hlimit hren howed hfree => exec_of_admitted rfl h hb (hholder.trans ?_)⟩
    · rw [if_neg hlimit, if_pos hrenew]; rfl
    · rw [if_neg hlimit, if_neg (by simp [hren, howed]), if_pos hheld]; rfl
    · rw [if_neg hlimit, if_neg (by simp [hren, howed]), if_neg (not_not.mpr hfree)]; rfl
  · simp [resumeHandler, hr, grantOf_of_not_holder hn, refuse]
  · have hholder := resumeHandler_of_holder (l := l) hr (grantOf_of_holder (l := l) hg hh)
    refine ⟨fun hfree => exec_of_admitted rfl h hb (hholder.trans (if_pos hfree)),
      fun n held len p hhold g' hg' => exec_of_admitted rfl h hb (hholder.trans ?_)⟩
    rw [if_neg (by simp [hhold]), hg', Grant.resume_byHold hhold]
    rfl

/-! ## The two quarters (R67, R68, R73) -/

theorem revokeGrant_setGrant (why : RevokeReason) (position : Nat) : revokeGrant r why position (s.setGrant r g) =
    enterTurnover r .revoked (notifySubject g.holder (.revoke r why position) (s.setGrant r g)) := by
  simp [revokeGrant, State.holder]

theorem quarterBoundary_not_due
    (h : ∀ g, (s.entry r).grant = some g → g.hold ≠ none ∨ s.clock.regime ≠ .run ∨ g.quarterTimer.due = false) :
    quarterBoundary r s = s := by
  unfold quarterBoundary
  cases hg : (s.entry r).grant with
  | none => rfl
  | some g =>
    have hno : ¬ (g.hold = none ∧ s.running = true ∧ g.quarterTimer.due = true) := by
      rcases h g hg with hheld | hregime | htimer <;> simp [State.running, *]
    exact if_neg hno

/-- A boundary that comes about, by the balance it finds (R68); `n` is the grant with its timer at 0 and its quarter
length read afresh (R67). -/
theorem quarterBoundary_due (hg : (s.entry r).grant = some g) (hfree : g.hold = none) (hrun : s.clock.regime = .run)
    (hdue : g.quarterTimer.due = true) {n : Grant} (hn : n = { g with
      quarterTimer := { elapsed := 0, due := false }, quarterLength := (s.policyOf g.holder r).quarterLength }) :
    quarterBoundary r s =
      if g.balance = -23 then
        enterTurnover r .revoked (notifySubject g.holder (.revoke r .lapsed 0) (s.setGrant r n))
      else if g.balance = -11 then
        notifySubject g.holder (.lapseWarn r (-12)) (s.setGrant r { n with balance := -12 })
      else s.setGrant r { n with balance := g.balance - 1 } := by
  subst hn
  unfold quarterBoundary
  rw [hg]
  dsimp only
  rw [if_pos ⟨hfree, by simp [State.running, hrun], hdue⟩, revokeGrant_setGrant]
  have hwarns : g.balance - 1 = Config.warnBalance ↔ g.balance = -11 := by unfold Config.warnBalance; omega
  exact if_congr Iff.rfl rfl
    (ite_congr (propext hwarns) (fun hwarn => by simp [hwarn, Timer.zero]) fun _ => rfl)

theorem heldQuarter_not_due
    (h : ∀ g n t len p, (s.entry r).grant = some g → g.hold = some (.byHold n t len p) →
      t.due = false ∨ s.clock.regime = .doze) : heldQuarter r s = s := by
  unfold heldQuarter
  cases hg : (s.entry r).grant with
  | none => rfl
  | some g =>
    dsimp only
    split
    next n t len p hhold =>
      have hno : ¬ (t.due = true ∧ s.clock.regime ≠ .doze) := by
        rcases h g n t len p hg hhold with htimer | hregime <;> simp [*]
      exact if_neg hno
    next => rfl

/-- A held quarter that is counted, by the hold limit (R73). -/
theorem heldQuarter_due {n len p : Nat} {held : Timer} (hg : (s.entry r).grant = some g)
    (hhold : g.hold = some (.byHold n held len p)) (hdue : held.due = true) (hregime : s.clock.regime ≠ .doze) :
    heldQuarter r s =
      if (s.policyOf g.holder r).holdLimit ≤ n + 1 then
        notifySubject g.holder (.holdEnded r g.balance (if p = 0 then 0 else 4)) (s.setGrant r { g with
          owed := if p = 0 then 0 else 4
          phase := 0
          gran := g.pendingGran.getD g.gran
          pendingGran := none
          renewed := false
          hold := none })
      else s.setGrant r { g with
        hold := some (.byHold (n + 1) { elapsed := 0, due := false } (s.policyOf g.holder r).quarterLength p) } := by
  unfold heldQuarter
  rw [hg]
  dsimp only
  rw [hhold]
  dsimp only
  rw [if_pos ⟨hdue, hregime⟩]
  rfl

/-- Settles O33: a boundary by the balance it finds, and a held quarter by the hold limit. -/
theorem quartersCountToTheirLimits : Obligations.QuartersCountToTheirLimits := by
  refine ⟨fun r s => ⟨fun h => congrArg _ (quarterBoundary_not_due h), fun g hg hfree hrun hdue n hn => ?_⟩,
    fun r s => ⟨fun h => congrArg _ (heldQuarter_not_due h), fun g n t len p e hg hhold hdue hregime he => ?_⟩⟩
  · have hdecides := quarterBoundary_due hg hfree hrun hdue hn
    exact ⟨fun hlapse => congrArg _ (hdecides.trans (if_pos hlapse)),
      fun hlapse hwarn => congrArg _ (hdecides.trans ((if_neg hlapse).trans (if_neg hwarn))),
      fun hwarn => congrArg _ (hdecides.trans ((if_neg (by omega)).trans (if_pos hwarn)))⟩
  · have hdecides := he ▸ heldQuarter_due hg hhold hdue hregime
    exact ⟨fun hbelow => congrArg _ (hdecides.trans (if_neg (by omega))),
      fun hreached => congrArg _ (hdecides.trans (if_pos hreached))⟩

end Sys2Proof.Machine
end

section
/-! SUPPORT. DOZE and its reply (R75, R170, R172, R173): the tests of the request, and what the end of its reply
makes of the clock, the grants and the key unit (O6). -/

namespace Sys2Proof.Machine

variable {l : Link} {f : Frame} {x : InFlight} {g : Grant} {s : State}

/-! ## The tests of DOZE and of doze entry (R170, R172) -/

theorem mem_allResources (r : Resource) : r ∈ allResources := by cases r <;> simp [allResources]

theorem quiet_iff : s.quiet = true ↔ s.bridge.exchange = .idle ∧ (∀ r, (s.entry r).standing ≠ .turnover)
    ∧ s.printer.fifo = [] ∧ s.display.target = none := by
  simp [State.quiet, mem_allResources, and_assoc]

theorem quiet_eq_false (h : s.bridge.exchange ≠ .idle ∨ (∃ r, (s.entry r).standing = .turnover)
    ∨ s.printer.fifo ≠ [] ∨ s.display.target ≠ none) : s.quiet = false := by
  rw [Bool.eq_false_iff, Ne, quiet_iff]
  rintro ⟨hbridge, hentries, hprinter, hdisplay⟩
  rcases h with hbusy | ⟨r, hturnover⟩ | hdata | htarget
  · exact hbusy hbridge
  · exact hentries r hturnover
  · exact hdata hprinter
  · exact htarget hdisplay

theorem mayDoze_iff : s.mayDoze = true ↔ EntryTest s := by
  simp [State.mayDoze, quiet_iff, EntryTest, mem_allResources, and_assoc]

/-! ## Doze entry (R75, R173) -/

/-- A GRANTED grant becomes HELD under a DOZE record, and its quarter timer stands (R75; log entry 21). -/
theorem Grant.dozeHold_granted (h : g.hold = none) : g.dozeHold = { g with
    quarterTimer := { g.quarterTimer with due := false }, hold := some (.byDoze g.phase) } := by
  unfold Grant.dozeHold
  rw [h]
  rfl

/-- A hold by HOLD keeps its record, and its held timer stands (R75; log entry 21). -/
theorem Grant.dozeHold_byHold {n len p : Nat} {held : Timer} (h : g.hold = some (.byHold n held len p)) :
    g.dozeHold = { g with hold := some (.byHold n { held with due := false } len p) } := by
  unfold Grant.dozeHold
  rw [h]
  rfl

theorem enterDoze_clock (s : State) : (enterDoze s).clock = { s.clock with
    regime := .doze, dozeEntry := some s.clock.partTime, wakeCause := none
    fastClock := if s.printer.inTransmission.isSome then s.clock.fastClock else .off } := rfl

theorem enterDoze_grant (s : State) (r : Resource) :
    ((enterDoze s).entry r).grant = (s.entry r).grant.map Grant.dozeHold := (mapGrants_custody ..).1

/-- A due scan falls in DOZE where part time is a multiple of 32 (R80, R173; log entry 32). -/
theorem enterDoze_keys (s : State) : (enterDoze s).keys = { s.keys with
    scanDue := s.keys.scanDue && decide (s.clock.partTime.toNat % 32 = 0) } := rfl

/-! ## The end of the DOZE reply (R172) -/

/-- The part as the DOZE reply leaves a link: its copy is gone, and no doze is pending. -/
def dozeReplySent (l : Link) (s : State) : State :=
  { s.setPort l { s.port l with inFlight := none } with clock := { s.clock with dozePending := false } }

theorem dozeReplySent_entryTest : EntryTest (dozeReplySent l s) ↔ EntryTest s := by
  have hbuffer (k : Link) : ((dozeReplySent l s).port k).rxBuffer = (s.port k).rxBuffer := by
    cases l <;> cases k <;> rfl
  unfold EntryTest
  simp only [hbuffer]
  rfl

theorem dozeReplySent_inFlight (l : Link) (s : State) : ((dozeReplySent l s).port l).inFlight = none := by
  cases l <;> rfl

theorem dozeReplySent_notices (l k : Link) (s : State) :
    ((dozeReplySent l s).port k).notices = (s.port k).notices := by
  cases l <;> cases k <;> rfl

/-- Once the reply has been shifted whole, the entry test decides (R172). -/
theorem exec_dozeReply_whole (hx : (s.port l).inFlight = some x) (hreply : x.source = .reply)
    (hwhole : x.phase = .sending x.frame.wireLength) (hok : x.frame.isDozeOk = true)
    (hpending : s.clock.dozePending = true) : exec (.frameComplete l) s = .next
      (if (dozeReplySent l s).mayDoze then enterDoze (dozeReplySent l s)
        else notifyLink .p (.dozeEnded .abandoned s.clock.partTime s.clock.partTime) (dozeReplySent l s)) := by
  have hshifted : x.whole = true := by simp [InFlight.whole, hwhole]
  have hends : frameComplete l s = dozeReplyCompleted (s.setPort l { s.port l with inFlight := none }) := by
    simp [frameComplete, hx, hshifted, reportCompletion, hreply, hok]
  exact congrArg _ (hends.trans (if_pos hpending))

/-- Settles O6: the handler's tests, and the two outcomes of the entry test. -/
theorem dozeIsEnteredOrAbandoned : Obligations.DozeIsEnteredOrAbandoned := by
  refine ⟨fun l f s h => ⟨fun hpending => exec_of_admitted rfl h rfl ?_, fun hpending hbusy =>
      exec_of_admitted rfl h rfl ?_, fun hpending hbridge hentries hprinter hdisplay =>
      exec_of_admitted rfl h rfl ?_⟩,
    fun l x s hx hreply hwhole hok hpending => ⟨fun htest => ?_, fun htest => ?_⟩⟩
  · simp [dozeHandler, hpending, refuse]
  · have hbusy' : (dropOldest l s).quiet = false := quiet_eq_false (by simpa using hbusy)
    simp [dozeHandler, hpending, hbusy', refuse]
  · have hquiet : (dropOldest l s).quiet = true := quiet_iff.mpr
      (by simp [hbridge, hentries, hprinter, hdisplay])
    simp [dozeHandler, hpending, hquiet]
  · have hexec := exec_dozeReply_whole hx hreply hwhole hok hpending
    rw [if_pos (mayDoze_iff.mpr (dozeReplySent_entryTest.mpr htest))] at hexec
    refine ⟨_, hexec, enterDoze_clock _, fun r g hg => ⟨g.dozeHold, ?_, Grant.dozeHold_granted,
      fun n held len p => Grant.dozeHold_byHold⟩, enterDoze_keys _, ?_, fun k => ?_⟩
    · exact (enterDoze_grant _ r).trans (congrArg (Option.map Grant.dozeHold) hg)
    · exact dozeReplySent_inFlight l s
    · exact dozeReplySent_notices l k s
  · have hexec := exec_dozeReply_whole hx hreply hwhole hok hpending
    rw [if_neg (fun hmay => htest (dozeReplySent_entryTest.mp (mayDoze_iff.mp hmay)))] at hexec
    refine ⟨_, hexec, by simp [dozeReplySent], by simp [dozeReplySent], ?_, fun hroom => ?_⟩
    · exact (notify_keeps _ _).1.trans (dozeReplySent_inFlight l s)
    · rw [notifyLink, notify_notices (by rwa [dozeReplySent_notices]), dozeReplySent_notices]

end Sys2Proof.Machine
end

section
/-! SUPPORT. The debounce of a scan, key by key, and the two-key limit (R81 to R83): what the accepted releases and
presses leave of every key, and how the presses fill the down set (O35). -/

namespace Sys2Proof.Machine

variable {now : BitVec 32} {d : Nat} {sample : BitVec 24} {keys : Vector KeyState 24} {i : Fin 24} {w : ScanWork}
  {l : List (Fin 24)}

/-! ## The down set (R82) -/

/-- Whether a key counts towards the down set. -/
def KeyState.inDown (k : KeyState) : Bool := k.standing == .down || k.standing == .suppressed

theorem downCount_eq_card (keys : Vector KeyState 24) :
    downCount keys = (Finset.univ.filter fun i : Fin 24 => keys[i].inDown = true).card := by
  rw [downCount, ← List.toFinset_card_of_nodup (nodup_filter_allKeys _), List.toFinset_filter]
  simp [allKeys, KeyState.inDown]

theorem downCount_congr {ks : Vector KeyState 24} (h : ∀ i : Fin 24, ks[i].inDown = keys[i].inDown) :
    downCount ks = downCount keys := by simp only [downCount_eq_card, h]

theorem set_key (keys : Vector KeyState 24) (i j : Fin 24) (k : KeyState) :
    (keys.set i k)[j] = if i = j then k else keys[j] := by simp [Vector.getElem_set, Fin.ext_iff]

/-- A key outside the down set that is written joins it or not. -/
theorem downCount_set (hi : keys[i].inDown = false) (k : KeyState) :
    downCount (keys.set i k) = if k.inDown then downCount keys + 1 else downCount keys := by
  split
  next hk =>
    rw [downCount_eq_card, downCount_eq_card, ← Finset.card_insert_of_notMem (a := i) (by simpa using hi)]
    congr 1
    ext j
    by_cases hj : i = j
    · subst hj; simp [-Fin.getElem_fin, set_key, hk]
    · simp [-Fin.getElem_fin, set_key, hj, Ne.symm hj]
  next hk =>
    refine downCount_congr fun j => ?_
    rw [set_key]
    split
    next hj => rw [← hj, hi, Bool.eq_false_iff.mpr hk]
    next => rfl

/-! ## Presses fill the down set up to two keys (R82, R83) -/

/-- A press accepted leaves its key DOWN while the down set has room, and BLOCKED elsewhere. -/
theorem acceptPress_keys (w : ScanWork) (i : Fin 24) : (acceptPress now w i).keys = w.keys.set i
    { w.keys[i] with standing := if downCount w.keys < 2 then .down else .blocked } := by
  by_cases h : downCount w.keys < 2 <;> simp [acceptPress, Config.downSetPlaces, h]

theorem acceptPress_standing (w : ScanWork) (i : Fin 24) : (acceptPress now w i).keys[i].standing =
    if downCount w.keys < 2 then .down else .blocked := by rw [acceptPress_keys, set_key, if_pos rfl]

theorem acceptPress_downCount (hi : w.keys[i].inDown = false) : downCount (acceptPress now w i).keys =
    if downCount w.keys < 2 then downCount w.keys + 1 else downCount w.keys := by
  rw [acceptPress_keys, downCount_set hi]
  by_cases h : downCount w.keys < 2 <;> simp [KeyState.inDown, h]

theorem foldl_acceptPress_downCount (hl : l.Nodup) (hup : ∀ i ∈ l, w.keys[i].inDown = false) :
    downCount (l.foldl (acceptPress now) w).keys = max (downCount w.keys) (min 2 (downCount w.keys + l.length)) := by
  induction l generalizing w with
  | nil => simp
  | cons i l ih =>
    obtain ⟨hi, hl⟩ := List.nodup_cons.mp hl
    have hrest : ∀ j ∈ l, (acceptPress now w i).keys[j].inDown = false := fun j hj => by
      rw [acceptPress_key_other w (ne_of_mem_of_not_mem hj hi).symm]
      exact hup j (List.mem_cons_of_mem i hj)
    rw [List.foldl_cons, ih hl hrest, acceptPress_downCount (hup i List.mem_cons_self), List.length_cons]
    split <;> omega

/-- Of an ascending list of presses a key sees those of lower code alone. -/
theorem foldl_acceptPress_standing (hl : l.Pairwise (· < ·)) (hup : ∀ j ∈ l, w.keys[j].inDown = false) (hi : i ∈ l) :
    (l.foldl (acceptPress now) w).keys[i].standing =
      if downCount w.keys + (l.filter fun j => decide (j < i)).length < 2 then .down else .blocked := by
  obtain ⟨before, later, rfl⟩ := List.append_of_mem hi
  obtain ⟨hbefore, hrest, hlt⟩ := List.pairwise_append.mp hl
  obtain ⟨hlater, -⟩ := List.pairwise_cons.mp hrest
  have hlow : (before ++ i :: later).filter (fun j => decide (j < i)) = before := by
    rw [List.filter_append, List.filter_eq_self.mpr fun j hj => decide_eq_true (hlt j hj i List.mem_cons_self),
      List.filter_eq_nil_iff.mpr, List.append_nil]
    intro j hj
    rcases List.mem_cons.mp hj with rfl | hj
    · simp
    · simpa using (hlater j hj).le
  have hlast : i ∉ later := fun hc => (hlater i hc).ne rfl
  have hnodup : (i :: later).Nodup := hrest.imp fun h => h.ne
  rw [hlow, List.foldl_append, List.foldl_cons,
    (foldl_acceptPress later (List.nodup_cons.mp hnodup).2 _).1 i hlast, acceptPress_standing,
    foldl_acceptPress_downCount (hbefore.imp fun h => h.ne) fun j hj => hup j (List.mem_append_left _ hj)]
  congr 1
  exact propext (by omega)

/-! ## A scan key by key (R81) -/

/-- The keys of a scan with their counts taken (R81). -/
def scanCounted (d : Nat) (sample : BitVec 24) (keys : Vector KeyState 24) : Vector KeyState 24 :=
  Vector.ofFn fun i => { keys[i] with count := keys[i].countAfter d (sample.getLsbD i.val) }

theorem scanCounted_key (d : Nat) (sample : BitVec 24) (keys : Vector KeyState 24) (i : Fin 24) :
    (scanCounted d sample keys)[i] = { keys[i] with count := keys[i].countAfter d (sample.getLsbD i.val) } := by
  simp [scanCounted]

/-- The releases a scan accepts, in ascending key code (R83). -/
def scanReleases (d : Nat) (sample : BitVec 24) (keys : Vector KeyState 24) : List (Fin 24) :=
  allKeys.filter fun i => scanAccepts d sample keys i && keys[i].standing != .up

/-- The presses a scan accepts, in ascending key code (R83). -/
def scanPresses (d : Nat) (sample : BitVec 24) (keys : Vector KeyState 24) : List (Fin 24) :=
  allKeys.filter fun i => scanAccepts d sample keys i && keys[i].standing == .up

/-- A scan once its releases are accepted (R83). -/
def scanReleased (d : Nat) (now : BitVec 32) (sample : BitVec 24) (keys : Vector KeyState 24) : ScanWork :=
  (scanReleases d sample keys).foldl (acceptRelease now) { keys := scanCounted d sample keys, records := [] }

theorem scanMatrix_eq (d : Nat) (now : BitVec 32) (sample : BitVec 24) (keys : Vector KeyState 24) :
    scanMatrix d now sample keys =
      (scanPresses d sample keys).foldl (acceptPress now) (scanReleased d now sample keys) := rfl

theorem mem_scanReleases :
    i ∈ scanReleases d sample keys ↔ scanAccepts d sample keys i = true ∧ keys[i].standing ≠ .up := by
  rw [scanReleases, mem_filter_allKeys, Bool.and_eq_true, bne_iff_ne]

theorem mem_scanPresses :
    i ∈ scanPresses d sample keys ↔ scanAccepts d sample keys i = true ∧ keys[i].standing = .up := by
  rw [scanPresses, mem_filter_allKeys, Bool.and_eq_true, beq_iff_eq]

theorem scanPresses_pairwise (d : Nat) (sample : BitVec 24) (keys : Vector KeyState 24) :
    (scanPresses d sample keys).Pairwise (· < ·) := (List.pairwise_lt_finRange 24).filter _

theorem scanPresses_nodup (d : Nat) (sample : BitVec 24) (keys : Vector KeyState 24) :
    (scanPresses d sample keys).Nodup := nodup_filter_allKeys _

/-- A scan accepts a key's level where it differs and the disagreements reach the setting (R81). -/
theorem scanAccepts_iff : scanAccepts d sample keys i = true ↔
    sample.getLsbD i.val ≠ (keys[i].standing != .up) ∧ d ≤ min (keys[i].count + 1) 4 := by
  rw [scanAccepts, KeyState.accepts, KeyState.disagrees, Bool.and_eq_true, bne_iff_ne, decide_eq_true_iff]

/-- A count runs on where the level differs and is not accepted yet (R81). -/
theorem KeyState.countAfter_eq (k : KeyState) (d : Nat) (pressed : Bool) : k.countAfter d pressed =
    if pressed ≠ (k.standing != .up) ∧ min (k.count + 1) 4 < d then min (k.count + 1) 4 else 0 := by
  by_cases hp : pressed = (k.standing != .up) <;> by_cases hd : d ≤ min (k.count + 1) 4 <;>
    simp [KeyState.countAfter, KeyState.accepts, KeyState.disagrees, hp, hd] <;> omega

theorem scanReleased_standing (d : Nat) (now : BitVec 32) (sample : BitVec 24) (keys : Vector KeyState 24)
    (i : Fin 24) : (scanReleased d now sample keys).keys[i].standing =
      if scanAccepts d sample keys i then .up else keys[i].standing := by
  obtain ⟨hup, hother, -⟩ := foldl_acceptRelease (now := now) (scanReleases d sample keys) (nodup_filter_allKeys _)
    { keys := scanCounted d sample keys, records := [] }
  by_cases hi : i ∈ scanReleases d sample keys
  · rw [scanReleased, hup i hi, if_pos (mem_scanReleases.mp hi).1]
  · rw [scanReleased, hother i hi, scanCounted_key]
    split
    next ha => exact not_not.mp fun hn => hi (mem_scanReleases.mpr ⟨ha, hn⟩)
    next => rfl

theorem accept_keeps_count (w : ScanWork) (i j : Fin 24) :
    (acceptRelease now w i).keys[j].count = w.keys[j].count
      ∧ (acceptPress now w i).keys[j].count = w.keys[j].count := by
  rw [acceptRelease_key, acceptPress_keys, set_key]
  by_cases hij : i = j <;> simp [hij]

theorem scanMatrix_count (d : Nat) (now : BitVec 32) (sample : BitVec 24) (keys : Vector KeyState 24) (i : Fin 24) :
    (scanMatrix d now sample keys).keys[i].count = keys[i].countAfter d (sample.getLsbD i.val) := by
  rw [scanMatrix_eq, foldl_keeps (fun w : ScanWork => w.keys[i].count) _ fun w j => (accept_keeps_count w j i).2,
    scanReleased, foldl_keeps (fun w : ScanWork => w.keys[i].count) _ fun w j => (accept_keeps_count w j i).1,
    scanCounted_key]

/-- A key with no accepted press is as its count and an accepted release leave it. -/
theorem scanMatrix_key (now : BitVec 32) (hi : i ∉ scanPresses d sample keys) :
    (scanMatrix d now sample keys).keys[i] =
      { standing := if scanAccepts d sample keys i then .up else keys[i].standing
        count := keys[i].countAfter d (sample.getLsbD i.val) } := by
  rw [← scanMatrix_count d now, ← scanReleased_standing d now, scanMatrix_eq,
    (foldl_acceptPress _ (scanPresses_nodup d sample keys) _).1 i hi]

/-- The down set once the releases are out of it (R83). -/
theorem scanReleased_downCount (d : Nat) (now : BitVec 32) (sample : BitVec 24) (keys : Vector KeyState 24) :
    downCount (scanReleased d now sample keys).keys = (allKeys.filter fun j =>
      (keys[j].standing == .down || keys[j].standing == .suppressed) && !scanAccepts d sample keys j).length := by
  rw [downCount]
  refine congrArg List.length (List.filter_congr fun j _ => ?_)
  rw [scanReleased_standing]
  cases scanAccepts d sample keys j <;> simp

theorem scanReleased_press (hi : i ∈ scanPresses d sample keys) :
    (scanReleased d now sample keys).keys[i].inDown = false := by
  rw [KeyState.inDown, scanReleased_standing, if_pos (mem_scanPresses.mp hi).1]
  rfl

/-- An accepted press leaves its key DOWN where the releases and the presses of lower code leave the down set room. -/
theorem scanMatrix_press (now : BitVec 32) (hi : i ∈ scanPresses d sample keys) :
    (scanMatrix d now sample keys).keys[i].standing =
      if (allKeys.filter fun j =>
            (keys[j].standing == .down || keys[j].standing == .suppressed) && !scanAccepts d sample keys j).length
          + (allKeys.filter fun j =>
            decide (j < i) && scanAccepts d sample keys j && keys[j].standing == .up).length < 2
      then .down else .blocked := by
  have hlower : (scanPresses d sample keys).filter (fun j => decide (j < i)) = allKeys.filter fun j =>
      decide (j < i) && scanAccepts d sample keys j && keys[j].standing == .up := by
    simp only [scanPresses, List.filter_filter, Bool.and_assoc]
  rw [scanMatrix_eq, foldl_acceptPress_standing (scanPresses_pairwise d sample keys)
    (fun j hj => scanReleased_press hj) hi, scanReleased_downCount, hlower]

/-- No scan leaves more than two keys in the down set (R82). -/
theorem scanMatrix_downCount (d : Nat) (now : BitVec 32) (sample : BitVec 24) (h : downCount keys ≤ 2) :
    downCount (scanMatrix d now sample keys).keys ≤ 2 := by
  have hreleased : downCount (scanReleased d now sample keys).keys ≤ downCount keys := by
    rw [scanReleased_downCount]
    exact (List.monotone_filter_right allKeys fun j hj => (Bool.and_eq_true_iff.mp hj).1).length_le
  rw [scanMatrix_eq, foldl_acceptPress_downCount (scanPresses_nodup d sample keys) fun j hj => scanReleased_press hj]
  omega

/-- Settles O35: a key with no accepted press by its count and its level, an accepted press by its place among the
presses, and the down set by the presses that fill it. -/
theorem scanDebouncesEveryKey : Obligations.ScanDebouncesEveryKey := by
  intro d now sample keys i after pressed
  have hkey (hi : i ∉ scanPresses d sample keys) : after = _ := scanMatrix_key now hi
  refine ⟨fun hagree => ?_, fun hdiffer hfew => ?_, fun hopen hdown hd => ?_, fun hpress hup hd => ?_,
    scanMatrix_downCount d now sample⟩
  · have ha : ¬ scanAccepts d sample keys i = true := fun ha => (scanAccepts_iff.mp ha).1 hagree
    rw [hkey fun hi => ha (mem_scanPresses.mp hi).1, if_neg ha, KeyState.countAfter_eq, if_neg fun h => h.1 hagree]
  · have ha : ¬ scanAccepts d sample keys i = true := fun ha => Nat.not_le.mpr hfew (scanAccepts_iff.mp ha).2
    rw [hkey fun hi => ha (mem_scanPresses.mp hi).1, if_neg ha, KeyState.countAfter_eq, if_pos ⟨hdiffer, hfew⟩]
  · have hdiffer : pressed ≠ (keys[i].standing != .up) := by
      rw [hopen, bne_iff_ne.mpr hdown]
      exact Bool.false_ne_true
    rw [hkey fun hi => hdown (mem_scanPresses.mp hi).2, if_pos (scanAccepts_iff.mpr ⟨hdiffer, hd⟩),
      KeyState.countAfter_eq, if_neg fun h => Nat.not_le.mpr h.2 hd]
  · have hdiffer : pressed ≠ (keys[i].standing != .up) := by rw [hpress, hup]; exact Bool.noConfusion
    have hi : i ∈ scanPresses d sample keys := mem_scanPresses.mpr ⟨scanAccepts_iff.mpr ⟨hdiffer, hd⟩, hup⟩
    have hstanding : after.standing = _ := scanMatrix_press now hi
    refine ⟨?_, ?_, fun accepted haccepted => ?_⟩
    · rw [scanMatrix_count, KeyState.countAfter_eq, if_neg fun h => Nat.not_le.mpr h.2 hd]
    · rw [hstanding]
      split
      · exact .inl rfl
      · exact .inr rfl
    · obtain rfl : accepted = scanAccepts d sample keys :=
        funext fun j => Bool.eq_iff_iff.mpr ((haccepted j).trans scanAccepts_iff.symm)
      rw [hstanding]
      split
      next hroom => exact iff_of_true rfl hroom
      next hfull => exact iff_of_false Standing.noConfusion hfull

end Sys2Proof.Machine
end

section
/-! SUPPORT. KEY_SETUP and MATCH_SETUP as functions of their bodies (R94, R96): O34. -/

namespace Sys2Proof.Machine

variable {l : Link} {f : Frame} {who : Subject} {s : State}

/-! ## The bytes of the two requests -/

theorem wakeModeOf_eq_none {b : Byte} : wakeModeOf b = none ↔ 3 ≤ b.toNat := by
  unfold wakeModeOf
  (repeat' split) <;> simp only [reduceCtorEq, false_iff, true_iff] <;> bv_omega

theorem wakeModeOf_of_lt {b : Byte} (h : b.toNat < 3) :
    wakeModeOf b = some (if b = 0 then .none else if b = 1 then .any else .matching) := by
  have hb : b = 0 ∨ b = 1 ∨ b = 2 := by bv_omega
  rcases hb with rfl | rfl | rfl <;> rfl

theorem matchModeOf_eq_none {b : Byte} : matchModeOf b = none ↔ 3 ≤ b.toNat := by
  unfold matchModeOf
  (repeat' split) <;> simp only [reduceCtorEq, false_iff, true_iff] <;> bv_omega

theorem matchModeOf_of_lt {b : Byte} (h : b.toNat < 3) :
    matchModeOf b = some (if b = 0 then .off else if b = 1 then .sequence else .hold) := by
  have hb : b = 0 ∨ b = 1 ∨ b = 2 := by bv_omega
  rcases hb with rfl | rfl | rfl <;> rfl

theorem matchModeOf_code {b : Byte} {m : MatchMode} (h : matchModeOf b = some m) : m.code = b := by
  unfold matchModeOf at h
  (repeat' split at h) <;> cases h <;> (subst_vars; rfl)

theorem matchModeOf_sequence {b : Byte} {m : MatchMode} (h : matchModeOf b = some m) : m = .sequence ↔ b = 1 := by
  unfold matchModeOf at h
  (repeat' split at h) <;> cases h <;> simp_all

theorem byte_toNat (b : Byte) : byte b.toNat = b := BitVec.eq_of_toNat_eq (by simp [byte])

/-- The code of a reply that repeats a limited value (R94, R96). -/
theorem okOr_limited (limited : Bool) {p : Prop} [Decidable p] (h : limited = true ↔ ¬ p) :
    okOr limited = if p then .ok else .clamped := by
  cases limited <;> simp_all [okOr]

/-! ## KEY_SETUP (R96) -/

theorem keySetupHandler_bad {db wb eb : Byte} (h : 3 ≤ wb.toNat ∨ 2 ≤ eb.toNat) :
    keySetupHandler l who [db, wb, eb] s = refuse .badRequest s := by
  rw [← wakeModeOf_eq_none, ← flagOf_eq_none] at h
  unfold keySetupHandler
  dsimp only
  split
  next hw he => simp [hw, he] at h
  next => rfl

theorem keySetupHandler_good {db wb eb : Byte} (hw : wb.toNat < 3) (he : eb.toNat < 2) {d : Nat}
    (hd : d = max 1 (min 4 db.toNat)) : keySetupHandler l who [db, wb, eb] s =
      ({ s with keys := { s.keys with settings :=
          { debounce := d
            wake := if wb = 0 then .none else if wb = 1 then .any else .matching
            echo := eb = 1 } } },
        replyBody (if d = db.toNat then .ok else .clamped) [byte d, wb, eb]) := by
  rw [← clampTo_eq (by decide)] at hd
  simp only [keySetupHandler, wakeModeOf_of_lt hw, flagOf_of_lt he, ← hd]
  rw [okOr_limited (d != db.toNat) (p := d = db.toNat) (by simp)]

/-! ## MATCH_SETUP (R94) -/

theorem matchBodyOk_iff {mode : MatchMode} {hc n : Byte} {es : List Byte} : matchBodyOk mode hc n es = true ↔
    n.toNat ≤ 6 ∧ es.length = n.toNat ∧ (∀ e ∈ es, e.toNat ≤ 24) ∧ hc ≠ 0 ∧ hc.toNat ≤ 24
      ∧ ¬ (mode = .sequence ∧ n = 0) := by
  have hn : 1 ≤ n.toNat ↔ n ≠ 0 := by bv_omega
  have hc : 1 ≤ hc.toNat ↔ hc ≠ 0 := by bv_omega
  simp only [matchBodyOk, Bool.and_eq_true, Bool.or_eq_true, List.all_eq_true, decide_eq_true_eq, beq_iff_eq,
    bne_iff_ne, hn, hc]
  tauto

theorem matchSetupHandler_bad {mb gh gl hc hh hl n : Byte} {es : List Byte}
    (h : 3 ≤ mb.toNat ∨ 6 < n.toNat ∨ es.length ≠ n.toNat ∨ (∃ e ∈ es, 24 < e.toNat) ∨ hc = 0 ∨ 24 < hc.toNat
      ∨ (mb = 1 ∧ n = 0)) :
    matchSetupHandler l who ([mb, gh, gl, hc, hh, hl, n] ++ es) s = refuse .badRequest s := by
  unfold matchSetupHandler
  dsimp only [List.cons_append, List.nil_append]
  split
  next => rfl
  next mode hmode =>
    refine if_pos fun hok => ?_
    obtain ⟨hn, hlen, hes, hc0, hc24, hseq⟩ := matchBodyOk_iff.mp hok
    rw [matchModeOf_sequence hmode] at hseq
    rcases h with h | h | h | ⟨e, he, h⟩ | h | h | h
    · rw [← matchModeOf_eq_none, hmode] at h
      cases h
    · omega
    · exact h hlen
    · exact absurd (hes e he) (by omega)
    · exact hc0 h
    · omega
    · exact hseq h

theorem matchSetupHandler_good {mb gh gl hc hh hl n : Byte} {es : List Byte} (hm : mb.toNat < 3) (hn : n.toNat ≤ 6)
    (hlen : es.length = n.toNat) (hes : ∀ e ∈ es, e.toNat ≤ 24) (hc0 : hc ≠ 0) (hc24 : hc.toNat ≤ 24)
    (hseq : ¬ (mb = 1 ∧ n = 0)) {gap time : Nat} (hgap : gap = max 100 (min 5000 (number2 gh gl)))
    (htime : time = max 500 (min 10000 (number2 hh hl))) :
    matchSetupHandler l who ([mb, gh, gl, hc, hh, hl, n] ++ es) s =
      ({ s with keys := { s.keys with
          matching := { mode := if mb = 0 then .off else if mb = 1 then .sequence else .hold
                        gapLimit := gap, holdCode := hc.toNat, holdTime := time, sequence := es.map BitVec.toNat }
          position := 0, previousPress := none, holdTimer := none } },
        replyBody (if gap = number2 gh gl ∧ time = number2 hh hl then .ok else .clamped)
          ([mb] ++ bytes2 gap ++ [hc] ++ bytes2 time ++ [n] ++ es)) := by
  rw [← clampTo_eq (by decide)] at hgap htime
  have hmode := matchModeOf_of_lt hm
  set mode : MatchMode := if mb = 0 then .off else if mb = 1 then .sequence else .hold
  have hok : matchBodyOk mode hc n es = true :=
    matchBodyOk_iff.mpr ⟨hn, hlen, hes, hc0, hc24, by rwa [matchModeOf_sequence hmode]⟩
  have hbytes : (es.map BitVec.toNat).map byte = es := by simp [Function.comp_def, byte_toNat]
  have hcode : okOr (gap != number2 gh gl || time != number2 hh hl)
      = if gap = number2 gh gl ∧ time = number2 hh hl then .ok else .clamped :=
    okOr_limited _ (by simp [← not_and_or])
  simp only [matchSetupHandler, List.cons_append, List.nil_append, hmode, hok, not_true_eq_false, if_false,
    ← hgap, ← htime, hcode, MatchSettings.bytes, matchModeOf_code hmode, byte_toNat, List.length_map, hlen, hbytes]
  simp [resetMatcher]

/-- Settles O34: the two handlers' answers to a body that fails and to one that passes. -/
theorem keySettingsAreReplaced : Obligations.KeySettingsAreReplaced := by
  refine ⟨fun l f db wb eb s h hb => ?_, fun l f mb gh gl hc hh hl n es s h hb => ?_⟩
  · have hanswer {t : State} {c : ReplyCode} {data : List Byte}
        (ha : keySetupHandler l (requester l f.tenant) [db, wb, eb] (dropOldest l s) = (t, replyBody c data)) :
        exec (.keySetup l) s = .next (replied l f c data t) := congrArg _ (processRequest_admitted h (hb ▸ ha))
    exact ⟨fun hbad => hanswer (keySetupHandler_bad hbad),
      fun hw he d hd => hanswer (keySetupHandler_good hw he hd)⟩
  · have hanswer {t : State} {c : ReplyCode} {data : List Byte}
        (ha : matchSetupHandler l (requester l f.tenant) ([mb, gh, gl, hc, hh, hl, n] ++ es) (dropOldest l s)
          = (t, replyBody c data)) :
        exec (.matchSetup l) s = .next (replied l f c data t) := congrArg _ (processRequest_admitted h (hb ▸ ha))
    exact ⟨fun hbad => hanswer (matchSetupHandler_bad hbad), fun hm hn hlen hes hc0 hc24 hseq gap time hgap htime =>
      hanswer (matchSetupHandler_good hm hn hlen hes hc0 hc24 hseq hgap htime)⟩

end Sys2Proof.Machine
end

section
/-! SUPPORT. The law of the keys (R82, R85, R88, R90), and that every shared operation on custody keeps it: only the
grant and the turnover of KEYPAD touch what it reads, and a turnover flushes the key unit and cancels the KEY frame
before KEYPAD changes hands. -/

namespace Sys2Proof.Machine

variable {s t : State} {r : Resource} {l : Link}

/-! ## The frame in flight -/

theorem inFlightFrom_iff {src : FrameSource} :
    s.inFlightFrom l src = true ↔ ∃ x, (s.port l).inFlight = some x ∧ x.source = src := by
  unfold State.inFlightFrom
  split <;> simp_all

theorem inFlightFrom_congr (h : (t.port l).inFlight = (s.port l).inFlight) (src : FrameSource) :
    t.inFlightFrom l src = s.inFlightFrom l src := by simp only [State.inFlightFrom, h]

@[simp] theorem setCondition_inFlight (k : Link) (c : Condition) (s : State) (l : Link) :
    ((setCondition k c s).port l).inFlight = (s.port l).inFlight := (setCondition_keeps c k).1

@[simp] theorem notify_inFlight (k : Link) (n : Notice) (s : State) (l : Link) :
    ((notify k n s).port l).inFlight = (s.port l).inFlight := (notify_keeps n k).1

@[simp] theorem notifySubject_inFlight (who : Subject) (b : NoticeBody) (s : State) (l : Link) :
    ((notifySubject who b s).port l).inFlight = (s.port l).inFlight := notify_inFlight ..

@[simp] theorem notifyLink_inFlight (k : Link) (b : NoticeBody) (s : State) (l : Link) :
    ((notifyLink k b s).port l).inFlight = (s.port l).inFlight := notify_inFlight ..

@[simp] theorem completeTurnover_inFlight (r : Resource) (s : State) (l : Link) :
    ((completeTurnover r s).port l).inFlight = (s.port l).inFlight := (completeTurnover_keeps r s l).1

theorem setPort_inFlight {p : Port} (hp : p.inFlight = (s.port l).inFlight) (k : Link) :
    ((s.setPort l p).port k).inFlight = (s.port k).inFlight := by
  rw [setPort_port]
  split
  next hk => rw [hp, hk]
  next => rfl

@[simp] theorem withdrawAppWaiters_inFlight (r : Resource) (s : State) (l : Link) :
    ((withdrawAppWaiters r s).port l).inFlight = (s.port l).inFlight :=
  foldl_keeps (fun s : State => (s.port l).inFlight) _ (fun _ _ => by simp) _ _

/-! ## What the law reads -/

/-- What a state shares with one that meets the law of the keys. -/
theorem KeyLaw.congr (h : KeyLaw s) (hk : t.keys = s.keys) (hh : t.holder .keypad = s.holder .keypad)
    (hf : ∀ l, t.inFlightFrom l .key = true → s.inFlightFrom l .key = true) : KeyLaw t := by
  obtain ⟨hdown, hfifo, hflight, hrest⟩ := h
  unfold KeyLaw
  rw [hk, hh]
  exact ⟨hdown, hfifo, fun l hl => hflight l (hf l hl), hrest⟩

theorem KeyLaw.frame (h : KeyLaw s) (hk : t.keys = s.keys) (hc : t.custody.entries = s.custody.entries)
    (hp : ∀ l, (t.port l).inFlight = (s.port l).inFlight) : KeyLaw t :=
  h.congr hk (by simp only [State.holder, State.entry, hc]) fun l hl => by rwa [inFlightFrom_congr (hp l)] at hl

/-- The same with all the ports as they stand. -/
theorem KeyLaw.blocks (h : KeyLaw s) (hk : t.keys = s.keys) (hc : t.custody = s.custody) (hp : t.ports = s.ports) :
    KeyLaw t := h.frame hk (by rw [hc]) fun l => by rw [port_congr hp]

/-- A port may send what it sent before, or anything that is no KEY frame. -/
theorem KeyLaw.setPort (h : KeyLaw s) {p : Port}
    (hp : ∀ x, p.inFlight = some x → x.source = .key → s.inFlightFrom l .key = true) : KeyLaw (s.setPort l p) := by
  refine h.congr rfl rfl fun k hk => ?_
  obtain ⟨x, hx, hsrc⟩ := inFlightFrom_iff.mp hk
  rw [setPort_port] at hx
  split at hx
  next hkl => exact hkl ▸ hp x hx hsrc
  next => exact inFlightFrom_iff.mpr ⟨x, hx, hsrc⟩

/-- A port that goes on sending what it sent. -/
theorem KeyLaw.setPort_same (h : KeyLaw s) {p : Port} (hp : p.inFlight = (s.port l).inFlight) :
    KeyLaw (s.setPort l p) := h.frame rfl rfl (setPort_inFlight hp)

theorem KeyLaw.setPort_none (h : KeyLaw s) {p : Port} (hp : p.inFlight = none) : KeyLaw (s.setPort l p) :=
  h.setPort fun x hx => by rw [hp] at hx; cases hx

theorem KeyLaw.setEntry_other (h : KeyLaw s) (hr : r ≠ .keypad) (e : CustodyEntry) : KeyLaw (s.setEntry r e) :=
  h.congr rfl (holder_of_entry (by simp [setEntry_entry, hr.symm])) fun _ hl => hl

/-- Another list, or another lease, leaves the holder of KEYPAD. -/
theorem KeyLaw.setEntry_same (h : KeyLaw s) {e : CustodyEntry}
    (he : e.grant.map (·.holder) = (s.entry r).grant.map (·.holder)) : KeyLaw (s.setEntry r e) := by
  refine h.congr rfl ?_ fun _ hl => hl
  rw [State.holder, setEntry_entry]
  split
  next hr => rw [he, hr]; rfl
  next => rfl

theorem setGrant_keyLaw {g g' : Grant} (hg : (s.entry r).grant = some g) (hh : g'.holder = g.holder) (h : KeyLaw s) :
    KeyLaw (s.setGrant r g') := h.setEntry_same (by rw [hg, CustodyEntry.grant_owned]; simp [hh])

theorem setWaiting_keyLaw (r : Resource) (ws : List Waiter) (h : KeyLaw s) : KeyLaw (s.setWaiting r ws) :=
  h.setEntry_same rfl

theorem mapGrants_keyLaw {f : Grant → Grant} (hf : ∀ g, (f g).holder = g.holder) (h : KeyLaw s) :
    KeyLaw (mapGrants f s) := h.congr rfl (mapGrants_holder hf s .keypad) fun _ hl => hl

/-! ## Frames that are cancelled (R15) -/

theorem cancelInFlight_keyLaw (l : Link) (h : KeyLaw s) : KeyLaw (cancelInFlight l s) := by
  unfold cancelInFlight
  split
  · exact h
  · have hdrop : KeyLaw (s.setPort l { s.port l with inFlight := none }) := h.setPort_none rfl
    dsimp only
    split
    · exact hdrop.blocks (by simp) (by simp) (by simp)
    · split
      · exact hdrop.blocks rfl rfl rfl
      · exact hdrop
    · exact hdrop

theorem cancelFrom_keyLaw (l : Link) (src : FrameSource) (h : KeyLaw s) : KeyLaw (cancelFrom l src s) := by
  unfold cancelFrom
  split
  · exact cancelInFlight_keyLaw l h
  · exact h

/-! ## Turnovers but KEYPAD's (R56) -/

theorem completeTurnover_keyLaw (hr : r ≠ .keypad) (h : KeyLaw s) : KeyLaw (completeTurnover r s) := by
  have hkeys : (completeTurnover r s).keys = s.keys := by
    cases r with
    | keypad => exact absurd rfl hr
    | display | cless | printer => simp
  refine h.congr hkeys (holder_of_entry (completeTurnover_entry_other hr.symm)) fun l hl => ?_
  rwa [inFlightFrom_congr (completeTurnover_inFlight r s l)] at hl

theorem reportDisplayHead_keyLaw (h : KeyLaw s) : KeyLaw (reportDisplayHead s) := by
  unfold reportDisplayHead
  split
  · dsimp only
    split
    · exact completeTurnover_keyLaw (by decide) (h.blocks rfl rfl rfl)
    · exact h.blocks rfl rfl rfl
  · exact h

theorem changeWaiting_keyLaw (r : Resource) (ws : List Waiter) (h : KeyLaw s) : KeyLaw (changeWaiting r ws s) := by
  unfold changeWaiting
  dsimp only
  split
  · exact reportDisplayHead_keyLaw (setWaiting_keyLaw r ws h)
  · exact setWaiting_keyLaw r ws h

theorem runPrinter_keyLaw (h : KeyLaw s) : KeyLaw (runPrinter s) := by
  have hdrain : KeyLaw (endDrain s) := h.blocks (by simp) (by simp) (by simp)
  have hseparator : KeyLaw (endSeparator (endDrain s)) := by
    unfold endSeparator
    split
    · exact completeTurnover_keyLaw (by decide) (hdrain.blocks rfl rfl rfl)
    · exact hdrain
  exact hseparator.blocks (by simp [runPrinter]) (by simp [runPrinter]) (by simp [runPrinter])

theorem clessTurnover_keyLaw (old : Option Subject) (h : KeyLaw s) : KeyLaw (clessTurnover old s) := by
  unfold clessTurnover
  split
  case h_7 =>
    cases old with
    | none => exact h.blocks rfl rfl rfl
    | some who => exact (cancelFrom_keyLaw who.link .clResult h).blocks rfl rfl rfl
  all_goals exact h.blocks (by simp [beginFieldReset]) (by simp [beginFieldReset]) (by simp [beginFieldReset])

/-! ## KEYPAD's turnover and its start of a grant (R88, R90) -/

theorem KeyUnit.flushed_downCount (k : KeyUnit) : downCount k.flushed.keys = downCount k.keys :=
  downCount_congr fun i => by
    rw [KeyUnit.flushed_key, KeyState.inDown, KeyState.inDown]
    cases k.keys[i].standing <;> rfl

/-- KEYPAD's turnover leaves the law, whoever comes next, where the KEY frames in flight were the old holder's. -/
theorem keypadTurnover_keyLaw (old : Option Subject) (hdown : downCount s.keys.keys ≤ 2)
    (hflight : ∀ l, s.inFlightFrom l .key = true → old.map Subject.link = some l) :
    KeyLaw (keypadTurnover old s) := by
  have hkeys := keypadTurnover_keys old s
  obtain ⟨u, he, -, -, -, -, hport⟩ := keypadTurnover_eq old s
  refine ⟨?_, fun hf => absurd (hkeys ▸ rfl) hf, fun l hl => ?_, fun _ => ?_⟩
  · rw [hkeys, KeyUnit.flushed_downCount]
    exact hdown
  · rw [he, inFlightFrom_congr (completeTurnover_inFlight .keypad u l)] at hl
    obtain ⟨x, hx, hsrc⟩ := inFlightFrom_iff.mp hl
    rw [(hport l).2] at hx
    split at hx
    next => cases hx
    next hn =>
      have hfrom := inFlightFrom_iff.mpr ⟨x, hx, hsrc⟩
      exact absurd ⟨hflight l hfrom, hfrom⟩ hn
  · rw [hkeys]
    exact ⟨rfl, rfl, rfl⟩

theorem enterTurnover_keyLaw (r : Resource) (k : EndingKind) (h : KeyLaw s) : KeyLaw (enterTurnover r k s) := by
  unfold enterTurnover
  dsimp only
  cases r with
  | keypad =>
    obtain ⟨hdown, -, hflight, -⟩ := h
    exact keypadTurnover_keyLaw _ hdown hflight
  | display => exact reportDisplayHead_keyLaw (h.setEntry_other (by decide) _)
  | cless => exact clessTurnover_keyLaw _ (h.setEntry_other (by decide) _)
  | printer =>
    have hturn := h.setEntry_other (r := .printer) (by decide) { s.entry .printer with state := .turnover k }
    exact runPrinter_keyLaw (hturn.blocks rfl rfl rfl)

theorem startGrant_keypad_keys (who : Subject) (p : Nat) (o : BitVec 32) (f : Bool) (g : Gran) (s : State) :
    (startGrant .keypad who p o f g s).keys =
      if who = .pay then { s.keys with position := 0, previousPress := none, holdTimer := none } else s.keys := by
  unfold startGrant grantStarted
  dsimp only
  by_cases hp : who = .pay <;> simp [hp, resetMatcher]

/-- A grant of KEYPAD as no one holds it: no record waits, no KEY frame is in flight, and for PAY the matcher is set
at rest. -/
theorem startGrant_keypad_keyLaw {who : Subject} {p : Nat} {o : BitVec 32} {f : Bool} {g : Gran}
    (hn : s.holder .keypad = none) (h : KeyLaw s) : KeyLaw (startGrant .keypad who p o f g s) := by
  obtain ⟨hdown, hfifo, hflight, -⟩ := h
  rw [hn] at hfifo hflight
  have hempty : s.keys.fifo = [] := not_not.mp fun hc => by simpa using hfifo hc
  have hnone (l : Link) : ¬ s.inFlightFrom l .key = true := fun hl => by simpa using hflight l hl
  have hholder : (startGrant .keypad who p o f g s).holder .keypad = some who := by
    simp [State.holder, startGrant_entry, startLease]
  unfold KeyLaw
  rw [hholder, startGrant_keypad_keys]
  refine ⟨?_, fun _ => rfl, fun l hl => absurd hl (by simpa using hnone l), fun hp => ?_⟩
  · split <;> exact hdown
  · rw [if_pos (Option.some.inj hp)]
    exact ⟨rfl, rfl, rfl⟩

theorem startGrant_keyLaw {who : Subject} {p : Nat} {o : BitVec 32} {f : Bool} {g : Gran}
    (hn : r = .keypad → s.holder .keypad = none) (h : KeyLaw s) : KeyLaw (startGrant r who p o f g s) := by
  cases r with
  | keypad => exact startGrant_keypad_keyLaw (hn rfl) h
  | display | cless | printer => exact KeyLaw.blocks (h.setEntry_other (by decide) _) rfl rfl rfl

/-! ## The attention takeover (R60) -/

theorem placePay_keyLaw (r : Resource) (h : KeyLaw s) : KeyLaw (placePay r s) := by
  unfold placePay
  split
  · exact setWaiting_keyLaw _ _ h
  · exact setWaiting_keyLaw _ _ (h.frame rfl rfl fun _ => rfl)

theorem takeOver_keyLaw (hr : r = .keypad ∨ r = .display) (h : KeyLaw s) : KeyLaw (takeOver r s) := by
  unfold takeOver
  split
  · split
    · exact h
    · exact enterTurnover_keyLaw r .revoked (placePay_keyLaw r (h.frame (by simp) (by simp) (by simp)))
  · have hplaced : KeyLaw (placePay r (withdrawAppWaiters r s)) :=
      placePay_keyLaw r (h.frame (by simp) (by simp) (by simp))
    dsimp only
    split
    · exact reportDisplayHead_keyLaw hplaced
    · exact hplaced
  next hfree =>
    have hplaced := placePay_keyLaw r h
    rcases hr with rfl | rfl
    · have hnone : (placePay .keypad s).holder .keypad = none := by
        rw [State.holder, CustodyEntry.grant, placePay_state, hfree]
        rfl
      obtain ⟨hdown, -, hflight, -⟩ := hplaced
      exact keypadTurnover_keyLaw none hdown fun l hl => by simpa [hnone] using hflight l hl
    · exact enterTurnover_keyLaw .display .revoked hplaced

theorem attentionTakeover_keyLaw (h : KeyLaw s) : KeyLaw (attentionTakeover s) :=
  (takeOver_keyLaw (.inr rfl) (takeOver_keyLaw (.inl rfl) h)).frame (by simp [attentionTakeover])
    (by simp [attentionTakeover]) (by simp [attentionTakeover])

theorem reportMatch_keyLaw (h : KeyLaw s) : KeyLaw (reportMatch s) := by
  unfold reportMatch
  split
  · exact attentionTakeover_keyLaw h
  · exact h.frame rfl rfl fun _ => rfl

end Sys2Proof.Machine
end

section
/-! SUPPORT. Any law that the four operations of custody keep, and what else keeps it: the events of the lease
(R67, R68, R73), the ending of a standing (R31, R38), a policy write (R31 to R35), RELEASE and WITHDRAW (R52, R58), and
the requests on leases (R69 to R74). -/

namespace Sys2Proof.Machine

/-- A law kept by a lease that changes under its holder, by a notice, by a grant that ends, and by a waiting list that
changes. -/
structure KeptByCustody (P : State → Prop) : Prop where
  lease : ∀ {s r g g'}, (s.entry r).grant = some g → g'.holder = g.holder → P s → P (s.setGrant r g')
  notice : ∀ {s} who b, P s → P (notifySubject who b s)
  turnover : ∀ {s} r k, P s → P (enterTurnover r k s)
  waiting : ∀ {s} r ws, P s → P (changeWaiting r ws s)

namespace KeptByCustody

variable {P : State → Prop} {s : State} {r : Resource} {who : Subject}

/-! ## Events of the lease (R67, R68, R73) -/

theorem revokeGrant (hP : KeptByCustody P) (r : Resource) (why : RevokeReason) (p : Nat) (h : P s) :
    P (revokeGrant r why p s) := by
  unfold Machine.revokeGrant
  split
  · exact hP.turnover r .revoked (hP.notice _ _ h)
  · exact h

theorem expireHold (hP : KeptByCustody P) {g g' : Grant} (hg : (s.entry r).grant = some g)
    (hh : g'.holder = g.holder) (h : P s) : P (expireHold r g' s) :=
  hP.notice _ _ (hP.lease hg (by simp [hh]) h)

theorem quarterBoundary (hP : KeptByCustody P) (r : Resource) (h : P s) : P (quarterBoundary r s) := by
  unfold Machine.quarterBoundary
  split
  · exact h
  next g hg =>
    have hset {g' : Grant} (hh : g'.holder = g.holder) : P (s.setGrant r g') := hP.lease hg hh h
    dsimp only
    split
    · split
      · exact hP.revokeGrant r .lapsed 0 (hset rfl)
      · split
        · exact hP.notice _ _ (hset rfl)
        · exact hset rfl
    · exact h

theorem heldQuarter (hP : KeptByCustody P) (r : Resource) (h : P s) : P (heldQuarter r s) := by
  unfold Machine.heldQuarter
  split
  · exact h
  next g hg =>
    split
    · dsimp only
      split
      · split
        · exact hP.expireHold hg (by rfl) h
        · exact hP.lease hg (by rfl) h
      · exact h
    · exact h

/-! ## Standings that end, and policy writes (R31 to R38) -/

theorem tellStandingEnds (hP : KeptByCustody P) (who : Subject) (r : Resource) (h : P s) :
    P (tellStandingEnds who r s) := by
  unfold Machine.tellStandingEnds
  split
  · exact hP.notice _ _ h
  · split
    · exact hP.notice _ _ h
    · exact h

theorem dropStanding (hP : KeptByCustody P) (who : Subject) (r : Resource) (h : P s) : P (dropStanding who r s) := by
  unfold Machine.dropStanding
  split
  · exact hP.turnover r .revoked h
  · split
    · exact hP.waiting r _ h
    · exact h

theorem endAllStanding (hP : KeptByCustody P) (who : Subject) (h : P s) : P (endAllStanding who s) :=
  List.foldlRecOn _ _ (List.foldlRecOn _ _ h fun _ ht r _ => hP.tellStandingEnds who r ht)
    fun _ ht r _ => hP.dropStanding who r ht

theorem applyHoldLimit (hP : KeptByCustody P) (limit : Nat) (h : P s) : P (applyHoldLimit r limit s) := by
  unfold Machine.applyHoldLimit
  split
  · exact h
  next hg =>
    split
    · split
      · exact hP.expireHold hg rfl h
      · exact h
    · exact h

theorem policyOnHolder (hP : KeptByCustody P) (old new : PolicyEntry) (h : P s) :
    P (policyOnHolder who r old new s) := by
  unfold Machine.policyOnHolder
  split
  · exact h
  next g hg =>
    split
    · have hgrans : P (if new.grans ≠ old.grans then s.setGrant r (g.admitGrans new.grans) else s) := by
        split
        · exact hP.lease hg (by simp) h
        · exact h
      have hlimit {t : State} (ht : P t) : P
          (if new.holdLimit < old.holdLimit then Machine.applyHoldLimit r new.holdLimit t else t) := by
        split
        · exact hP.applyHoldLimit _ ht
        · exact ht
      have hboth := hlimit hgrans
      dsimp only
      split
      · split
        next hg' => exact hP.lease hg' rfl hboth
        next => exact hboth
      · exact hboth
    · exact h

theorem policyEffects (hP : KeptByCustody P) (old new : PolicyEntry) (h : P s) :
    P (policyEffects who r old new s) := by
  unfold Machine.policyEffects
  split
  · exact hP.dropStanding who r (hP.tellStandingEnds who r h)
  · have hholder := hP.policyOnHolder (who := who) (r := r) old new h
    unfold policyOnWaiter
    dsimp only
    split
    · exact hP.waiting r _ hholder
    · exact hholder

/-! ## Requests (R52, R58, R69 to R74) -/

theorem releaseHandler (hP : KeptByCustody P) (l : Link) (w : Subject) (b : List Byte) (h : P s) :
    P (releaseHandler l w b s).1 := by
  unfold Machine.releaseHandler
  split
  · split
    · exact h
    · split
      · exact hP.turnover _ .released h
      · exact h
  · exact h

theorem withdrawHandler (hP : KeptByCustody P) (l : Link) (w : Subject) (b : List Byte) (h : P s) :
    P (withdrawHandler l w b s).1 := by
  unfold Machine.withdrawHandler
  split
  · split
    · exact h
    · split
      · exact hP.waiting _ _ h
      · exact h
  · exact h

theorem leaseRequests (hP : KeptByCustody P) (l : Link) (w : Subject) (b : List Byte) (h : P s) :
    P (renewHandler l w b s).1 ∧ P (setGrainHandler l w b s).1 ∧ P (holdHandler l w b s).1
      ∧ P (resumeHandler l w b s).1 := leaseRequests_keep P (fun _ _ _ hg hh => hP.lease hg hh h) h

end KeptByCustody

end Sys2Proof.Machine
end

section
/-! SUPPORT. That every event, every request and every reference cycle keeps the law of the keys, and so every step
(O54). -/

namespace Sys2Proof.Machine

variable {s t : State} {r : Resource} {l : Link}

/-! ## Events that leave the frames in flight -/

@[simp] theorem placeReply_inFlight (l : Link) (f : Frame) (s : State) (k : Link) :
    ((placeReply l f s).port k).inFlight = (s.port k).inFlight := setPort_inFlight (by rfl) k

@[simp] theorem dropOldest_inFlight (l : Link) (s : State) (k : Link) :
    ((dropOldest l s).port k).inFlight = (s.port k).inFlight := setPort_inFlight (by rfl) k

@[simp] theorem processUnknown_inFlight (l : Link) (s : State) (k : Link) :
    ((processUnknown l s).port k).inFlight = (s.port k).inFlight := by
  unfold processUnknown
  (repeat' split) <;> simp

@[simp] theorem frameStall_inFlight (l : Link) (s : State) (k : Link) :
    ((frameStall l s).port k).inFlight = (s.port k).inFlight := by
  unfold frameStall
  (repeat' split) <;> simp [setPort_inFlight]

@[simp] theorem transferStart_inFlight (l : Link) (s : State) (k : Link) :
    ((transferStart l s).port k).inFlight = (s.port k).inFlight := by
  unfold transferStart
  split <;> simp [setPort_inFlight]

@[simp] theorem truncateAtEnd_inFlight (l : Link) (s : State) (k : Link) :
    ((truncateAtEnd l s).port k).inFlight = (s.port k).inFlight := by
  unfold truncateAtEnd
  split <;> simp [setPort_inFlight]

@[simp] theorem restartStallTimer_inFlight (l : Link) (s : State) (k : Link) :
    ((restartStallTimer l s).port k).inFlight = (s.port k).inFlight := by
  unfold restartStallTimer
  split <;> simp [setPort_inFlight]

@[simp] theorem beginByte_inFlight (l : Link) (s : State) (k : Link) :
    ((beginByte l s).port k).inFlight = (s.port k).inFlight := setPort_inFlight (by rfl) k

@[simp] theorem receiveByte_inFlight (l : Link) (b : Byte) (s : State) (k : Link) :
    ((receiveByte l b s).port k).inFlight = (s.port k).inFlight := by
  unfold receiveByte collectByte judgeFrame State.rxEnds
  (repeat' split) <;> simp [setPort_inFlight]

@[simp] theorem reportDrained_inFlight (s : State) (k : Link) :
    ((reportDrained s).port k).inFlight = (s.port k).inFlight := by
  unfold reportDrained
  (repeat' split) <;> simp

@[simp] theorem clfevEdge_inFlight (level : Bool) (s : State) (k : Link) :
    ((clfevEdge level s).port k).inFlight = (s.port k).inFlight := by
  unfold clfevEdge
  dsimp only
  (repeat' split) <;> simp

@[simp] theorem withdrawGrant_inFlight (f : RadioFn) (s : State) (k : Link) :
    ((withdrawGrant f s).port k).inFlight = (s.port k).inFlight := by simp [withdrawGrant, State.setRadio]

@[simp] theorem armingJudgeAll_inFlight (s : State) (k : Link) :
    ((armingJudgeAll s).port k).inFlight = (s.port k).inFlight := by
  have he (f : RadioFn) (s : State) : ((armingJudge f s).port k).inFlight = (s.port k).inFlight := by
    unfold armingJudge
    split <;> simp
  simp [armingJudgeAll, he]

@[simp] theorem slotBoundary_inFlight (s : State) (k : Link) :
    ((slotBoundary s).port k).inFlight = (s.port k).inFlight := by
  have he (f : RadioFn) (s : State) : ((boundaryJudge f s).port k).inFlight = (s.port k).inFlight := by
    unfold boundaryJudge
    (repeat' split) <;> simp
  unfold slotBoundary
  dsimp only
  split <;> simp [boundaryJudgeAll, he]

@[simp] theorem notifyDozeEnded_inFlight (c : WakeCause) (e : BitVec 32) (s : State) (k : Link) :
    ((notifyDozeEnded c e s).port k).inFlight = (s.port k).inFlight := by simp [notifyDozeEnded]

/-! ## Events of the lease, the panel, the printer and the bridge -/

theorem notifySubject_keyLaw (who : Subject) (b : NoticeBody) (h : KeyLaw s) : KeyLaw (notifySubject who b s) :=
  h.frame (by simp) (by simp) (by simp)

theorem notifyLink_keyLaw (k : Link) (b : NoticeBody) (h : KeyLaw s) : KeyLaw (notifyLink k b s) :=
  h.frame (by simp) (by simp) (by simp)

/-- The law of the keys is one that the operations of custody keep. -/
theorem keyLaw_keptByCustody : KeptByCustody KeyLaw where
  lease := setGrant_keyLaw
  notice := notifySubject_keyLaw
  turnover := enterTurnover_keyLaw
  waiting := changeWaiting_keyLaw

theorem switchDisplay_keyLaw (x : Source) (h : KeyLaw s) : KeyLaw (switchDisplay x s) :=
  completeTurnover_keyLaw (by decide) (h.blocks (by simp) (by simp) (by simp))

theorem fsyncEdge_keyLaw (h : KeyLaw s) : KeyLaw (fsyncEdge s) := by
  unfold fsyncEdge
  split
  · exact switchDisplay_keyLaw _ h
  · exact h

theorem forcedSwitch_keyLaw (h : KeyLaw s) : KeyLaw (forcedSwitch s) := by
  unfold forcedSwitch
  split
  · split
    · exact switchDisplay_keyLaw _ (h.frame (by simp) (by simp) (by simp))
    · exact h
  · exact h

theorem characterComplete_keyLaw (h : KeyLaw s) : KeyLaw (characterComplete s) := by
  unfold characterComplete
  split
  · exact h
  · exact runPrinter_keyLaw (h.frame (by simp) (by simp) (by simp))

theorem printerStall_keyLaw (h : KeyLaw s) : KeyLaw (printerStall s) := by
  unfold printerStall
  split
  · exact completeTurnover_keyLaw (by decide) (h.frame (by simp) (by simp) (by simp))
  · exact h

theorem fieldResetExpiry_keyLaw (h : KeyLaw s) : KeyLaw (fieldResetExpiry s) := by
  have hgate {t : State} (ht : KeyLaw t) : KeyLaw (judgeGate t) := ht.blocks (by simp) (by simp) (by simp)
  have hoff : KeyLaw { s with bridge := { s.bridge with fieldReset := none } } := h.blocks rfl rfl rfl
  unfold fieldResetExpiry
  split
  · split
    · dsimp only
      split
      · exact hgate (completeTurnover_keyLaw (by decide) hoff)
      · exact hgate hoff
    · exact h
  · exact h

/-! ## Scans and the matcher (R80 to R93) -/

theorem matchFound_keyLaw (h : KeyLaw s) : KeyLaw (matchFound s) :=
  reportMatch_keyLaw (h.blocks (by split <;> simp) (by split <;> simp) (by split <;> simp))

/-- The records of a scan leave the frames in flight. -/
theorem scanDelivered_inFlight (sample : BitVec 24) (s : State) (l : Link) :
    ((scanDelivered sample s).port l).inFlight = (s.port l).inFlight := by
  cases hh : s.holder .keypad with
  | none => rw [scanDelivered_free hh]; rfl
  | some who => rw [(scanDelivered_held hh sample).2 l]; rfl

/-- The records of a scan find room in the FIFO of a held KEYPAD alone (R85). -/
theorem scanMatched_fifo (sample : BitVec 24) (hn : s.holder .keypad = none) :
    (scanMatched sample s).1.fifo = s.keys.fifo := by
  have hfree : (scanDelivered sample s).keys.fifo = s.keys.fifo := by rw [scanDelivered_free hn]; rfl
  unfold scanMatched
  split
  · exact hfree
  · obtain ⟨p, b, t, hm⟩ := matchRecords_leaves s.clock.partTime (scanOf sample s).records
      (scanDelivered sample s).keys
    rw [hm]
    exact hfree

theorem scanMatched_keys (sample : BitVec 24) (s : State) :
    (scanMatched sample s).1.keys = (scanOf sample s).keys := by
  obtain ⟨f, b, hkeys⟩ := scanDelivered_keys sample s
  unfold scanMatched
  split
  · rw [hkeys]
  · obtain ⟨p, c, t, hm⟩ := matchRecords_leaves s.clock.partTime (scanOf sample s).records
      (scanDelivered sample s).keys
    rw [hm, hkeys]

/-- A scan event but for its match: records come to a holder alone, and PAY's do not reach the matcher. -/
theorem scanWoken_keyLaw (sample : BitVec 24) (h : KeyLaw s) : KeyLaw (scanWoken sample s) := by
  obtain ⟨hdown, hfifo, hflight, hrest⟩ := h
  obtain ⟨hkeys, hcustody, -, hports, -⟩ := scanWoken_frame sample s
  unfold KeyLaw
  rw [hkeys, holder_congr hcustody]
  refine ⟨?_, fun hf => ?_, fun l hl => hflight l ?_, fun hp => ?_⟩
  · rw [scanMatched_keys]
    exact scanMatrix_downCount _ _ _ hdown
  · cases hh : s.holder .keypad with
    | none => rw [scanMatched_fifo sample hh] at hf; exact hh ▸ hfifo hf
    | some who => rfl
  · have hsame := congrArg Port.inFlight (port_congr hports l)
    rwa [inFlightFrom_congr (hsame.trans (scanDelivered_inFlight sample s l))] at hl
  · obtain ⟨f, b, hd⟩ := scanDelivered_keys sample s
    rw [scanMatched_still sample (.inl hp), hd]
    exact hrest hp

theorem keyScan_keyLaw (sample : BitVec 24) (h : KeyLaw s) : KeyLaw (keyScan sample s) := by
  unfold keyScan
  split
  · rw [scanEvent_steps]
    split
    · exact matchFound_keyLaw (scanWoken_keyLaw sample h)
    · exact scanWoken_keyLaw sample h
  · exact h

theorem holdTimerMatch_keyLaw (h : KeyLaw s) : KeyLaw (holdTimerMatch s) := by
  obtain ⟨hdown, hfifo, hflight, hrest⟩ := id h
  unfold holdTimerMatch
  split
  · split
    · refine matchFound_keyLaw ⟨hdown, hfifo, hflight, fun hp => ?_⟩
      obtain ⟨hposition, hprevious, -⟩ := hrest hp
      exact ⟨hposition, hprevious, rfl⟩
    · exact h
  · exact h

/-! ## Transfers (R12 to R14) and the doze they bring about -/

/-- A KEY frame leaves on the holder's link alone; any other frame is no matter of the law. -/
theorem beginFrame_keyLaw (f : Frame) {src : FrameSource} (h : KeyLaw s)
    (hk : src = .key → (s.holder .keypad).map Subject.link = some l) : KeyLaw (beginFrame l f src s) := by
  obtain ⟨hdown, hfifo, hflight, hrest⟩ := h
  refine ⟨hdown, hfifo, fun k hl => ?_, hrest⟩
  obtain ⟨x, hx, hsrc⟩ := inFlightFrom_iff.mp hl
  rw [beginFrame, setPort_port] at hx
  split at hx
  next hkl =>
    cases hx
    rw [hkl]
    exact hk hsrc
  next => exact hflight k (inFlightFrom_iff.mpr ⟨x, hx, hsrc⟩)

/-- The oldest records leave the FIFO as a KEY frame to their holder (R86). -/
theorem sendKeys_keyLaw {who : Subject} (hs : s.keySource l = some who) (h : KeyLaw s) :
    KeyLaw (sendKeys l who s) := by
  have hlink : (s.holder .keypad).map Subject.link = some l := by
    unfold State.keySource at hs
    split at hs
    next hh =>
      split at hs
      next hl => rw [hh, Option.map_some, hl.1]
      next => cases hs
    next => cases hs
  obtain ⟨hdown, hfifo, hflight, hrest⟩ := h
  refine beginFrame_keyLaw _ ⟨hdown, fun hd => hfifo fun he => hd ?_, hflight, hrest⟩ fun _ => hlink
  rw [he]
  rfl

theorem sendRelay_keyLaw (l : Link) (level : Fin 4) (c : Fin 32) (h : KeyLaw s) : KeyLaw (sendRelay l level c s) := by
  unfold sendRelay
  split
  · refine beginFrame_keyLaw _ (h.blocks (by simp) (by simp) (by simp)) fun hk => ?_
    split at hk <;> cases hk
  · exact h

theorem chooseFrame_keyLaw (l : Link) (h : KeyLaw s) : KeyLaw (chooseFrame l s) := by
  have hnotice (n : Notice) : KeyLaw (sendNotice l n s) := beginFrame_keyLaw _ (h.setPort_same rfl) nofun
  unfold chooseFrame
  dsimp only
  split
  next x hx =>
    refine h.setPort fun y hy hsrc => inFlightFrom_iff.mpr ⟨x, hx, ?_⟩
    cases hy
    exact hsrc
  · split
    · exact hnotice _
    · exact beginFrame_keyLaw _ (h.setPort_same rfl) nofun
    · exact hnotice _
    · split
      next hs => exact sendKeys_keyLaw hs h
      · exact beginFrame_keyLaw _ (h.blocks rfl rfl rfl) nofun
      · exact sendRelay_keyLaw l _ _ h
      · exact h

theorem outboundChoice_keyLaw (l : Link) (h : KeyLaw s) : KeyLaw (outboundChoice l s) := by
  have hbyte {t : State} (ht : KeyLaw t) : KeyLaw (beginByte l t) := ht.setPort_same rfl
  unfold outboundChoice
  split
  · split
    · dsimp only
      split
      · exact hbyte (chooseFrame_keyLaw l (h.setPort_same rfl))
      · exact hbyte (h.setPort_same rfl)
    · exact h
  · exact h

theorem dozeReplyCompleted_keyLaw (h : KeyLaw s) : KeyLaw (dozeReplyCompleted s) := by
  unfold dozeReplyCompleted
  split
  · dsimp only
    split
    · exact mapGrants_keyLaw Grant.dozeHold_holder h
    · exact notifyLink_keyLaw _ _ (h.blocks rfl rfl rfl)
  · exact h

theorem frameComplete_keyLaw (l : Link) (h : KeyLaw s) : KeyLaw (frameComplete l s) := by
  unfold frameComplete
  split
  next x _ =>
    have hdrop : KeyLaw (s.setPort l { s.port l with inFlight := none }) := h.setPort_none rfl
    split
    · unfold reportCompletion
      split
      · split
        · exact dozeReplyCompleted_keyLaw hdrop
        · exact hdrop
      · exact hdrop.blocks (by simp) (by simp) (by simp)
      · exact hdrop
    · exact h
  next => exact h

theorem clockEdge_keyLaw (l : Link) (h : KeyLaw s) : KeyLaw (clockEdge l s) := by
  unfold clockEdge
  split
  · exact h
  · exact (outboundChoice_keyLaw l (frameComplete_keyLaw l h)).frame (by simp) (by simp) (by simp)

/-- The frame in flight moves on, and stays the frame it is. -/
theorem KeyLaw.setPort_map {p : Port} {f : InFlight → InFlight} (hf : ∀ x, (f x).source = x.source)
    (hp : p.inFlight = (s.port l).inFlight.map f) (h : KeyLaw s) : KeyLaw (s.setPort l p) := by
  refine h.setPort fun x hx hsrc => ?_
  rw [hp] at hx
  obtain ⟨y, hy, rfl⟩ := Option.map_eq_some_iff.mp hx
  exact inFlightFrom_iff.mpr ⟨y, hy, (hf y).symm.trans hsrc⟩

theorem InFlight.shift_source (x : InFlight) : x.shift.source = x.source := by
  unfold InFlight.shift
  split <;> rfl

theorem receiveByte_keyLaw (l : Link) (b : Byte) (h : KeyLaw s) : KeyLaw (receiveByte l b s) :=
  h.frame (by simp) (by simp) (by simp)

theorem moveByte_keyLaw (l : Link) (b : Byte) (h : KeyLaw s) : KeyLaw (moveByte l b s) := by
  unfold moveByte
  split
  · exact h
  · exact receiveByte_keyLaw l b ((clockEdge_keyLaw l h).setPort_map InFlight.shift_source (by rfl))

theorem arrive_keyLaw (l : Link) (a : Arrival) (h : KeyLaw s) : KeyLaw (arrive l a s) := by
  cases a with
  | edge => exact clockEdge_keyLaw l h
  | byte b => exact moveByte_keyLaw l b h

theorem transferEnd_keyLaw (l : Link) (h : KeyLaw s) : KeyLaw (transferEnd l s) := by
  unfold transferEnd
  split
  · exact h
  · have hend : KeyLaw (truncateAtEnd l (frameComplete l s)) :=
      (frameComplete_keyLaw l h).frame (by simp) (by simp) (by simp)
    exact hend.setPort_map (f := InFlight.park) (fun _ => rfl) rfl

/-! ## The timebase -/

theorem lockIfDue_keyLaw (h : KeyLaw s) : KeyLaw (lockIfDue s) := by
  have hrun {t : State} (ht : KeyLaw t) : KeyLaw (runPendingTakeover t) := by
    unfold runPendingTakeover
    split
    · exact attentionTakeover_keyLaw (ht.frame rfl rfl fun _ => rfl)
    · exact ht
  unfold lockIfDue
  split
  · split
    · have hlock := hrun (mapGrants_keyLaw Grant.dozeResume_holder
        (h.blocks (t := { s with clock := { s.clock with fastClock := .locked, regime := .run } }) rfl rfl rfl))
      unfold lockEvent
      dsimp only
      split
      · exact hlock.frame (by simp) (by simp) (by simp)
      · exact hlock.blocks rfl rfl rfl
    · exact h
  · exact h

theorem Port.tick_inFlight (p : Port) : p.tick.inFlight = p.inFlight := by
  unfold Port.tick
  split <;> rfl

theorem millisecond_keyLaw (h : KeyLaw s) : KeyLaw (millisecond s) := by
  obtain ⟨hdown, hfifo, hflight, hrest⟩ := h
  refine mapGrants_keyLaw (Grant.tick_holder _) ⟨hdown, hfifo, fun l hl => hflight l ?_, fun hp => ?_⟩
  · rwa [inFlightFrom_congr (s := s)] at hl
    cases l <;> exact Port.tick_inFlight _
  · obtain ⟨hposition, hprevious, htimer⟩ := hrest hp
    exact ⟨hposition, hprevious, by simp [KeyUnit.tick, htimer]⟩

/-- Every due event, in the order in which the model takes them (log entry 5). -/
theorem takeDue_keyLaw (h : KeyLaw s) : KeyLaw (takeDue s) := by
  have hstall : KeyLaw (frameStall .r (frameStall .a (frameStall .p s))) := h.frame (by simp) (by simp) (by simp)
  have hquarter := keyLaw_keptByCustody.quarterBoundary .printer (keyLaw_keptByCustody.quarterBoundary .cless
    (keyLaw_keptByCustody.quarterBoundary .display (keyLaw_keptByCustody.quarterBoundary .keypad hstall)))
  have hheld := keyLaw_keptByCustody.heldQuarter .printer (keyLaw_keptByCustody.heldQuarter .cless
    (keyLaw_keptByCustody.heldQuarter .display (keyLaw_keptByCustody.heldQuarter .keypad hquarter)))
  have hblink {t : State} (ht : KeyLaw t) : KeyLaw (blinkToggle t) := ht.blocks (by simp) (by simp) (by simp)
  have htimeout {t : State} (ht : KeyLaw t) : KeyLaw (exchangeTimeout t) := ht.blocks (by simp) (by simp) (by simp)
  have hslot {t : State} (ht : KeyLaw t) : KeyLaw (slotBoundary t) := ht.frame (by simp) (by simp) (by simp)
  exact lockIfDue_keyLaw (hslot (fieldResetExpiry_keyLaw (htimeout (printerStall_keyLaw (hblink
    (forcedSwitch_keyLaw (holdTimerMatch_keyLaw (keyScan_keyLaw _ hheld))))))))

theorem referenceCycle_keyLaw (h : KeyLaw s) : KeyLaw (referenceCycle s) := by
  have hdue := takeDue_keyLaw h
  unfold referenceCycle
  dsimp only
  split
  · exact hdue.blocks rfl rfl rfl
  · exact millisecond_keyLaw (hdue.blocks rfl rfl rfl)

theorem referenceCycles_keyLaw (n : Nat) (h : KeyLaw s) : KeyLaw (referenceCycles n s) := by
  induction n generalizing s with
  | zero => exact h
  | succ n ih => exact ih (referenceCycle_keyLaw h)

theorem fastClockLock_keyLaw (h : KeyLaw s) : KeyLaw (fastClockLock s) := by
  unfold fastClockLock
  split
  · split
    · exact lockIfDue_keyLaw (referenceCycles_keyLaw _ h)
    · exact h
  · exact h

theorem partReset_keyLaw (c : ResetCause) (s : State) : KeyLaw (partReset c s) := by
  have hnone (l : Link) : ((partReset c s).port l).inFlight = none := by cases l <;> rfl
  have hdown : downCount resetKeys.keys ≤ 2 := by decide
  refine ⟨hdown, fun hf => absurd rfl hf, fun l hl => ?_, fun _ => ⟨rfl, rfl, rfl⟩⟩
  obtain ⟨x, hx, -⟩ := inFlightFrom_iff.mp hl
  rw [hnone] at hx
  cases hx

end Sys2Proof.Machine
end

section
/-! SUPPORT. That every request keeps the law of the keys, and so every step (O54). -/

namespace Sys2Proof.Machine

variable {s : State} {r : Resource} {l : Link}

/-! ## Requests that leave custody and the key unit -/

theorem processWhere_keyLaw {mine : Frame → Bool} {k : ReqKind} {handler : Handler}
    (hh : ∀ w b t, KeyLaw t → KeyLaw (handler l w b t).1) (h : KeyLaw s) :
    KeyLaw (processWhere mine k handler l s) := by
  have hreply {t : State} (f : Frame) (ht : KeyLaw t) : KeyLaw (placeReply l f t) := ht.setPort_same rfl
  have hdrop : KeyLaw (dropOldest l s) := h.setPort_same rfl
  unfold processWhere
  split
  · split
    · unfold processFrame
      dsimp only
      split
      · exact hreply _ hdrop
      · exact hreply _ (hh _ _ _ hdrop)
    · exact h
  · exact h

/-- A request that leaves the ports, the custody unit and the key unit as they stand. -/
theorem frame_keyLaw {mine : Frame → Bool} {k : ReqKind} {handler : Handler}
    (hh : ∀ w b t, (handler l w b t).1.keys = t.keys ∧ (handler l w b t).1.custody = t.custody
      ∧ (handler l w b t).1.ports = t.ports) (h : KeyLaw s) : KeyLaw (processWhere mine k handler l s) :=
  processWhere_keyLaw (fun w b t ht => by
    obtain ⟨hkeys, hcustody, hports⟩ := hh w b t
    exact ht.blocks hkeys hcustody hports) h

theorem conditionsHandler_keyLaw (l : Link) (w : Subject) (b : List Byte) (h : KeyLaw s) :
    KeyLaw (conditionsHandler l w b s).1 := by
  unfold conditionsHandler
  (repeat' split) <;> first | exact h | exact h.setPort_same rfl

theorem conditionsEnableHandler_keyLaw (l : Link) (w : Subject) (b : List Byte) (h : KeyLaw s) :
    KeyLaw (conditionsEnableHandler l w b s).1 := by
  unfold conditionsEnableHandler
  (repeat' split) <;> first | exact h | exact h.setPort_same rfl

theorem clExchangeHandler_keyLaw (l : Link) (w : Subject) (b : List Byte) (h : KeyLaw s) :
    KeyLaw (clExchangeHandler l w b s).1 := by
  have harm (e t : Nat) (c : List Byte) : KeyLaw (armExchange w e t c s) :=
    h.frame (by simp) (by simp) (by simp [armExchange])
  unfold clExchangeHandler
  split
  · split
    · exact h
    · split
      · exact h
      · split
        · exact h
        · exact harm _ _ _
  · exact h

/-! ## The key unit's own requests (R94, R96) -/

theorem keySetupHandler_keyLaw (l : Link) (w : Subject) (b : List Byte) (h : KeyLaw s) :
    KeyLaw (keySetupHandler l w b s).1 := by
  unfold keySetupHandler
  (repeat' split) <;> exact h

theorem matchSetupHandler_keyLaw (l : Link) (w : Subject) (b : List Byte) (h : KeyLaw s) :
    KeyLaw (matchSetupHandler l w b s).1 := by
  obtain ⟨hdown, hfifo, hflight, -⟩ := id h
  unfold matchSetupHandler
  (repeat' split) <;> first | exact h | exact ⟨hdown, hfifo, hflight, fun _ => ⟨rfl, rfl, rfl⟩⟩

/-! ## Channels (R152 to R154, R162 to R164) -/

theorem chBindHandler_keyLaw (l : Link) (w : Subject) (b : List Byte) (h : KeyLaw s) :
    KeyLaw (chBindHandler l w b s).1 := by
  have hbind (c : Fin 32) (x : Binding) : KeyLaw (bindChannel c x s) := notifyLink_keyLaw _ _ (h.blocks rfl rfl rfl)
  unfold chBindHandler
  split
  · split
    · split
      · exact h
      · split
        · exact h
        · dsimp only
          split
          · exact h
          · exact hbind _ _
    · exact h
  · exact h

theorem unbindChannel_keyLaw (c : Fin 32) (h : KeyLaw s) : KeyLaw (unbindChannel c s) := by
  unfold unbindChannel
  split
  · exact h
  next b _ =>
    have hforward : KeyLaw (cancelFrom .r (.forward c) s) := cancelFrom_keyLaw _ _ h
    exact (cancelFrom_keyLaw b.owner.link (.deliver c) hforward).blocks rfl rfl rfl

theorem chUnbindHandler_keyLaw (l : Link) (w : Subject) (b : List Byte) (h : KeyLaw s) :
    KeyLaw (chUnbindHandler l w b s).1 := by
  have hclosed (c : Fin 32) : KeyLaw (notifyClosedRad c .unbind (unbindChannel c s)) :=
    notifyLink_keyLaw _ _ (unbindChannel_keyLaw c h)
  unfold chUnbindHandler
  split
  · split
    · exact h
    next c _ =>
      split
      · exact h
      · split
        · exact h
        next b _ =>
          dsimp only
          split
          · exact hclosed c
          · exact notifySubject_keyLaw _ _ (hclosed c)
  · exact h

theorem retireChannel_keyLaw (n : Fin 16) (c : Fin 32) (h : KeyLaw s) : KeyLaw (retireChannel n s c) := by
  unfold retireChannel
  split
  · split
    · exact notifySubject_keyLaw _ _ (notifyLink_keyLaw _ _ (unbindChannel_keyLaw c h))
    · exact h
  · exact h

theorem restartChannel_keyLaw (l : Link) (c : Fin 32) (h : KeyLaw s) : KeyLaw (restartChannel l s c) := by
  unfold restartChannel
  split
  · exact notifyLink_keyLaw _ _ (unbindChannel_keyLaw c h)
  · exact h

theorem resetChannel_keyLaw (before : State) (c : Fin 32) (h : KeyLaw s) : KeyLaw (resetChannel before s c) := by
  unfold resetChannel
  split
  next b _ => exact notifySubject_keyLaw _ _ ((cancelFrom_keyLaw b.owner.link (.deliver c) h).blocks rfl rfl rfl)
  next => exact h

/-! ## Policy and tenants (R31 to R39) -/

theorem tenantEffects_keyLaw (n : Fin 16) (old new : TenantState) (h : KeyLaw s) :
    KeyLaw (tenantEffects n old new s) := by
  have hend : KeyLaw (if old = .active ∧ new ≠ .active then endAllStanding (.app n) s else s) := by
    split
    · exact keyLaw_keptByCustody.endAllStanding _ h
    · exact h
  unfold tenantEffects
  dsimp only
  split
  · exact List.foldlRecOn _ _ hend fun _ ht c _ => retireChannel_keyLaw n c ht
  · exact hend

theorem policySetHandler_keyLaw (l : Link) (w : Subject) (b : List Byte) (h : KeyLaw s) :
    KeyLaw (policySetHandler l w b s).1 := by
  unfold policySetHandler
  split
  · split
    · split
      · exact h
      · exact keyLaw_keptByCustody.policyEffects _ _ (h.blocks rfl rfl rfl)
    · exact h
  · exact h

theorem tenantSetHandler_keyLaw (l : Link) (w : Subject) (b : List Byte) (h : KeyLaw s) :
    KeyLaw (tenantSetHandler l w b s).1 := by
  unfold tenantSetHandler
  split
  · split
    · exact h
    · dsimp only
      split
      · exact h
      · split
        · exact h
        · split
          · exact h
          · exact tenantEffects_keyLaw _ _ _ (h.blocks rfl rfl rfl)
  · exact h

/-! ## Claims (R46 to R50) -/

theorem takeArrival_keyLaw (h : KeyLaw s) : KeyLaw (takeArrival s).2 := h.frame rfl rfl fun _ => rfl

/-- A FREE KEYPAD has no holder, so its grant finds no record and no KEY frame (R48). -/
theorem claimFree_keyLaw (c : ClaimTerms) (hf : (s.entry c.resource).state = .free) (h : KeyLaw s) :
    KeyLaw (claimFree c s).1 := by
  unfold claimFree
  dsimp only
  split
  · exact enterTurnover_keyLaw _ _ (setWaiting_keyLaw _ _ (takeArrival_keyLaw h))
  · refine startGrant_keyLaw (fun hr => ?_) (takeArrival_keyLaw h)
    rw [hr] at hf
    change s.holder .keypad = none
    rw [State.holder, CustodyEntry.grant, hf]
    rfl

theorem claimTaken_keyLaw (c : ClaimTerms) (h : KeyLaw s) : KeyLaw (claimTaken c s).1 := by
  have hqueue : KeyLaw (claimQueue c s).1 := changeWaiting_keyLaw _ _ (takeArrival_keyLaw h)
  have hpreempt (g : Grant) : KeyLaw (claimPreempt c g s).1 :=
    keyLaw_keptByCustody.revokeGrant _ _ _ (setWaiting_keyLaw _ _ (takeArrival_keyLaw h))
  unfold claimTaken
  dsimp only
  (repeat' split) <;> first | exact h | exact hqueue | exact hpreempt _

theorem claimHandler_keyLaw (l : Link) (w : Subject) (b : List Byte) (h : KeyLaw s) :
    KeyLaw (claimHandler l w b s).1 := by
  have hdecide (c : ClaimTerms) : KeyLaw (decideClaim c s).1 := by
    unfold decideClaim
    dsimp only
    split
    · exact h
    · split
      · exact h
      · split
        next hf => exact claimFree_keyLaw c hf h
        next => exact claimTaken_keyLaw c h
  unfold claimHandler
  split
  · split
    · dsimp only
      split
      · exact h
      · split
        · exact h
        · exact hdecide _
    · exact h
  · exact h

/-! ## PRINT_FLUSH (R109) -/

theorem printFlushHandler_keyLaw (l : Link) (w : Subject) (b : List Byte) (h : KeyLaw s) :
    KeyLaw (printFlushHandler l w b s).1 := by
  unfold printFlushHandler
  split
  · exact runPrinter_keyLaw (h.blocks rfl rfl rfl)
  · exact h

/-! ## RESTART (R21, R64, R163, R164) -/

theorem restartLink_keyLaw (l : Link) (h : KeyLaw s) : KeyLaw (restartLink l s) := by
  unfold restartLink
  dsimp only
  split
  · exact cancelInFlight_keyLaw l ((h.blocks rfl rfl rfl).setPort_same rfl)
  · exact cancelInFlight_keyLaw l (h.setPort_same rfl)

theorem restartEntry_keyLaw (l : Link) (r : Resource) (h : KeyLaw s) : KeyLaw (restartEntry l s r) := by
  unfold restartEntry
  extract_lets ws held
  split
  · exact enterTurnover_keyLaw r .revoked (setWaiting_keyLaw r ws h)
  · split
    · exact changeWaiting_keyLaw r ws h
    · exact h

theorem restartHandler_keyLaw (l : Link) (w : Subject) (b : List Byte) (h : KeyLaw s) :
    KeyLaw (restartHandler l w b s).1 := by
  have hcustody : KeyLaw (restartCustody l (restartLink l s)) := by
    have hlink := restartLink_keyLaw l h
    unfold restartCustody
    split
    · exact hlink
    · exact List.foldlRecOn _ _ hlink fun _ ht r _ => restartEntry_keyLaw l r ht
  have hrelay : KeyLaw (restartRelay l s (restartCustody l (restartLink l s))) := by
    unfold restartRelay
    split
    · exact List.foldlRecOn _ _ hcustody fun _ ht c _ => resetChannel_keyLaw s c ht
    · exact List.foldlRecOn _ _ hcustody fun _ ht c _ => restartChannel_keyLaw l c ht
  exact hrelay.blocks (by simp [restartHandler]) (by simp [restartHandler]) (by simp [restartHandler])

theorem processPartReset_keyLaw (l : Link) (h : KeyLaw s) : KeyLaw (processPartReset l s) := by
  unfold processPartReset
  split
  · exact h
  · split
    · exact h
    · split
      · exact partReset_keyLaw .request s
      · split
        · exact h.frame (by simp) (by simp) (by simp)
        · exact h

/-! ## Every step -/

theorem after_keyLaw (c : Instr) (h : KeyLaw s) : KeyLaw (after c s) := by
  cases c
  case restart l => exact processWhere_keyLaw (fun w b _ ht => restartHandler_keyLaw l w b ht) h
  case policySet l => exact processWhere_keyLaw (fun w b _ ht => policySetHandler_keyLaw l w b ht) h
  case tenantSet l => exact processWhere_keyLaw (fun w b _ ht => tenantSetHandler_keyLaw l w b ht) h
  case claim l => exact processWhere_keyLaw (fun w b _ ht => claimHandler_keyLaw l w b ht) h
  case release l => exact processWhere_keyLaw (fun w b _ ht => keyLaw_keptByCustody.releaseHandler l w b ht) h
  case withdraw l => exact processWhere_keyLaw (fun w b _ ht => keyLaw_keptByCustody.withdrawHandler l w b ht) h
  case renew l => exact processWhere_keyLaw (fun w b _ ht => (keyLaw_keptByCustody.leaseRequests l w b ht).1) h
  case setGrain l => exact processWhere_keyLaw (fun w b _ ht => (keyLaw_keptByCustody.leaseRequests l w b ht).2.1) h
  case hold l => exact processWhere_keyLaw (fun w b _ ht => (keyLaw_keptByCustody.leaseRequests l w b ht).2.2.1) h
  case resume l => exact processWhere_keyLaw (fun w b _ ht => (keyLaw_keptByCustody.leaseRequests l w b ht).2.2.2) h
  case keySetup l => exact processWhere_keyLaw (fun w b _ ht => keySetupHandler_keyLaw l w b ht) h
  case matchSetup l => exact processWhere_keyLaw (fun w b _ ht => matchSetupHandler_keyLaw l w b ht) h
  case printFlush l => exact processWhere_keyLaw (fun w b _ ht => printFlushHandler_keyLaw l w b ht) h
  case conditions l => exact processWhere_keyLaw (fun w b _ ht => conditionsHandler_keyLaw l w b ht) h
  case conditionsEnable l => exact processWhere_keyLaw (fun w b _ ht => conditionsEnableHandler_keyLaw l w b ht) h
  case clExchange l => exact processWhere_keyLaw (fun w b _ ht => clExchangeHandler_keyLaw l w b ht) h
  case chBind l => exact processWhere_keyLaw (fun w b _ ht => chBindHandler_keyLaw l w b ht) h
  case chUnbind l => exact processWhere_keyLaw (fun w b _ ht => chUnbindHandler_keyLaw l w b ht) h
  case partReset l => exact processPartReset_keyLaw l h
  case pinReset => exact partReset_keyLaw .pin s
  case powerUp => exact partReset_keyLaw .power s
  case outboundChoice l => exact outboundChoice_keyLaw l h
  case frameComplete l => exact frameComplete_keyLaw l h
  case frameReceived l b => simp only [after]; split; exacts [moveByte_keyLaw l b h, h]
  case frameLengthAbandoned l b => simp only [after]; split; exacts [moveByte_keyLaw l b h, h]
  case transferEnd l => exact transferEnd_keyLaw l h
  case arrivingByte l a => exact arrive_keyLaw l a h
  case quarterBoundary r => exact keyLaw_keptByCustody.quarterBoundary r h
  case heldQuarter r => exact keyLaw_keptByCustody.heldQuarter r h
  case keyScan contacts => exact keyScan_keyLaw contacts h
  case holdTimerMatch => exact holdTimerMatch_keyLaw h
  case fsyncEdge => exact fsyncEdge_keyLaw h
  case forcedSwitch => exact forcedSwitch_keyLaw h
  case characterComplete => exact characterComplete_keyLaw h
  case printerStall => exact printerStall_keyLaw h
  case fieldResetExpiry => exact fieldResetExpiry_keyLaw h
  case partTimeTick => exact referenceCycles_keyLaw _ h
  case fastClockLock => exact fastClockLock_keyLaw h
  case transferStart | frameStall | unknownKind | blinkTimer | prdyActive | writeComplete | clrdyActive
      | exchangeTimeout | abortComplete | readComplete | clfevEdge | slotBoundary | txRequestRise
      | txRequestFall => exact h.frame (by simp [after]) (by simp [after]) (by simp [after])
  case time | policyGet | tenantGet | custodyQuery | print | printSetup | clSetup | airMap | airQuery | chQuery
      | chQuerySummary | send | data | doze => exact frame_keyLaw (fun _ _ _ => by simp) h

/-- Settles O54: every command and every reference cycle keeps the law of the keys. -/
theorem keysStayTheHolders : Obligations.KeysStayTheHolders := fun _ _ hstep _ hs =>
  step_keeps KeyLaw (fun _ _ h => h) (fun c _ h => after_keyLaw c h) (fun _ h => referenceCycle_keyLaw h) hstep hs

end Sys2Proof.Machine
end

section
/-! SUPPORT. The printer port's own operations, once for each case of its phase: when a character begins (R106), when a
turnover leaves DRAIN and SEPARATOR (R111, R112), and what the completion of a PRINTER turnover leaves of the port
(R56, R108). -/

namespace Sys2Proof.Machine

variable {s : State}

/-! ## A character begins (R106) -/

/-- A character may begin on an idle transmitter: PRDY is active and the fast clock LOCKED (R106, R169). -/
def State.mayPrint (s : State) : Bool := s.lines.prdy && s.fastLocked

theorem beginCharacter_blocked (h : s.printer.inTransmission ≠ none ∨ s.mayPrint = false) : beginCharacter s = s := by
  unfold beginCharacter
  refine if_neg fun ⟨hidle, hready, hclock⟩ => ?_
  rcases h with h | h
  · exact h hidle
  · simp [State.mayPrint, hready, hclock] at h

/-- With no byte to send, none begins. -/
theorem beginCharacter_empty
    (h : (if s.printer.phase = .separator then s.printer.separatorCopy else s.printer.fifo) = []) :
    beginCharacter s = s := by
  unfold beginCharacter
  split
  · split
    next hp => rw [if_pos hp] at h; rw [h]
    next hp => rw [if_neg hp] at h; rw [h]
  · rfl

theorem beginCharacter_fifo {c : Byte} {rest : List Byte} (hidle : s.printer.inTransmission = none)
    (hp : s.printer.phase ≠ .separator) (hf : s.printer.fifo = c :: rest) :
    beginCharacter s = { s with printer := { s.printer with
      inTransmission := if s.mayPrint then some c else none
      fifo := if s.mayPrint then rest else c :: rest } } := by
  by_cases hm : s.mayPrint = true
  · obtain ⟨hready, hclock⟩ := Bool.and_eq_true_iff.mp hm
    simp [beginCharacter, hidle, hready, hclock, hp, hf, hm]
  · rw [beginCharacter_blocked (.inr (by simpa using hm))]
    simp [hm, ← hidle, ← hf]

theorem beginCharacter_separator {c : Byte} {rest : List Byte} (hidle : s.printer.inTransmission = none)
    (hp : s.printer.phase = .separator) (hc : s.printer.separatorCopy = c :: rest) :
    beginCharacter s = { s with printer := { s.printer with
      inTransmission := if s.mayPrint then some c else none
      separatorCopy := if s.mayPrint then rest else c :: rest } } := by
  by_cases hm : s.mayPrint = true
  · obtain ⟨hready, hclock⟩ := Bool.and_eq_true_iff.mp hm
    simp [beginCharacter, hidle, hready, hclock, hp, hc, hm]
  · rw [beginCharacter_blocked (.inr (by simpa using hm))]
    simp [hm, ← hidle, ← hc]

/-- A character that begins is the next of the bytes that wait; all else of the port stands. -/
theorem beginCharacter_printer (s : State) :
    (beginCharacter s).printer = s.printer
      ∨ (s.printer.inTransmission = none ∧ ∃ c rest,
        (s.printer.phase = .separator ∧ s.printer.separatorCopy = c :: rest
          ∧ (beginCharacter s).printer = { s.printer with inTransmission := some c, separatorCopy := rest })
        ∨ (s.printer.phase ≠ .separator ∧ s.printer.fifo = c :: rest
          ∧ (beginCharacter s).printer = { s.printer with inTransmission := some c, fifo := rest })) := by
  unfold beginCharacter
  split
  next h =>
    split
    next hp =>
      split
      next c rest hc => exact .inr ⟨h.1, c, rest, .inl ⟨hp, hc, rfl⟩⟩
      next => exact .inl rfl
    next hp =>
      split
      next c rest hf => exact .inr ⟨h.1, c, rest, .inr ⟨hp, hf, rfl⟩⟩
      next => exact .inl rfl
  next => exact .inl rfl

/-! ## The completion of a PRINTER turnover (R56, R108) -/

/-- The grant that follows clears the drain report; nothing else of the port changes. -/
theorem completeTurnover_printerPort (s : State) : ∃ armed : Bool,
    (completeTurnover .printer s).printer = { s.printer with armed := armed }
      ∧ (armed = true → s.printer.armed = true) := by
  unfold completeTurnover
  split
  · exact ⟨s.printer.armed, rfl, id⟩
  · exact ⟨false, by simp [startGrant, grantStarted], nofun⟩

/-- The port's turnover ends: no phase, no stall timer (R112, R113). -/
def endPrinterTurnover (s : State) : State :=
  completeTurnover .printer { s with printer := { s.printer with phase := .none, stallTimer := none } }

/-- What the end of the port's turnover leaves, also where the next byte begins at once. -/
theorem endPrinterTurnover_outcome (s : State) :
    let t := beginCharacter (endPrinterTurnover s)
    t.printer.phase = .none ∧ t.printer.stallTimer = none
      ∧ t.holder .printer = (s.entry .printer).waiting.head?.map (·.subject) := by
  obtain ⟨armed, hport, -⟩ :=
    completeTurnover_printerPort { s with printer := { s.printer with phase := .none, stallTimer := none } }
  have hholder := (completeTurnover_outcome .printer
    { s with printer := { s.printer with phase := .none, stallTimer := none } }).2.1
  have hbegun := beginCharacter_printer (endPrinterTurnover s)
  rw [endPrinterTurnover, hport] at hbegun
  refine ⟨?_, ?_, by simpa [endPrinterTurnover] using hholder⟩
  all_goals
    rcases hbegun with h | ⟨-, c, rest, ⟨-, -, h⟩ | ⟨-, -, h⟩⟩ <;> rw [endPrinterTurnover, h]

/-! ## The port goes on (R111, R112) -/

theorem endDrain_busy (h : s.printer.inTransmission ≠ none) : endDrain s = s := if_neg fun hc => h hc.2.2

theorem endSeparator_busy (h : s.printer.inTransmission ≠ none) : endSeparator s = s := if_neg fun hc => h hc.2.2

/-- While a character is in transmission the port waits for its stop bit. -/
theorem runPrinter_busy (h : s.printer.inTransmission ≠ none) : runPrinter s = s := by
  rw [runPrinter, endDrain_busy h, endSeparator_busy h, beginCharacter_blocked (.inl h)]

/-- Outside a turnover, and within DRAIN while data waits, the port sends the next byte of the FIFO. -/
theorem runPrinter_fifo (hs : s.printer.phase ≠ .separator) (hd : s.printer.phase = .drain → s.printer.fifo ≠ []) :
    runPrinter s = beginCharacter s := by
  have hdrain : endDrain s = s := if_neg fun hc => hd hc.1 hc.2.1
  rw [runPrinter, hdrain, endSeparator, if_neg fun hc => hs hc.1]

/-- With a byte of the separator left, the port sends it. -/
theorem runPrinter_separator (hs : s.printer.phase = .separator) (hc : s.printer.separatorCopy ≠ []) :
    runPrinter s = beginCharacter s := by
  have hdrain : endDrain s = s := if_neg fun h => by rw [hs] at h; cases h.1
  rw [runPrinter, hdrain, endSeparator, if_neg fun h => hc h.2.1]

/-- The separator has gone out whole: the turnover ends (R112). -/
theorem runPrinter_separated (hidle : s.printer.inTransmission = none) (hs : s.printer.phase = .separator)
    (hc : s.printer.separatorCopy = []) : runPrinter s = beginCharacter (endPrinterTurnover s) := by
  have hdrain : endDrain s = s := if_neg fun h => by rw [hs] at h; cases h.1
  rw [runPrinter, hdrain, endSeparator, if_pos ⟨hs, hc, hidle⟩, endPrinterTurnover]

/-- The SEPARATOR phase begins with the whole separator to send (R111). -/
def beginSeparator (s : State) : State :=
  { s with printer := { s.printer with phase := .separator, separatorCopy := s.printer.separator } }

/-- Data and transmitter are empty in DRAIN: the SEPARATOR phase begins (R111). -/
theorem runPrinter_drained (hidle : s.printer.inTransmission = none) (hd : s.printer.phase = .drain)
    (hf : s.printer.fifo = []) : runPrinter s = runPrinter (beginSeparator s) := by
  have hdrain : endDrain s = beginSeparator s := if_pos ⟨hd, hf, hidle⟩
  have hstays : endDrain (beginSeparator s) = beginSeparator s := if_neg fun h => by cases h.1
  rw [runPrinter, runPrinter, hdrain, hstays]

/-- With no separator to send, the end of DRAIN is the turnover's end. -/
theorem runPrinter_drained_empty (hidle : s.printer.inTransmission = none) (hd : s.printer.phase = .drain)
    (hf : s.printer.fifo = []) (hs : s.printer.separator = []) :
    runPrinter s = beginCharacter (endPrinterTurnover (beginSeparator s)) := by
  rw [runPrinter_drained hidle hd hf, runPrinter_separated (by exact hidle) rfl (by exact hs)]

/-- With one, its first byte may begin. -/
theorem runPrinter_drained_separator {c : Byte} {rest : List Byte} (hidle : s.printer.inTransmission = none)
    (hd : s.printer.phase = .drain) (hf : s.printer.fifo = []) (hs : s.printer.separator = c :: rest) :
    runPrinter s = { s with printer := { s.printer with
      phase := .separator
      inTransmission := if s.mayPrint then some c else none
      separatorCopy := if s.mayPrint then rest else c :: rest } } := by
  have hcopy : (beginSeparator s).printer.separatorCopy = c :: rest := hs
  rw [runPrinter_drained hidle hd hf, runPrinter_separator rfl (by simp [hcopy]),
    beginCharacter_separator (by exact hidle) rfl hcopy]
  rfl

end Sys2Proof.Machine
end

section
/-! SUPPORT. The law of the printer port (R107, R111 to R113), and that every shared operation on custody keeps it: the
port is touched by PRINTER's own grants and turnovers alone, and each moves its phase and its stall timer with the
entry. -/

namespace Sys2Proof.Machine

variable {s t : State} {r : Resource}

/-! ## What the law reads -/

/-- Two entries alike in being FREE and in being in TURNOVER. -/
def CustodyEntry.Alike (e d : CustodyEntry) : Prop :=
  (e.standing = .turnover ↔ d.standing = .turnover) ∧ (e.state = .free ↔ d.state = .free)

theorem CustodyEntry.Alike.of_state {e d : CustodyEntry} (h : e.state = d.state) : e.Alike d := by
  unfold CustodyEntry.Alike CustodyEntry.standing
  rw [h]
  exact ⟨Iff.rfl, Iff.rfl⟩

/-- A grant record replaces another. -/
theorem CustodyEntry.Alike.of_owned {e : CustodyEntry} {g : Grant} (h : e.grant = some g) (g' : Grant)
    (ws : List Waiter) : CustodyEntry.Alike { state := .owned g', waiting := ws } e := by
  have hs := CustodyEntry.grant_eq_some.mp h
  simp [CustodyEntry.Alike, standing_eq_turnover, hs]

theorem CustodyEntry.mapGrant_alike (f : Grant → Grant) (e : CustodyEntry) : (e.mapGrant f).Alike e := by
  refine ⟨mapGrant_turnover, ?_⟩
  unfold CustodyEntry.mapGrant
  cases h : e.state <;> simp [h]

/-- The law reads the port, and of PRINTER's entry whether it is FREE and whether it is in TURNOVER. -/
theorem PrinterLaw.congr (h : PrinterLaw s) (hp : t.printer = s.printer)
    (he : (t.entry .printer).Alike (s.entry .printer)) : PrinterLaw t := by
  unfold PrinterLaw at *
  rw [hp, he.1, ne_eq (t.entry .printer).state, he.2]
  exact h

theorem PrinterLaw.entry_same (h : PrinterLaw s) (hp : t.printer = s.printer)
    (he : t.entry .printer = s.entry .printer) : PrinterLaw t := h.congr hp (.of_state (by rw [he]))

theorem PrinterLaw.frame (h : PrinterLaw s) (hp : t.printer = s.printer)
    (hc : t.custody.entries = s.custody.entries) : PrinterLaw t := h.entry_same hp (by simp only [State.entry, hc])

/-- An entry replaced by one that is alike, or by any where it is not PRINTER's. -/
theorem PrinterLaw.setEntry (h : PrinterLaw s) {e : CustodyEntry} (he : r = .printer → e.Alike (s.entry .printer)) :
    PrinterLaw (s.setEntry r e) := by
  refine h.congr rfl ?_
  rw [setEntry_entry]
  split
  next hr => exact he hr.symm
  next => exact .of_state rfl

theorem setGrant_printerLaw {g g' : Grant} (hg : (s.entry r).grant = some g) (h : PrinterLaw s) :
    PrinterLaw (s.setGrant r g') := h.setEntry fun hr => by subst hr; exact .of_owned hg _ _

theorem setWaiting_printerLaw (r : Resource) (ws : List Waiter) (h : PrinterLaw s) : PrinterLaw (s.setWaiting r ws) :=
  h.setEntry fun hr => by subst hr; exact .of_state rfl

theorem mapGrants_printerLaw (f : Grant → Grant) (h : PrinterLaw s) : PrinterLaw (mapGrants f s) :=
  h.congr rfl (by rw [mapGrants_entry]; exact CustodyEntry.mapGrant_alike f _)

/-- Outside PRINTER's turnover the port is at rest. -/
theorem PrinterLaw.rests (h : PrinterLaw s) (hn : (s.entry .printer).standing ≠ .turnover) :
    s.printer.phase = .none ∧ s.printer.stallTimer = none ∧ s.printer.separatorCopy = [] := by
  obtain ⟨hphase, hstall, hcopy, -, -⟩ := h
  have hnone : s.printer.phase = .none := not_not.mp fun hc => hn (hphase.mp hc)
  refine ⟨hnone, ?_, hcopy (by rw [hnone]; decide)⟩
  simpa [hnone] using hstall

theorem standing_of_holder (h : (s.holder r).isSome) : (s.entry r).standing ≠ .turnover := fun hc => by
  rw [State.holder, (CustodyEntry.grant_of_turnover hc).1] at h
  cases h

/-! ## The port's own operations (R106, R111, R112) -/

theorem beginCharacter_printerLaw (h : PrinterLaw s) : PrinterLaw (beginCharacter s) := by
  obtain ⟨hphase, hstall, hcopy, hsep, hfree⟩ := id h
  rcases beginCharacter_printer s with hp | ⟨-, c, rest, ⟨hs, -, hp⟩ | ⟨hs, hf, hp⟩⟩
  · exact h.frame hp (by simp)
  · unfold PrinterLaw
    rw [hp]
    exact ⟨by simpa using hphase, hstall, fun hn => absurd hs hn, hsep, by simpa using hfree⟩
  · unfold PrinterLaw
    rw [hp]
    exact ⟨by simpa using hphase, hstall, hcopy, fun hc => absurd hc hs, fun _ => by simpa using hfree (by simp [hf])⟩

theorem endDrain_printerLaw (h : PrinterLaw s) : PrinterLaw (endDrain s) := by
  unfold endDrain
  split
  next hd =>
    obtain ⟨hphase, hstall, -, -, -⟩ := h
    obtain ⟨hdrain, hempty, -⟩ := hd
    have hrun : s.printer.phase ≠ .none := by rw [hdrain]; decide
    exact ⟨⟨fun _ => hphase.mp hrun, fun _ => nofun⟩, ⟨fun _ => nofun, fun _ => hstall.mpr hrun⟩,
      fun hn => absurd rfl hn, fun _ => hempty, fun hf => absurd hempty hf⟩
  next => exact h

/-- PRINTER's turnover is complete where the port is at rest with nothing to send: the entry is FREE, or granted. -/
theorem completeTurnover_printer_printerLaw (hp : s.printer.phase = .none) (ht : s.printer.stallTimer = none)
    (hc : s.printer.separatorCopy = []) (hf : s.printer.fifo = []) : PrinterLaw (completeTurnover .printer s) := by
  obtain ⟨armed, hport, -⟩ := completeTurnover_printerPort s
  have hstands := (completeTurnover_outcome .printer s).1
  unfold PrinterLaw
  rw [hport]
  simp [hp, ht, hc, hf, hstands]

/-- The separator has gone out, and behind it no data (R112). -/
theorem endSeparator_printerLaw (h : PrinterLaw s) : PrinterLaw (endSeparator s) := by
  unfold endSeparator
  split
  next hd =>
    obtain ⟨-, -, -, hsep, -⟩ := h
    obtain ⟨hphase, hcopy, -⟩ := hd
    exact completeTurnover_printer_printerLaw rfl rfl hcopy (hsep hphase)
  next => exact h

theorem runPrinter_printerLaw (h : PrinterLaw s) : PrinterLaw (runPrinter s) :=
  beginCharacter_printerLaw (endSeparator_printerLaw (endDrain_printerLaw h))

/-- Data appended to the FIFO of a PRINTER that is neither FREE nor in TURNOVER, or discarded, and the report as it may
be (R107 to R109). -/
theorem PrinterLaw.setFifo (h : PrinterLaw s) {fifo : List Byte} {armed : Bool}
    (hf : fifo ≠ [] → (s.holder .printer).isSome) :
    PrinterLaw { s with printer := { s.printer with fifo := fifo, armed := armed } } := by
  obtain ⟨hphase, hstall, hcopy, -, -⟩ := id h
  refine ⟨hphase, hstall, hcopy, fun hs => ?_, fun hne hfree => ?_⟩
  · by_contra hne
    have hrest := (h.rests (standing_of_holder (hf hne))).1
    exact absurd (hrest.symm.trans hs) (by decide)
  · have hsome := hf hne
    have hstate : (s.entry .printer).state = .free := hfree
    simp [State.holder, CustodyEntry.grant, hstate] at hsome

/-! ## Grants and turnovers (R48, R51 to R56) -/

theorem completeTurnover_printerLaw (hr : r ≠ .printer) (h : PrinterLaw s) : PrinterLaw (completeTurnover r s) := by
  have hport : (completeTurnover r s).printer = s.printer := by
    cases r with
    | printer => exact absurd rfl hr
    | keypad | display | cless => simp
  exact h.entry_same hport (completeTurnover_entry_other hr.symm)

theorem reportDisplayHead_printerLaw (h : PrinterLaw s) : PrinterLaw (reportDisplayHead s) := by
  unfold reportDisplayHead
  split
  · dsimp only
    split
    · exact completeTurnover_printerLaw (by decide) (h.frame rfl rfl)
    · exact h.frame rfl rfl
  · exact h

theorem changeWaiting_printerLaw (r : Resource) (ws : List Waiter) (h : PrinterLaw s) :
    PrinterLaw (changeWaiting r ws s) := by
  unfold changeWaiting
  dsimp only
  split
  · exact reportDisplayHead_printerLaw (setWaiting_printerLaw r ws h)
  · exact setWaiting_printerLaw r ws h

theorem keypadTurnover_printerLaw (old : Option Subject) (h : PrinterLaw s) : PrinterLaw (keypadTurnover old s) := by
  unfold keypadTurnover
  dsimp only
  refine completeTurnover_printerLaw (by decide) ?_
  cases old <;> exact h.frame (by simp) (by simp)

/-- PRINTER enters TURNOVER with no separator byte left from an earlier one: DRAIN with the stall timer at 0 (R111). -/
theorem printerTurnover_printerLaw (k : EndingKind) (ht : (s.entry .printer).standing = .turnover)
    (hc : s.printer.separatorCopy = []) : PrinterLaw (printerTurnover k s) := by
  obtain ⟨k', hk⟩ := standing_eq_turnover.mp ht
  refine runPrinter_printerLaw ⟨⟨fun _ => ht, fun _ => nofun⟩, ⟨fun _ => nofun, fun _ => rfl⟩, fun _ => hc, nofun,
    fun _ hfree => ?_⟩
  have hstate : (s.entry .printer).state = .free := hfree
  rw [hk] at hstate
  cases hstate

/-- The ending of a grant: of PRINTER's, only while someone holds it, for then no separator goes out. -/
theorem enterTurnover_printerLaw (k : EndingKind) (hr : r = .printer → (s.entry .printer).standing ≠ .turnover)
    (h : PrinterLaw s) : PrinterLaw (enterTurnover r k s) := by
  unfold enterTurnover
  dsimp only
  have hother (hn : r ≠ .printer) : PrinterLaw (s.setEntry r { s.entry r with state := .turnover k }) :=
    h.setEntry fun hc => absurd hc hn
  cases r with
  | keypad => exact keypadTurnover_printerLaw _ (hother (by decide))
  | display => exact reportDisplayHead_printerLaw (hother (by decide))
  | cless => exact (hother (by decide)).frame (by simp) (by simp)
  | printer =>
    exact printerTurnover_printerLaw k (by simp [standing_eq_turnover]) (h.rests (hr rfl)).2.2

/-- A grant of a resource that is not in TURNOVER (R48). -/
theorem startGrant_printerLaw {who : Subject} {p : Nat} {o : BitVec 32} {f : Bool} {g : Gran}
    (hn : (s.entry r).standing ≠ .turnover) (h : PrinterLaw s) : PrinterLaw (startGrant r who p o f g s) := by
  have hentry := startGrant_entry r .printer who p o f g s
  cases r with
  | keypad | display | cless => exact h.entry_same (by simp) hentry
  | printer =>
    obtain ⟨hphase, hstall, hcopy⟩ := h.rests hn
    unfold PrinterLaw
    rw [startGrant_printer, hentry]
    simp [hphase, hstall, hcopy, standing_eq_turnover]

/-! ## The attention takeover (R60) -/

theorem placePay_printerLaw (r : Resource) (h : PrinterLaw s) : PrinterLaw (placePay r s) := by
  unfold placePay
  split
  · exact setWaiting_printerLaw _ _ h
  · exact setWaiting_printerLaw _ _ (h.frame rfl rfl)

theorem takeOver_printerLaw (hr : r = .keypad ∨ r = .display) (h : PrinterLaw s) : PrinterLaw (takeOver r s) := by
  have hturn {u : State} (hu : PrinterLaw u) : PrinterLaw (enterTurnover r .revoked (placePay r u)) :=
    enterTurnover_printerLaw .revoked (fun hc => by simp [hc] at hr) (placePay_printerLaw r hu)
  unfold takeOver
  split
  · split
    · exact h
    · exact hturn (h.frame (by simp) (by simp))
  · have hplaced : PrinterLaw (placePay r (withdrawAppWaiters r s)) :=
      placePay_printerLaw r (h.frame (by simp) (by simp))
    dsimp only
    split
    · exact reportDisplayHead_printerLaw hplaced
    · exact hplaced
  · rcases hr with rfl | rfl
    · exact keypadTurnover_printerLaw none (placePay_printerLaw .keypad h)
    · exact hturn h

theorem attentionTakeover_printerLaw (h : PrinterLaw s) : PrinterLaw (attentionTakeover s) :=
  (takeOver_printerLaw (.inr rfl) (takeOver_printerLaw (.inl rfl) h)).frame (by simp [attentionTakeover])
    (by simp [attentionTakeover])

theorem reportMatch_printerLaw (h : PrinterLaw s) : PrinterLaw (reportMatch s) := by
  unfold reportMatch
  split
  · exact attentionTakeover_printerLaw h
  · exact h.frame rfl rfl

end Sys2Proof.Machine
end

section
/-! SUPPORT. Any law that the operations of custody keep where a grant ends under its holder alone, and what else keeps
it: the events of the lease (R67, R68, R73), the ending of a standing (R31, R38), a policy write (R31 to R35), RELEASE
and WITHDRAW (R52, R58), and the requests on leases (R69 to R74). A turnover of an entry that is in TURNOVER already
would begin a second DRAIN or a second field reset, so the law of a serving block is not kept by it. -/

namespace Sys2Proof.Machine

/-- A law kept by a lease that changes under its holder, by a notice, by a grant that ends under its holder, and by a
waiting list that changes. -/
structure KeptUnderHolders (P : State → Prop) : Prop where
  lease : ∀ {s r g g'}, (s.entry r).grant = some g → g'.holder = g.holder → P s → P (s.setGrant r g')
  notice : ∀ {s} who b, P s → P (notifySubject who b s)
  turnover : ∀ {s} r k, (s.holder r).isSome → P s → P (enterTurnover r k s)
  waiting : ∀ {s} r ws, P s → P (changeWaiting r ws s)

namespace KeptUnderHolders

variable {P : State → Prop} {s : State} {r : Resource} {who : Subject}

theorem turnover_of_holds (hP : KeptUnderHolders P) (k : EndingKind) (hh : s.holds who r = true) (h : P s) :
    P (enterTurnover r k s) := hP.turnover r k (by rw [holds_iff.mp hh]; rfl) h

/-! ## Events of the lease (R67, R68, R73) -/

theorem revokeGrant (hP : KeptUnderHolders P) (r : Resource) (why : RevokeReason) (p : Nat) (h : P s) :
    P (revokeGrant r why p s) := by
  unfold Machine.revokeGrant
  split
  next hh => exact hP.turnover r .revoked (by simp [hh]) (hP.notice _ _ h)
  next => exact h

theorem expireHold (hP : KeptUnderHolders P) {g g' : Grant} (hg : (s.entry r).grant = some g)
    (hh : g'.holder = g.holder) (h : P s) : P (expireHold r g' s) :=
  hP.notice _ _ (hP.lease hg (by simp [hh]) h)

theorem quarterBoundary (hP : KeptUnderHolders P) (r : Resource) (h : P s) : P (quarterBoundary r s) := by
  unfold Machine.quarterBoundary
  split
  · exact h
  next hg =>
    dsimp only
    split
    · split
      · exact hP.revokeGrant r .lapsed 0 (hP.lease hg (by rfl) h)
      · split
        · exact hP.notice _ _ (hP.lease hg (by rfl) h)
        · exact hP.lease hg (by rfl) h
    · exact h

theorem heldQuarter (hP : KeptUnderHolders P) (r : Resource) (h : P s) : P (heldQuarter r s) := by
  unfold Machine.heldQuarter
  split
  · exact h
  next hg =>
    dsimp only
    (repeat' split) <;> first | exact h | exact hP.expireHold hg (by rfl) h | exact hP.lease hg (by rfl) h

/-! ## Standings that end, and policy writes (R31 to R38) -/

theorem tellStandingEnds (hP : KeptUnderHolders P) (who : Subject) (r : Resource) (h : P s) :
    P (tellStandingEnds who r s) := by
  unfold Machine.tellStandingEnds
  (repeat' split) <;> first | exact h | exact hP.notice _ _ h

theorem dropStanding (hP : KeptUnderHolders P) (who : Subject) (r : Resource) (h : P s) :
    P (dropStanding who r s) := by
  unfold Machine.dropStanding
  split
  next hh => exact hP.turnover_of_holds .revoked hh h
  next =>
    split
    · exact hP.waiting r _ h
    · exact h

theorem endAllStanding (hP : KeptUnderHolders P) (who : Subject) (h : P s) : P (endAllStanding who s) :=
  List.foldlRecOn _ _ (List.foldlRecOn _ _ h fun _ ht r _ => hP.tellStandingEnds who r ht)
    fun _ ht r _ => hP.dropStanding who r ht

theorem applyHoldLimit (hP : KeptUnderHolders P) (limit : Nat) (h : P s) : P (applyHoldLimit r limit s) := by
  unfold Machine.applyHoldLimit
  split
  · exact h
  next hg => (repeat' split) <;> first | exact h | exact hP.expireHold hg rfl h

/-- R33, then R35, then R32: each changes the holder's grant record alone. -/
theorem policyOnHolder (hP : KeptUnderHolders P) (old new : PolicyEntry) (h : P s) :
    P (policyOnHolder who r old new s) := by
  unfold Machine.policyOnHolder
  split
  · exact h
  next g hg =>
    split
    · have hgrans : P (if new.grans ≠ old.grans then s.setGrant r (g.admitGrans new.grans) else s) := by
        split
        · exact hP.lease hg (by simp) h
        · exact h
      have hlimit {t : State} (ht : P t) : P
          (if new.holdLimit < old.holdLimit then Machine.applyHoldLimit r new.holdLimit t else t) := by
        split
        · exact hP.applyHoldLimit _ ht
        · exact ht
      dsimp only
      split
      · split
        next hg' => exact hP.lease hg' rfl (hlimit hgrans)
        next => exact hlimit hgrans
      · exact hlimit hgrans
    · exact h

theorem policyEffects (hP : KeptUnderHolders P) (old new : PolicyEntry) (h : P s) :
    P (policyEffects who r old new s) := by
  unfold Machine.policyEffects policyOnWaiter
  dsimp only
  split
  · exact hP.dropStanding who r (hP.tellStandingEnds who r h)
  · split
    · exact hP.waiting r _ (hP.policyOnHolder old new h)
    · exact hP.policyOnHolder old new h

/-! ## Requests (R52, R58, R69 to R74) -/

theorem releaseHandler (hP : KeptUnderHolders P) (l : Link) (w : Subject) (b : List Byte) (h : P s) :
    P (releaseHandler l w b s).1 := by
  unfold Machine.releaseHandler
  (repeat' split) <;> first | exact h | exact hP.turnover_of_holds .released (by assumption) h

theorem withdrawHandler (hP : KeptUnderHolders P) (l : Link) (w : Subject) (b : List Byte) (h : P s) :
    P (withdrawHandler l w b s).1 := by
  unfold Machine.withdrawHandler
  (repeat' split) <;> first | exact h | exact hP.waiting _ _ h

theorem leaseRequests (hP : KeptUnderHolders P) (l : Link) (w : Subject) (b : List Byte) (h : P s) :
    P (renewHandler l w b s).1 ∧ P (setGrainHandler l w b s).1 ∧ P (holdHandler l w b s).1
      ∧ P (resumeHandler l w b s).1 := leaseRequests_keep P (fun _ _ _ hg hh => hP.lease hg hh h) h

end KeptUnderHolders

end Sys2Proof.Machine
end

section
/-! SUPPORT. That every event, every request and every reference cycle keeps the law of the printer port, and so every
step (O57). -/

namespace Sys2Proof.Machine

variable {s : State} {r : Resource} {l : Link}

/-- The law of the printer port is one that the operations of custody keep under their holders. -/
theorem printerLaw_keptUnderHolders : KeptUnderHolders PrinterLaw where
  lease := fun hg _ h => setGrant_printerLaw hg h
  notice := fun _ _ h => h.frame (by simp) (by simp)
  turnover := fun _ k hh h => enterTurnover_printerLaw k (fun hr => hr ▸ standing_of_holder hh) h
  waiting := changeWaiting_printerLaw

/-! ## Events of the panel, the printer and the bridge -/

theorem switchDisplay_printerLaw (x : Source) (h : PrinterLaw s) : PrinterLaw (switchDisplay x s) :=
  completeTurnover_printerLaw (by decide) (h.frame (by simp) (by simp))

theorem fsyncEdge_printerLaw (h : PrinterLaw s) : PrinterLaw (fsyncEdge s) := by
  unfold fsyncEdge
  split
  · exact switchDisplay_printerLaw _ h
  · exact h

theorem forcedSwitch_printerLaw (h : PrinterLaw s) : PrinterLaw (forcedSwitch s) := by
  unfold forcedSwitch
  split
  · split
    · exact switchDisplay_printerLaw _ (h.frame (by simp) (by simp))
    · exact h
  · exact h

theorem prdyLevel_printerLaw (level : Bool) (h : PrinterLaw s) : PrinterLaw (prdyLevel level s) := by
  have hline : PrinterLaw { s with lines := { s.lines with prdy := level } } := h
  unfold prdyLevel
  dsimp only
  split
  · exact beginCharacter_printerLaw hline
  · exact hline

/-- The stall timer restarts where it runs (R113). -/
theorem restartStall_printerLaw (h : PrinterLaw s) : PrinterLaw (restartStall s) := by
  unfold restartStall
  split
  · exact h
  next hn =>
    obtain ⟨hphase, -, hrest⟩ := h
    exact ⟨hphase, ⟨fun _ => hn, fun _ => rfl⟩, hrest⟩

theorem reportDrained_printerLaw (h : PrinterLaw s) : PrinterLaw (reportDrained s) := by
  have hclear : PrinterLaw { s with printer := { s.printer with armed := false } } := h
  unfold reportDrained
  split
  · split
    · exact hclear.frame (by simp) (by simp)
    · exact h
  · exact h

theorem characterComplete_printerLaw (h : PrinterLaw s) : PrinterLaw (characterComplete s) := by
  have hidle : PrinterLaw { s with printer := { s.printer with inTransmission := none } } := h
  unfold characterComplete
  split
  · exact h
  · exact runPrinter_printerLaw
      ((reportDrained_printerLaw (restartStall_printerLaw hidle)).frame (by simp) (by simp))

/-- The stall ends the turnover with nothing left to send (R113). -/
theorem printerStall_printerLaw (h : PrinterLaw s) : PrinterLaw (printerStall s) := by
  unfold printerStall
  split
  · exact completeTurnover_printer_printerLaw (by simp) (by simp) (by simp) (by simp)
  · exact h

theorem fieldResetExpiry_printerLaw (h : PrinterLaw s) : PrinterLaw (fieldResetExpiry s) := by
  have hgate {t : State} (ht : PrinterLaw t) : PrinterLaw (judgeGate t) := ht.frame (by simp) (by simp)
  have hoff : PrinterLaw { s with bridge := { s.bridge with fieldReset := none } } := h
  unfold fieldResetExpiry
  split
  · split
    · dsimp only
      split
      · exact hgate (completeTurnover_printerLaw (by decide) hoff)
      · exact hgate hoff
    · exact h
  · exact h

/-! ## Scans and the matcher (R80 to R93) -/

theorem matchFound_printerLaw (h : PrinterLaw s) : PrinterLaw (matchFound s) :=
  reportMatch_printerLaw (h.frame (by split <;> simp) (by split <;> simp))

theorem scanWoken_printerLaw (sample : BitVec 24) (h : PrinterLaw s) : PrinterLaw (scanWoken sample s) := by
  obtain ⟨-, hcustody, -⟩ := scanWoken_frame sample s
  refine h.frame ?_ (by rw [hcustody])
  unfold scanWoken scanDelivered scanSampled
  dsimp only
  split <;> simp

theorem keyScan_printerLaw (sample : BitVec 24) (h : PrinterLaw s) : PrinterLaw (keyScan sample s) := by
  unfold keyScan
  split
  · rw [scanEvent_steps]
    split
    · exact matchFound_printerLaw (scanWoken_printerLaw sample h)
    · exact scanWoken_printerLaw sample h
  · exact h

theorem holdTimerMatch_printerLaw (h : PrinterLaw s) : PrinterLaw (holdTimerMatch s) := by
  unfold holdTimerMatch
  split
  · split
    · exact matchFound_printerLaw (h.frame rfl rfl)
    · exact h
  · exact h

/-! ## Transfers (R12 to R14) and the doze they bring about -/

theorem dozeReplyCompleted_printerLaw (h : PrinterLaw s) : PrinterLaw (dozeReplyCompleted s) := by
  unfold dozeReplyCompleted
  split
  · dsimp only
    split
    · exact mapGrants_printerLaw Grant.dozeHold (h.frame rfl rfl)
    · exact h.frame (by simp) (by simp)
  · exact h

theorem frameComplete_printerLaw (l : Link) (h : PrinterLaw s) : PrinterLaw (frameComplete l s) := by
  unfold frameComplete
  split
  next x _ =>
    have hdrop : PrinterLaw (s.setPort l { s.port l with inFlight := none }) := h
    split
    · unfold reportCompletion
      split
      · split
        · exact dozeReplyCompleted_printerLaw hdrop
        · exact hdrop
      · exact hdrop.frame (by simp) (by simp)
      · exact hdrop
    · exact h
  next => exact h

theorem clockEdge_printerLaw (l : Link) (h : PrinterLaw s) : PrinterLaw (clockEdge l s) := by
  unfold clockEdge
  split
  · exact h
  · exact (frameComplete_printerLaw l h).frame (by simp) (by simp)

theorem moveByte_printerLaw (l : Link) (b : Byte) (h : PrinterLaw s) : PrinterLaw (moveByte l b s) := by
  unfold moveByte
  split
  · exact h
  · exact (clockEdge_printerLaw l h).frame (by simp) (by simp)

theorem arrive_printerLaw (l : Link) (a : Arrival) (h : PrinterLaw s) : PrinterLaw (arrive l a s) := by
  cases a with
  | edge => exact clockEdge_printerLaw l h
  | byte b => exact moveByte_printerLaw l b h

theorem transferEnd_printerLaw (l : Link) (h : PrinterLaw s) : PrinterLaw (transferEnd l s) := by
  unfold transferEnd
  split
  · exact h
  · exact (frameComplete_printerLaw l h).frame (by simp) (by simp)

/-! ## The timebase -/

theorem lockIfDue_printerLaw (h : PrinterLaw s) : PrinterLaw (lockIfDue s) := by
  have hrun {t : State} (ht : PrinterLaw t) : PrinterLaw (runPendingTakeover t) := by
    unfold runPendingTakeover
    split
    · exact attentionTakeover_printerLaw (ht.frame rfl rfl)
    · exact ht
  unfold lockIfDue
  split
  · split
    · have hlock := hrun (mapGrants_printerLaw Grant.dozeResume
        (h.frame (t := { s with clock := { s.clock with fastClock := .locked, regime := .run } }) rfl rfl))
      unfold lockEvent
      dsimp only
      split
      · exact hlock.frame (by simp) (by simp)
      · exact hlock
    · exact h
  · exact h

/-- The stall timer runs on, in a turnover alone (R113). -/
theorem millisecond_printerLaw (h : PrinterLaw s) : PrinterLaw (millisecond s) := by
  obtain ⟨hphase, hstall, hrest⟩ := h
  exact mapGrants_printerLaw _ ⟨hphase, by simpa [PrinterPort.tick] using hstall, hrest⟩

/-- Every due event, in the order in which the model takes them (log entry 5). -/
theorem takeDue_printerLaw (h : PrinterLaw s) : PrinterLaw (takeDue s) := by
  have hkept := printerLaw_keptUnderHolders
  have hframes : PrinterLaw (frameStall .r (frameStall .a (frameStall .p s))) := h.frame (by simp) (by simp)
  have hquarter := hkept.quarterBoundary .printer (hkept.quarterBoundary .cless
    (hkept.quarterBoundary .display (hkept.quarterBoundary .keypad hframes)))
  have hheld := hkept.heldQuarter .printer (hkept.heldQuarter .cless
    (hkept.heldQuarter .display (hkept.heldQuarter .keypad hquarter)))
  have hblink {t : State} (ht : PrinterLaw t) : PrinterLaw (blinkToggle t) := ht.frame (by simp) (by simp)
  have htimeout {t : State} (ht : PrinterLaw t) : PrinterLaw (exchangeTimeout t) := ht.frame (by simp) (by simp)
  have hslot {t : State} (ht : PrinterLaw t) : PrinterLaw (slotBoundary t) := ht.frame (by simp) (by simp)
  exact lockIfDue_printerLaw (hslot (fieldResetExpiry_printerLaw (htimeout (printerStall_printerLaw (hblink
    (forcedSwitch_printerLaw (holdTimerMatch_printerLaw (keyScan_printerLaw _ hheld))))))))

theorem referenceCycle_printerLaw (h : PrinterLaw s) : PrinterLaw (referenceCycle s) := by
  have hdue := takeDue_printerLaw h
  unfold referenceCycle
  dsimp only
  split
  · exact hdue
  · exact millisecond_printerLaw (hdue.frame rfl rfl)

theorem referenceCycles_printerLaw (n : Nat) (h : PrinterLaw s) : PrinterLaw (referenceCycles n s) := by
  induction n generalizing s with
  | zero => exact h
  | succ n ih => exact ih (referenceCycle_printerLaw h)

theorem fastClockLock_printerLaw (h : PrinterLaw s) : PrinterLaw (fastClockLock s) := by
  unfold fastClockLock
  split
  · split
    · exact lockIfDue_printerLaw (referenceCycles_printerLaw _ h)
    · exact h
  · exact h

theorem partReset_printerLaw (c : ResetCause) (s : State) : PrinterLaw (partReset c s) := by
  have hfree : (partReset c s).entry .printer = { state := .free, waiting := [] } := rfl
  unfold PrinterLaw
  rw [hfree]
  simp [partReset, resetPrinter, standing_eq_turnover]

/-! ## Requests -/

theorem processWhere_printerLaw {mine : Frame → Bool} {k : ReqKind} {handler : Handler}
    (hh : ∀ w b t, PrinterLaw t → PrinterLaw (handler l w b t).1) (h : PrinterLaw s) :
    PrinterLaw (processWhere mine k handler l s) :=
  processWhere_invariant PrinterLaw (fun _ _ ht => ht) (fun _ _ _ ht => hh _ _ _ ht) h

/-- A request that leaves the printer port and the custody unit as they stand. -/
theorem frame_printerLaw {mine : Frame → Bool} {k : ReqKind} {handler : Handler}
    (hh : ∀ w b t, (handler l w b t).1.printer = t.printer ∧ (handler l w b t).1.custody = t.custody)
    (h : PrinterLaw s) : PrinterLaw (processWhere mine k handler l s) :=
  processWhere_printerLaw (fun w b t ht => ht.frame (hh w b t).1 (by rw [(hh w b t).2])) h

/-! ### Policy and tenants (R31 to R39) -/

theorem tenantEffects_printerLaw (n : Fin 16) (old new : TenantState) (h : PrinterLaw s) :
    PrinterLaw (tenantEffects n old new s) := by
  have hend : PrinterLaw (if old = .active ∧ new ≠ .active then endAllStanding (.app n) s else s) := by
    split
    · exact printerLaw_keptUnderHolders.endAllStanding _ h
    · exact h
  unfold tenantEffects
  dsimp only
  split
  · exact List.foldlRecOn _ _ hend fun _ ht _ _ => ht.frame (by simp) (by simp)
  · exact hend

theorem policySetHandler_printerLaw (l : Link) (w : Subject) (b : List Byte) (h : PrinterLaw s) :
    PrinterLaw (policySetHandler l w b s).1 := by
  unfold policySetHandler
  split
  · split
    · split
      · exact h
      · exact printerLaw_keptUnderHolders.policyEffects _ _ (h.frame rfl rfl)
    · exact h
  · exact h

theorem tenantSetHandler_printerLaw (l : Link) (w : Subject) (b : List Byte) (h : PrinterLaw s) :
    PrinterLaw (tenantSetHandler l w b s).1 := by
  unfold tenantSetHandler
  dsimp only
  (repeat' split) <;> first | exact h | exact tenantEffects_printerLaw _ _ _ (h.frame rfl rfl)

/-! ### Claims (R46 to R50) -/

theorem claimFree_printerLaw (c : ClaimTerms) (hf : (s.entry c.resource).state = .free) (h : PrinterLaw s) :
    PrinterLaw (claimFree c s).1 := by
  have harrival : PrinterLaw (takeArrival s).2 := h
  have hstands : ((takeArrival s).2.entry c.resource).standing ≠ .turnover := fun hc => by
    obtain ⟨k, hk⟩ := standing_eq_turnover.mp hc
    exact absurd (hf.symm.trans hk) nofun
  unfold claimFree
  dsimp only
  split
  · exact enterTurnover_printerLaw _ nofun (setWaiting_printerLaw _ _ harrival)
  · exact startGrant_printerLaw hstands harrival

theorem claimTaken_printerLaw (c : ClaimTerms) (h : PrinterLaw s) : PrinterLaw (claimTaken c s).1 := by
  have harrival : PrinterLaw (takeArrival s).2 := h
  have hqueue : PrinterLaw (claimQueue c s).1 := changeWaiting_printerLaw _ _ harrival
  have hpreempt (g : Grant) : PrinterLaw (claimPreempt c g s).1 :=
    printerLaw_keptUnderHolders.revokeGrant _ _ _ (setWaiting_printerLaw _ _ harrival)
  unfold claimTaken
  dsimp only
  (repeat' split) <;> first | exact h | exact hqueue | exact hpreempt _

theorem claimHandler_printerLaw (l : Link) (w : Subject) (b : List Byte) (h : PrinterLaw s) :
    PrinterLaw (claimHandler l w b s).1 := by
  have hdecide (c : ClaimTerms) : PrinterLaw (decideClaim c s).1 := by
    unfold decideClaim
    dsimp only
    split
    · exact h
    · split
      · exact h
      · split
        next hf => exact claimFree_printerLaw c hf h
        next => exact claimTaken_printerLaw c h
  unfold claimHandler
  dsimp only
  (repeat' split) <;> first | exact h | exact hdecide _

/-! ### PRINT, PRINT_FLUSH and PRINT_SETUP (R107, R109, R110) -/

/-- Bytes are appended for PRINTER's holder alone. -/
theorem printHandler_printerLaw (l : Link) (w : Subject) (b : List Byte) (h : PrinterLaw s) :
    PrinterLaw (printHandler l w b s).1 := by
  unfold printHandler
  split
  · exact h
  next hh =>
    have hheld : s.holder .printer = some w := holds_iff.mp (not_not.mp hh)
    split
    · exact h
    · split
      · exact h
      · exact beginCharacter_printerLaw (h.setFifo fun _ => by rw [hheld]; rfl)

theorem printFlushHandler_printerLaw (l : Link) (w : Subject) (b : List Byte) (h : PrinterLaw s) :
    PrinterLaw (printFlushHandler l w b s).1 := by
  unfold printFlushHandler
  split
  · exact runPrinter_printerLaw (h.setFifo fun hne => absurd rfl hne)
  · exact h

theorem printSetupHandler_printerLaw (l : Link) (w : Subject) (b : List Byte) (h : PrinterLaw s) :
    PrinterLaw (printSetupHandler l w b s).1 := h

/-! ### RESTART (R21, R64) -/

theorem restartEntry_printerLaw (l : Link) (r : Resource) (h : PrinterLaw s) : PrinterLaw (restartEntry l s r) := by
  unfold restartEntry
  extract_lets ws held
  have hlist := setWaiting_printerLaw r ws h
  split
  next hheld =>
    refine printerLaw_keptUnderHolders.turnover r .revoked ?_ hlist
    have hholder : (s.setWaiting r ws).holder r = s.holder r := by
      rw [State.holder, setWaiting_entry_self]
      rfl
    rw [hholder]
    cases hs : s.holder r with
    | none => simp [held, hs] at hheld
    | some w => rfl
  next =>
    split
    · exact changeWaiting_printerLaw r ws h
    · exact h

theorem restartHandler_printerLaw (l : Link) (w : Subject) (b : List Byte) (h : PrinterLaw s) :
    PrinterLaw (restartHandler l w b s).1 := by
  have hcustody : PrinterLaw (restartCustody l (restartLink l s)) := by
    have hlink : PrinterLaw (restartLink l s) := h.frame (by simp) (by simp)
    unfold restartCustody
    split
    · exact hlink
    · exact List.foldlRecOn _ _ hlink fun _ ht r _ => restartEntry_printerLaw l r ht
  exact hcustody.frame (by simp [restartHandler]) (by simp [restartHandler])

theorem processPartReset_printerLaw (l : Link) (h : PrinterLaw s) : PrinterLaw (processPartReset l s) := by
  unfold processPartReset
  split
  · exact h
  · split
    · exact h
    · split
      · exact partReset_printerLaw .request s
      · split
        · exact h.frame (by simp) (by simp)
        · exact h

/-! ## Every step -/

theorem after_printerLaw (c : Instr) (h : PrinterLaw s) : PrinterLaw (after c s) := by
  have hkept := printerLaw_keptUnderHolders
  cases c
  case restart l => exact processWhere_printerLaw (fun w b _ ht => restartHandler_printerLaw l w b ht) h
  case policySet l => exact processWhere_printerLaw (fun w b _ ht => policySetHandler_printerLaw l w b ht) h
  case tenantSet l => exact processWhere_printerLaw (fun w b _ ht => tenantSetHandler_printerLaw l w b ht) h
  case claim l => exact processWhere_printerLaw (fun w b _ ht => claimHandler_printerLaw l w b ht) h
  case release l => exact processWhere_printerLaw (fun w b _ ht => hkept.releaseHandler l w b ht) h
  case withdraw l => exact processWhere_printerLaw (fun w b _ ht => hkept.withdrawHandler l w b ht) h
  case renew l => exact processWhere_printerLaw (fun w b _ ht => (hkept.leaseRequests l w b ht).1) h
  case setGrain l => exact processWhere_printerLaw (fun w b _ ht => (hkept.leaseRequests l w b ht).2.1) h
  case hold l => exact processWhere_printerLaw (fun w b _ ht => (hkept.leaseRequests l w b ht).2.2.1) h
  case resume l => exact processWhere_printerLaw (fun w b _ ht => (hkept.leaseRequests l w b ht).2.2.2) h
  case print l => exact processWhere_printerLaw (fun w b _ ht => printHandler_printerLaw l w b ht) h
  case printFlush l => exact processWhere_printerLaw (fun w b _ ht => printFlushHandler_printerLaw l w b ht) h
  case printSetup l => exact processWhere_printerLaw (fun w b _ ht => printSetupHandler_printerLaw l w b ht) h
  case partReset l => exact processPartReset_printerLaw l h
  case pinReset => exact partReset_printerLaw .pin s
  case powerUp => exact partReset_printerLaw .power s
  case frameComplete l => exact frameComplete_printerLaw l h
  case frameReceived l b => simp only [after]; split; exacts [moveByte_printerLaw l b h, h]
  case frameLengthAbandoned l b => simp only [after]; split; exacts [moveByte_printerLaw l b h, h]
  case transferEnd l => exact transferEnd_printerLaw l h
  case arrivingByte l a => exact arrive_printerLaw l a h
  case quarterBoundary r => exact hkept.quarterBoundary r h
  case heldQuarter r => exact hkept.heldQuarter r h
  case keyScan contacts => exact keyScan_printerLaw contacts h
  case holdTimerMatch => exact holdTimerMatch_printerLaw h
  case fsyncEdge => exact fsyncEdge_printerLaw h
  case forcedSwitch => exact forcedSwitch_printerLaw h
  case prdyActive level => exact prdyLevel_printerLaw level h
  case characterComplete => exact characterComplete_printerLaw h
  case printerStall => exact printerStall_printerLaw h
  case fieldResetExpiry => exact fieldResetExpiry_printerLaw h
  case partTimeTick => exact referenceCycles_printerLaw _ h
  case fastClockLock => exact fastClockLock_printerLaw h
  case transferStart | outboundChoice | frameStall | unknownKind | blinkTimer | writeComplete | clrdyActive
      | exchangeTimeout | abortComplete | readComplete | clfevEdge | slotBoundary | txRequestRise
      | txRequestFall => exact h.frame (by simp [after]) (by simp [after])
  case time | conditions | conditionsEnable | policyGet | tenantGet | custodyQuery | keySetup | matchSetup | clExchange
      | clSetup | airMap | airQuery | chBind | chUnbind | chQuery | chQuerySummary | send | data
      | doze => exact frame_printerLaw (fun _ _ _ => by simp) h

/-- Settles O57: every command and every reference cycle keeps the law of the printer port. -/
theorem printerFollowsCustody : Obligations.PrinterFollowsCustody := fun _ _ hstep hs =>
  step_keeps PrinterLaw (fun _ _ h => h) (fun c _ h => after_printerLaw c h) (fun _ h => referenceCycle_printerLaw h)
    hstep hs

end Sys2Proof.Machine
end

section
/-! SUPPORT. Print data and the separator on their way to the transmitter (R106 to R113): the requests of the printer
port, the level of PRDY, the end of a character within a grant and within a turnover, and the stall (O40, O41). -/

namespace Sys2Proof.Machine

variable {s t : State} {l : Link} {f : Frame} {who : Subject} {body : List Byte}

/-! ## PRINT, PRINT_FLUSH and PRINT_SETUP (R107, R109, R110) -/

theorem print_reply (h : Admitted .print l f s)
    (hh : printHandler l (requester l f.tenant) f.body (dropOldest l s) = (t, body)) :
    exec (.print l) s = .next (placeReply l (replyFrame f body) t) := congrArg _ (processRequest_admitted h hh)

theorem printFlush_reply (h : Admitted .printFlush l f s)
    (hh : printFlushHandler l (requester l f.tenant) f.body (dropOldest l s) = (t, body)) :
    exec (.printFlush l) s = .next (placeReply l (replyFrame f body) t) := congrArg _ (processRequest_admitted h hh)

theorem printHandler_notHolder (hh : s.holder .printer ≠ some who) :
    printHandler l who body s = refuse .notHolder s := if_pos fun hc => hh (holds_iff.mp hc)

theorem printHandler_held (hh : s.holder .printer = some who) (he : (s.entry .printer).standing = .held) :
    printHandler l who body s = refuse .held s := by
  rw [printHandler, if_neg (not_not.mpr (holds_iff.mpr hh)), if_pos he]

/-- The tests that the holder passes while GRANTED: only room is left to ask for. -/
theorem printHandler_granted (hh : s.holder .printer = some who) (he : (s.entry .printer).standing = .granted) :
    printHandler l who body s = if 4096 - s.printer.fifo.length < body.length then refuse .full s else
      (beginCharacter { s with printer := { s.printer with fifo := s.printer.fifo ++ body, armed := true } },
        replyBody .ok (bytes2 (4096 - (s.printer.fifo.length + body.length)))) := by
  rw [printHandler, if_neg (not_not.mpr (holds_iff.mpr hh)), if_neg (by rw [he]; decide), ← List.length_append]
  rfl

theorem printFlushHandler_notHolder (hh : s.holder .printer ≠ some who) (hp : who ≠ .pay) :
    printFlushHandler l who body s = refuse .notHolder s :=
  if_neg (not_or.mpr ⟨fun hc => hh (holds_iff.mp hc), hp⟩)

/-- The port with its FIFO discarded and the report CLEAR (R109). -/
def discardFifo (s : State) : State := { s with printer := { s.printer with fifo := [], armed := false } }

theorem printFlushHandler_flushes (hh : s.holder .printer = some who ∨ who = .pay) :
    printFlushHandler l who body s = (runPrinter (discardFifo s), replyBody .ok (bytes2 s.printer.fifo.length)) :=
  if_pos (hh.imp_left holds_iff.mpr)

/-- An admitted flush by the holder or PAY. -/
theorem printFlush_flushes (h : Admitted .printFlush l f s)
    (hh : s.holder .printer = some (requester l f.tenant) ∨ requester l f.tenant = .pay) :
    exec (.printFlush l) s = .next (replied l f .ok (bytes2 s.printer.fifo.length)
      (runPrinter (discardFifo (dropOldest l s)))) := printFlush_reply h (printFlushHandler_flushes hh)

/-- A port with no data and no report to send, and the given separator. -/
def PrinterPort.Discarded (separator : List Byte) (p : PrinterPort) : Prop :=
  p.fifo = [] ∧ p.armed = false ∧ p.separator = separator

/-- The port goes on after a flush without data, report or another separator. -/
theorem runPrinter_discarded {separator : List Byte} (h : s.printer.Discarded separator) :
    (runPrinter s).printer.Discarded separator := by
  have hdrain : (endDrain s).printer.Discarded separator := by
    unfold endDrain
    split <;> exact h
  have hsep : (endSeparator (endDrain s)).printer.Discarded separator := by
    unfold endSeparator
    split
    · obtain ⟨armed, hport, harmed⟩ := completeTurnover_printerPort
        { endDrain s with printer := { (endDrain s).printer with phase := .none, stallTimer := none } }
      obtain ⟨hfifo, hclear, hkept⟩ := hdrain
      rw [hport]
      exact ⟨hfifo, Bool.eq_false_iff.mpr fun ha => Bool.false_ne_true (hclear.symm.trans (harmed ha)), hkept⟩
    · exact hdrain
  obtain ⟨hfifo, hclear, hkept⟩ := id hsep
  rcases beginCharacter_printer (endSeparator (endDrain s)) with hp | ⟨-, c, rest, ⟨-, -, hp⟩ | ⟨-, hf, -⟩⟩
  · rw [runPrinter, hp]
    exact hsep
  · rw [runPrinter, hp]
    exact ⟨hfifo, hclear, hkept⟩
  · rw [hfifo] at hf
    cases hf

/-! ## PRDY (R106) -/

theorem prdyLevel_blocked {level : Bool}
    (h : level = false ∨ s.printer.inTransmission ≠ none ∨ s.fastLocked = false) :
    prdyLevel level s = { s with lines := { s.lines with prdy := level } } := by
  unfold prdyLevel
  dsimp only
  split
  next hl =>
    rcases h with h | h | h
    · exact absurd h (by simp [hl])
    · exact beginCharacter_blocked (.inl h)
    · exact beginCharacter_blocked (.inr (by rw [State.mayPrint, Bool.and_eq_false_iff]; exact .inr h))
  next => rfl

/-- With PRDY active the character waits for the fast clock alone (R169). -/
theorem mayPrint_of_prdy (hp : s.lines.prdy = true) : s.mayPrint = s.fastLocked := by simp [State.mayPrint, hp]

theorem prdyLevel_fifo (hidle : s.printer.inTransmission = none) (hclock : s.fastLocked = true)
    (hp : s.printer.phase ≠ .separator) : prdyLevel true s = match s.printer.fifo with
      | [] => { s with lines := { s.lines with prdy := true } }
      | b :: rest => { s with
          lines := { s.lines with prdy := true }
          printer := { s.printer with inTransmission := some b, fifo := rest } } := by
  set u : State := { s with lines := { s.lines with prdy := true } }
  have hready : u.mayPrint = true := (mayPrint_of_prdy rfl).trans hclock
  change beginCharacter u = _
  cases hf : s.printer.fifo with
  | nil => exact beginCharacter_empty (by rw [if_neg (by exact hp)]; exact hf)
  | cons b rest =>
    rw [beginCharacter_fifo (s := u) hidle hp hf, hready]
    rfl

theorem prdyLevel_separator (hidle : s.printer.inTransmission = none) (hclock : s.fastLocked = true)
    (hp : s.printer.phase = .separator) : prdyLevel true s = match s.printer.separatorCopy with
      | [] => { s with lines := { s.lines with prdy := true } }
      | b :: rest => { s with
          lines := { s.lines with prdy := true }
          printer := { s.printer with inTransmission := some b, separatorCopy := rest } } := by
  set u : State := { s with lines := { s.lines with prdy := true } }
  have hready : u.mayPrint = true := (mayPrint_of_prdy rfl).trans hclock
  change beginCharacter u = _
  cases hc : s.printer.separatorCopy with
  | nil => exact beginCharacter_empty (by rw [if_pos (by exact hp)]; exact hc)
  | cons b rest =>
    rw [beginCharacter_separator (s := u) hidle hp hc, hready]
    rfl

/-! ## A character completes (R106, R108, R111 to R113) -/

variable {b : Byte}

theorem stopFastClock_awake (h : s.clock.regime ≠ .doze) : stopFastClock s = s := if_neg fun hc => h hc.1

theorem reportDrained_nothing (h : s.holder .printer = none ∨ s.printer.armed = false ∨ s.printer.fifo ≠ []) :
    reportDrained s = s := by
  unfold reportDrained
  split
  next hh =>
    refine if_neg fun ⟨harmed, hempty⟩ => ?_
    rcases h with h | h | h
    · simp [hh] at h
    · simp [harmed] at h
    · exact h hempty
  next => rfl

theorem reportDrained_reports {h : Subject} (hh : s.holder .printer = some h) (ha : s.printer.armed = true)
    (hf : s.printer.fifo = []) : reportDrained s =
      notifySubject h .printDrained { s with printer := { s.printer with armed := false } } := by
  unfold reportDrained
  rw [hh]
  exact if_pos ⟨ha, hf⟩

/-- The port with its transmitter idle. -/
def clearTransmitter (s : State) : State := { s with printer := { s.printer with inTransmission := none } }

/-- Outside a turnover the report is judged, and the next byte may begin. -/
theorem characterComplete_granted (ht : s.printer.inTransmission = some b) (hp : s.printer.phase = .none)
    (hr : s.clock.regime ≠ .doze) : characterComplete s = runPrinter (reportDrained (clearTransmitter s)) := by
  unfold characterComplete
  have hrests : restartStall (clearTransmitter s) = clearTransmitter s := if_pos hp
  rw [ht]
  dsimp only
  rw [← clearTransmitter, hrests, stopFastClock_awake (by rw [(reportDrained_frame _).1]; exact hr)]

/-- The transmitter idle within a turnover, and the stall timer at 0 again (R113). -/
def clearWithinTurnover (s : State) : State :=
  { s with printer := { s.printer with inTransmission := none, stallTimer := some .zero } }

/-- Within a turnover the stall timer restarts, and the port goes on (R113). -/
theorem characterComplete_turnover (ht : s.printer.inTransmission = some b) (hp : s.printer.phase ≠ .none)
    (hr : s.clock.regime ≠ .doze) (hh : s.holder .printer = none) :
    characterComplete s = runPrinter (clearWithinTurnover s) := by
  have hrestarts : restartStall (clearTransmitter s) = clearWithinTurnover s := if_neg hp
  unfold characterComplete
  rw [ht]
  dsimp only
  rw [← clearTransmitter, hrestarts, reportDrained_nothing (.inl (by exact hh)), stopFastClock_awake (by exact hr)]

/-! ## The port's turnover begins (R111) -/

/-- What the data is in DRAIN: kept after RELEASED, discarded after REVOKED. -/
def drainData (k : EndingKind) (fifo : List Byte) : List Byte :=
  match k with
  | .released => fifo
  | .revoked => []

/-- PRINTER in TURNOVER, with the report CLEAR, the stall timer at 0 and the phase DRAIN. -/
def beginDrain (k : EndingKind) (s : State) : State :=
  { s.setEntry .printer { s.entry .printer with state := .turnover k } with
    printer := { s.printer with
      armed := false, stallTimer := some .zero, phase := .drain, fifo := drainData k s.printer.fifo } }

theorem enterTurnover_printer (k : EndingKind) (s : State) :
    enterTurnover .printer k s = runPrinter (beginDrain k s) := by cases k <;> rfl

theorem beginDrain_entry (k : EndingKind) (s : State) :
    (beginDrain k s).entry .printer = { s.entry .printer with state := .turnover k } := setEntry_entry_self ..

/-- With nothing to drain, the separator goes out, or the turnover is complete. -/
theorem enterTurnover_printer_drained {k : EndingKind} (hidle : s.printer.inTransmission = none)
    (hf : drainData k s.printer.fifo = []) :
    (s.printer.separator = [] → (enterTurnover .printer k s).printer.phase = .none
        ∧ (enterTurnover .printer k s).holder .printer = (s.entry .printer).waiting.head?.map (·.subject))
      ∧ (s.printer.separator ≠ [] → (enterTurnover .printer k s).printer.phase = .separator
        ∧ ((enterTurnover .printer k s).entry .printer).standing = .turnover
        ∧ (enterTurnover .printer k s).printer.inTransmission.toList
            ++ (enterTurnover .printer k s).printer.separatorCopy = s.printer.separator) := by
  rw [enterTurnover_printer]
  refine ⟨fun hs => ?_, fun hs => ?_⟩
  · obtain ⟨hphase, -, hholder⟩ := endPrinterTurnover_outcome (beginSeparator (beginDrain k s))
    have hlist : ((beginSeparator (beginDrain k s)).entry .printer).waiting = (s.entry .printer).waiting :=
      congrArg (·.waiting) (beginDrain_entry k s)
    rw [runPrinter_drained_empty (by exact hidle) rfl (by exact hf) (by exact hs)]
    exact ⟨hphase, hlist ▸ hholder⟩
  · obtain ⟨c, rest, hs⟩ := List.exists_cons_of_ne_nil hs
    rw [runPrinter_drained_separator (by exact hidle) rfl (by exact hf) (by exact hs)]
    refine ⟨rfl, ?_, ?_⟩
    · exact standing_eq_turnover.mpr ⟨k, congrArg (·.state) (beginDrain_entry k s)⟩
    · rw [hs]
      dsimp only
      split <;> rfl

/-! ## The stall (R113) -/

theorem printerStall_not_due (h : isDue s.printer.stallTimer = false ∨ s.printer.phase = .none) :
    printerStall s = s := by
  refine if_neg fun ⟨hdue, hphase⟩ => ?_
  rcases h with h | h
  · simp [hdue] at h
  · exact hphase h

/-- The stall discards what is left, sets its condition and completes the turnover. -/
theorem printerStall_due (hd : isDue s.printer.stallTimer = true) (hp : s.printer.phase ≠ .none) :
    (printerStall s).printer.fifo = [] ∧ (printerStall s).printer.separatorCopy = []
      ∧ (printerStall s).printer.phase = .none ∧ (printerStall s).printer.stallTimer = none
      ∧ (printerStall s).printer.inTransmission = s.printer.inTransmission
      ∧ hasCondition ((printerStall s).port .p).conditions .printerStall = true
      ∧ (printerStall s).holder .printer = (s.entry .printer).waiting.head?.map (·.subject) := by
  set u : State := setCondition .p .printerStall
    { s with printer := { s.printer with fifo := [], separatorCopy := [], phase := .none, stallTimer := none } } with hu
  have hstall : printerStall s = completeTurnover .printer u := if_pos ⟨hd, hp⟩
  obtain ⟨armed, hport, -⟩ := completeTurnover_printerPort u
  have hleft : u.printer =
      { s.printer with fifo := [], separatorCopy := [], phase := .none, stallTimer := none } := by simp [hu]
  have hset : hasCondition (u.port .p).conditions .printerStall = true := by
    simp [hu, setCondition, hasCondition_join_self]
  have hwaiting : (u.entry .printer).waiting = (s.entry .printer).waiting := by simp [hu]
  rw [hstall, hport, (completeTurnover_keeps .printer u .p).2 .printerStall (by decide),
    (completeTurnover_outcome .printer u).2.1, hwaiting, hleft]
  exact ⟨rfl, rfl, rfl, rfl, rfl, hset, rfl⟩

end Sys2Proof.Machine
end

section
/-! SUPPORT. The printer port's requests, lines and characters as a whole: O40 and O41. -/

namespace Sys2Proof.Machine

variable {s : State} {l : Link} {f : Frame} {b c : Byte} {rest : List Byte}

/-! ## Print data (R106 to R110) -/

/-- A character that completes within a grant with data left: the next begins where PRDY is active. -/
theorem characterComplete_granted_next (ht : s.printer.inTransmission = some b) (hp : s.printer.phase = .none)
    (hr : s.clock.regime ≠ .doze) (hf : s.printer.fifo = c :: rest) :
    characterComplete s = { s with printer := { s.printer with
      inTransmission := if s.mayPrint then some c else none
      fifo := if s.mayPrint then rest else c :: rest } } := by
  have hphase : (clearTransmitter s).printer.phase = .none := hp
  have hfifo : (clearTransmitter s).printer.fifo = c :: rest := hf
  rw [characterComplete_granted ht hp hr, reportDrained_nothing (.inr (.inr (by simp [hfifo]))),
    runPrinter_fifo (by simp [hphase]) (by simp [hphase]),
    beginCharacter_fifo rfl (by simp [hphase]) hfifo]
  rfl

/-- One that leaves the FIFO empty: the transmitter is idle, and the report is judged (R108). -/
theorem characterComplete_granted_last (ht : s.printer.inTransmission = some b) (hp : s.printer.phase = .none)
    (hr : s.clock.regime ≠ .doze) (hf : s.printer.fifo = []) :
    characterComplete s = reportDrained (clearTransmitter s) := by
  set u := reportDrained (clearTransmitter s) with hu
  have hport : u.printer.phase = .none ∧ u.printer.fifo = [] := by
    rw [hu, reportDrained]
    (repeat' split) <;> simp [clearTransmitter, hp, hf]
  obtain ⟨hphase, hfifo⟩ := hport
  rw [characterComplete_granted ht hp hr, ← hu, runPrinter_fifo (by simp [hphase]) (by simp [hphase]),
    beginCharacter_empty (by simp [hphase, hfifo])]

/-- A flush outside a turnover changes the FIFO and the report alone (R109). -/
theorem runPrinter_discardFifo (hp : s.printer.phase = .none) : runPrinter (discardFifo s) = discardFifo s := by
  have hphase : (discardFifo s).printer.phase = .none := hp
  rw [runPrinter_fifo (by simp [hphase]) (by simp [hphase]), beginCharacter_empty (by rw [hphase]; rfl)]

theorem ptxd_idle (h : s.printer.inTransmission = none) : s.ptxd = [.idle] := by rw [State.ptxd, h]

theorem ptxd_character (h : s.printer.inTransmission = some b) :
    s.ptxd = .start :: ((List.range 8).map fun i => .data (b.getLsbD i)) ++ [.stop] := by
  rw [State.ptxd, h]
  rfl

/-- Settles O40: the three requests by their tests, then PRDY, the characters of a grant, and PTXD. -/
theorem printDataReachesTheTransmitter : Obligations.PrintDataReachesTheTransmitter := by
  refine ⟨⟨fun l f s h => ⟨fun hh => ?_, fun hh => ⟨fun he => ?_, fun he hfull => ?_, fun he hroom => ?_⟩⟩,
    fun l f s h => ⟨fun hh hp => ?_, fun hh => ?_⟩, fun l f s h => ?_⟩,
    ⟨fun level s h => ?_, fun s hidle hclock hp => ?_, fun s hidle => ?_,
      fun b h s ht hp hr hclock hh => ⟨fun hf ha => ?_, fun hf ha => ?_, fun c rest hf => ?_⟩⟩,
    fun s => ⟨ptxd_idle, fun _ => ptxd_character⟩⟩
  · exact print_reply h (printHandler_notHolder hh)
  · exact print_reply h (printHandler_held hh he)
  · exact print_reply h ((printHandler_granted (s := dropOldest l s) hh he).trans (if_pos hfull))
  · have hfits : ¬ 4096 - s.printer.fifo.length < f.body.length := by omega
    exact print_reply h ((printHandler_granted (s := dropOldest l s) hh he).trans (if_neg hfits))
  · exact printFlush_reply h (printFlushHandler_notHolder hh hp)
  · obtain ⟨hfifo, harmed, hseparator⟩ := runPrinter_discarded (s := discardFifo (dropOldest l s))
      (separator := s.printer.separator) ⟨rfl, rfl, rfl⟩
    exact ⟨_, printFlush_flushes h hh, hfifo, harmed, hseparator, runPrinter_discardFifo (s := dropOldest l s)⟩
  · exact congrArg _ (processRequest_admitted h rfl)
  · exact congrArg _ (prdyLevel_blocked h)
  · exact congrArg _ (prdyLevel_fifo hidle hclock hp)
  · rw [exec_after, after, characterComplete, hidle]
  all_goals rw [exec_after, after]
  · rw [characterComplete_granted_last ht hp (by simp [hr]) hf,
      reportDrained_reports (s := clearTransmitter s) hh ha hf]
    rfl
  · rw [characterComplete_granted_last ht hp (by simp [hr]) hf,
      reportDrained_nothing (s := clearTransmitter s) (.inr (.inl ha))]
    rfl
  · rw [characterComplete_granted_next ht hp (by simp [hr]) hf]
    cases hready : s.lines.prdy <;> simp [State.mayPrint, hready, hclock, ← hf]

/-! ## The turnover (R106, R109, R111 to R113) -/

/-- A character that completes in DRAIN with data left: the stall timer restarts, and the next may begin. -/
theorem characterComplete_drain_next (ht : s.printer.inTransmission = some b) (hp : s.printer.phase = .drain)
    (hr : s.clock.regime ≠ .doze) (hh : s.holder .printer = none) (hf : s.printer.fifo = c :: rest) :
    characterComplete s = { s with printer := { s.printer with
      inTransmission := if s.mayPrint then some c else none
      fifo := if s.mayPrint then rest else c :: rest
      stallTimer := some { elapsed := 0, due := false } } } := by
  have hphase : (clearWithinTurnover s).printer.phase = .drain := hp
  have hfifo : (clearWithinTurnover s).printer.fifo = c :: rest := hf
  rw [characterComplete_turnover ht (by simp [hp]) hr hh, runPrinter_fifo (by simp [hphase]) (by simp [hfifo]),
    beginCharacter_fifo rfl (by simp [hphase]) hfifo]
  rfl

/-- The same in SEPARATOR, with the separator's next byte. -/
theorem characterComplete_separator_next (ht : s.printer.inTransmission = some b)
    (hp : s.printer.phase = .separator) (hr : s.clock.regime ≠ .doze) (hh : s.holder .printer = none)
    (hc : s.printer.separatorCopy = c :: rest) :
    characterComplete s = { s with printer := { s.printer with
      inTransmission := if s.mayPrint then some c else none
      separatorCopy := if s.mayPrint then rest else c :: rest
      stallTimer := some { elapsed := 0, due := false } } } := by
  have hcopy : (clearWithinTurnover s).printer.separatorCopy = c :: rest := hc
  rw [characterComplete_turnover ht (by simp [hp]) hr hh, runPrinter_separator (by exact hp) (by rw [hcopy]; simp),
    beginCharacter_separator rfl (by exact hp) hcopy]
  rfl

/-- One that ends DRAIN with no separator set up, or the last of the separator, completes the turnover. -/
theorem characterComplete_ends (ht : s.printer.inTransmission = some b) (hr : s.clock.regime ≠ .doze)
    (hh : s.holder .printer = none)
    (hp : (s.printer.phase = .drain ∧ s.printer.fifo = [] ∧ s.printer.separator = [])
      ∨ (s.printer.phase = .separator ∧ s.printer.separatorCopy = [])) :
    (characterComplete s).printer.phase = .none ∧ (characterComplete s).printer.stallTimer = none
      ∧ (characterComplete s).holder .printer = (s.entry .printer).waiting.head?.map (·.subject) := by
  rcases hp with ⟨hp, hf, hs⟩ | ⟨hp, hc⟩
  · rw [characterComplete_turnover ht (by simp [hp]) hr hh,
      runPrinter_drained_empty (s := clearWithinTurnover s) rfl hp hf hs]
    exact endPrinterTurnover_outcome _
  · rw [characterComplete_turnover ht (by simp [hp]) hr hh,
      runPrinter_separated (s := clearWithinTurnover s) rfl hp hc]
    exact endPrinterTurnover_outcome _

/-- PRINT_FLUSH in DRAIN with no character in transmission: DRAIN is at its end (R109). -/
theorem flush_ends_drain (hidle : s.printer.inTransmission = none) (hd : s.printer.phase = .drain) :
    (s.printer.separator = [] → runPrinter (discardFifo s) =
        beginCharacter (endPrinterTurnover (beginSeparator (discardFifo s))))
      ∧ ∀ c rest, s.printer.separator = c :: rest → runPrinter (discardFifo s) =
        { s with printer := { s.printer with
          fifo := [], armed := false, phase := .separator
          inTransmission := if s.mayPrint then some c else none
          separatorCopy := if s.mayPrint then rest else c :: rest } } :=
  ⟨fun hs => runPrinter_drained_empty (s := discardFifo s) hidle hd rfl hs,
    fun _ _ hs => runPrinter_drained_separator (s := discardFifo s) hidle hd rfl hs⟩

/-- Settles O41: the turnover's begin, its characters, PRDY and the flush within it, and the stall. -/
theorem printerTurnoverSendsTheSeparator : Obligations.PrinterTurnoverSendsTheSeparator := by
  refine ⟨fun k b s ht => ?_, fun k s hidle hk => ?_,
    fun b s ht hp hr hclock hh => ⟨fun c rest hc hready => ?_, fun hc => ?_⟩,
    fun c rest s hidle hf begins hb => ?_,
    fun b s ht hp hr hh => ⟨fun c rest hf begins hb => ?_, fun hf hs => ?_, fun hf c rest hs begins hb => ?_⟩,
    fun s hidle hclock hp => ?_,
    fun l f s h hh => ⟨fun hp ht => ?_, fun hp hidle => ⟨fun hs => ?_, fun c rest hs begins hb => ?_⟩⟩,
    fun s h => ?_, fun s hd hp => ?_⟩
  · rw [enterTurnover_printer, runPrinter_busy (by simp [beginDrain, ht])]
    cases k <;> rfl
  · refine enterTurnover_printer_drained hidle ?_
    rcases hk with rfl | hf
    · rfl
    · cases k <;> simp [drainData, hf]
  · rw [exec_after, after, characterComplete_separator_next ht hp (by simp [hr]) hh hc,
      if_pos ((mayPrint_of_prdy hready).trans hclock), if_pos ((mayPrint_of_prdy hready).trans hclock)]
  · exact ⟨_, exec_after .characterComplete s, characterComplete_ends ht (by simp [hr]) hh (.inr ⟨hp, hc⟩)⟩
  · subst hb
    rw [enterTurnover_printer, runPrinter_fifo (by simp [beginDrain]) (by simp [beginDrain, drainData, hf]),
      beginCharacter_fifo (by exact hidle) (by simp [beginDrain]) (by exact hf)]
    rfl
  · subst hb
    rw [exec_after, after, characterComplete_drain_next ht hp hr hh hf]
    rfl
  · exact ⟨_, exec_after .characterComplete s, characterComplete_ends ht hr hh (.inl ⟨hp, hf, hs⟩)⟩
  · subst hb
    rw [exec_after, after, characterComplete_turnover ht (by simp [hp]) hr hh,
      runPrinter_drained_separator (s := clearWithinTurnover s) rfl hp hf hs]
    rfl
  · exact congrArg _ (prdyLevel_separator hidle hclock hp)
  · rw [printFlush_flushes h hh, runPrinter_busy (by exact ht)]
    rfl
  · have hdiscarded := runPrinter_discarded (s := discardFifo (dropOldest l s)) ⟨rfl, rfl, rfl⟩
    refine ⟨_, printFlush_flushes h hh, hdiscarded.1, ?_⟩
    rw [(flush_ends_drain (s := dropOldest l s) hidle hp).1 hs]
    exact endPrinterTurnover_outcome _
  · subst hb
    rw [printFlush_flushes h hh, (flush_ends_drain (s := dropOldest l s) hidle hp).2 c rest hs]
    rfl
  · rw [exec_after, after, printerStall_not_due h]
  · exact ⟨_, exec_after .printerStall s, printerStall_due hd hp⟩

end Sys2Proof.Machine
end

section
/-! SUPPORT. The law of the contactless bridge (R116, R123 to R127): what it reads, and what it says in each state of
the exchange, so that an operation on the bridge is judged by the states before and after it. -/

namespace Sys2Proof.Machine

variable {s t : State} {r : Resource} {l : Link} {x : Exchange}

/-! ## What the law reads -/

/-- Two bridges that differ at most in timers, intervals and the number of the next exchange, and in how far an exchange
in flight has come. -/
structure Bridge.Alike (b c : Bridge) : Prop where
  slot : b.slot = c.slot
  result : b.exchange = .result ↔ c.exchange = .result
  idle : b.exchange = .idle ↔ c.exchange = .idle
  record : b.record = c.record
  inFlight : b.isInFlight = c.isInFlight
  reset : b.fieldReset.map (·.forTurnover) = c.fieldReset.map (·.forTurnover)

theorem Bridge.Alike.of_eq {b c : Bridge} (h : b = c) : b.Alike c := by
  subst h
  exact ⟨rfl, Iff.rfl, Iff.rfl, rfl, rfl, rfl⟩

/-- The exchange states in flight, with the same record. -/
theorem Bridge.Alike.of_inFlight {b c : Bridge} (hslot : b.slot = c.slot) (hreset : b.fieldReset = c.fieldReset)
    (hr : b.record = c.record) (hb : b.isInFlight = true) (hc : c.isInFlight = true) : b.Alike c := by
  have hne {b : Bridge} (h : b.isInFlight = true) : b.exchange ≠ .result ∧ b.exchange ≠ .idle :=
    ⟨fun he => by simp [Bridge.isInFlight, he] at h, fun he => by simp [Bridge.isInFlight, he] at h⟩
  exact ⟨hslot, by simp [hne hb, hne hc], by simp [hne hb, hne hc], hr, hb.trans hc.symm, by rw [hreset]⟩

/-- What a state shares with one that meets the law of the bridge. -/
theorem CardLaw.congr (h : CardLaw s) (hb : t.bridge.Alike s.bridge) (hh : t.holder .cless = s.holder .cless)
    (ht : (t.entry .cless).standing = .turnover ↔ (s.entry .cless).standing = .turnover)
    (hf : ∀ l, t.inFlightFrom l .clResult = true → s.inFlightFrom l .clResult = true) : CardLaw t := by
  obtain ⟨hslot, hflight, hresult, hrecord, hreset, hturn⟩ := h
  have hmark {p q : Bridge} (hpq : p.fieldReset.map (·.forTurnover) = q.fieldReset.map (·.forTurnover)) {f : FieldReset}
      (hp : p.fieldReset = some f) : ∃ g, q.fieldReset = some g ∧ g.forTurnover = f.forTurnover := by
    rw [hp] at hpq
    exact Option.map_eq_some_iff.mp hpq.symm
  unfold CardLaw
  rw [hh, ht, hb.slot, hb.result, hb.idle, hb.record, hb.inFlight]
  refine ⟨hslot, fun l hl => hflight l (hf l hl), hresult, hrecord, fun f hff => ?_, fun hc => (hturn hc).imp_right ?_⟩
  · obtain ⟨g, hg, hfor⟩ := hmark hb.reset hff
    exact hfor ▸ hreset g hg
  · rintro ⟨f, hff, hfor⟩
    obtain ⟨g, hg, hgf⟩ := hmark hb.reset.symm hff
    exact ⟨g, hg, hgf.trans hfor⟩

theorem CardLaw.alike (h : CardLaw s) (hb : t.bridge.Alike s.bridge) (hc : t.custody.entries = s.custody.entries)
    (hp : ∀ l, (t.port l).inFlight = (s.port l).inFlight) : CardLaw t := by
  have he : t.entry .cless = s.entry .cless := by simp only [State.entry, hc]
  exact h.congr hb (holder_of_entry he) (by rw [he]) fun l hl => by rwa [inFlightFrom_congr (hp l)] at hl

theorem CardLaw.frame (h : CardLaw s) (hb : t.bridge = s.bridge) (hc : t.custody.entries = s.custody.entries)
    (hp : ∀ l, (t.port l).inFlight = (s.port l).inFlight) : CardLaw t := h.alike (.of_eq hb) hc hp

/-- The same with all the ports as they stand. -/
theorem CardLaw.blocks (h : CardLaw s) (hb : t.bridge = s.bridge) (hc : t.custody = s.custody)
    (hp : t.ports = s.ports) : CardLaw t := h.frame hb (by rw [hc]) fun l => by rw [port_congr hp]

/-- A port may send what it sent before, or anything that is no CL_RESULT. -/
theorem CardLaw.setPort (h : CardLaw s) {p : Port}
    (hp : ∀ x, p.inFlight = some x → x.source = .clResult → s.inFlightFrom l .clResult = true) :
    CardLaw (s.setPort l p) := by
  refine h.congr (.of_eq rfl) rfl Iff.rfl fun k hk => ?_
  obtain ⟨x, hx, hsrc⟩ := inFlightFrom_iff.mp hk
  rw [setPort_port] at hx
  split at hx
  next hkl => exact hkl ▸ hp x hx hsrc
  next => exact inFlightFrom_iff.mpr ⟨x, hx, hsrc⟩

/-- A port that goes on sending what it sent. -/
theorem CardLaw.setPort_same (h : CardLaw s) {p : Port} (hp : p.inFlight = (s.port l).inFlight) :
    CardLaw (s.setPort l p) := h.frame rfl rfl (setPort_inFlight hp)

theorem CardLaw.setPort_none (h : CardLaw s) {p : Port} (hp : p.inFlight = none) : CardLaw (s.setPort l p) :=
  h.setPort fun x hx => by rw [hp] at hx; cases hx

/-- The frame in flight moves on, and stays the frame it is. -/
theorem CardLaw.setPort_map {p : Port} {f : InFlight → InFlight} (hf : ∀ x, (f x).source = x.source)
    (hp : p.inFlight = (s.port l).inFlight.map f) (h : CardLaw s) : CardLaw (s.setPort l p) := by
  refine h.setPort fun x hx hsrc => ?_
  rw [hp] at hx
  obtain ⟨y, hy, rfl⟩ := Option.map_eq_some_iff.mp hx
  exact inFlightFrom_iff.mpr ⟨y, hy, (hf y).symm.trans hsrc⟩

/-- An entry replaced by one with the same holder and as much in TURNOVER, or by any where it is not CLESS's. -/
theorem CardLaw.setEntry (h : CardLaw s) {e : CustodyEntry}
    (he : r = .cless → e.grant.map (·.holder) = s.holder .cless
      ∧ (e.standing = .turnover ↔ (s.entry .cless).standing = .turnover)) : CardLaw (s.setEntry r e) := by
  by_cases hr : r = .cless
  · subst hr
    obtain ⟨hh, ht⟩ := he rfl
    exact h.congr (.of_eq rfl) (by rw [State.holder, setEntry_entry_self, hh])
      (by rw [setEntry_entry_self]; exact ht) fun _ hl => hl
  · have hentry : (s.setEntry r e).entry .cless = s.entry .cless := by simp [setEntry_entry, Ne.symm hr]
    exact h.congr (.of_eq rfl) (holder_of_entry hentry) (by rw [hentry]) fun _ hl => hl

theorem CardLaw.setEntry_other (h : CardLaw s) (hr : r ≠ .cless) (e : CustodyEntry) : CardLaw (s.setEntry r e) :=
  h.setEntry fun hc => absurd hc hr

theorem setGrant_cardLaw {g g' : Grant} (hg : (s.entry r).grant = some g) (hh : g'.holder = g.holder) (h : CardLaw s) :
    CardLaw (s.setGrant r g') := h.setEntry fun hr => by
  subst hr
  refine ⟨?_, (CustodyEntry.Alike.of_owned hg g' _).1⟩
  rw [State.holder, hg, CustodyEntry.grant_owned]
  simp [hh]

theorem setWaiting_cardLaw (r : Resource) (ws : List Waiter) (h : CardLaw s) : CardLaw (s.setWaiting r ws) :=
  h.setEntry fun hr => by subst hr; exact ⟨rfl, Iff.rfl⟩

theorem mapGrants_cardLaw {f : Grant → Grant} (hf : ∀ g, (f g).holder = g.holder) (h : CardLaw s) :
    CardLaw (mapGrants f s) :=
  h.congr (.of_eq rfl) (mapGrants_holder hf s .cless) (by rw [mapGrants_entry]; exact mapGrant_turnover) fun _ hl => hl

/-! ## What the law says, by the state of the exchange -/

/-- No result stands anywhere, neither in the slot nor in flight. -/
def State.NoResult (s : State) : Prop := s.bridge.slot = none ∧ ∀ l : Link, s.inFlightFrom l .clResult = false

/-- A field reset runs that a turnover waits for (R126). -/
def Bridge.ResetsForTurnover (b : Bridge) : Prop := ∃ f, b.fieldReset = some f ∧ f.forTurnover = true

/-- A CL_RESULT frame in flight carries the one result there is, on its holder's link (R124). -/
theorem CardLaw.copy (h : CardLaw s) (hl : s.inFlightFrom l .clResult = true) : s.bridge.exchange = .result
    ∧ s.bridge.slot = none ∧ (s.holder .cless).map Subject.link = some l := by
  obtain ⟨-, hflight, -⟩ := h
  exact hflight l hl

/-- Outside RESULT no result stands. -/
theorem CardLaw.noResult (h : CardLaw s) (hr : s.bridge.exchange ≠ .result) : s.NoResult := by
  obtain ⟨hslot, hflight, -⟩ := h
  exact ⟨Option.eq_none_iff_forall_ne_some.mpr fun x hx => hr (hslot x hx).1,
    fun l => Bool.eq_false_iff.mpr fun hl => hr (hflight l hl).1⟩

theorem cardLaw_idle (he : s.bridge.exchange = .idle) :
    CardLaw s ↔ s.NoResult ∧ ((s.entry .cless).standing = .turnover ↔ s.bridge.ResetsForTurnover) := by
  have hrec : s.bridge.record = none := by simp [Bridge.record, he]
  have hfly : s.bridge.isInFlight = false := by simp [Bridge.isInFlight, he]
  refine ⟨fun h => ⟨h.noResult (by simp [he]), ?_⟩, fun ⟨⟨hslot, hflight⟩, hturn⟩ => ?_⟩
  · obtain ⟨-, -, -, -, hreset, hturn⟩ := h
    refine ⟨fun ht => (hturn ht).resolve_left (by simp [hrec]), fun ⟨f, hf, hfor⟩ => ((hreset f hf).2 hfor).1⟩
  · refine ⟨by simp [hslot], fun l hl => by simp [hflight l] at hl, by simp [he], by simp [hrec],
      fun f hf => ⟨hfly, fun hfor => ⟨hturn.mpr ⟨f, hf, hfor⟩, he⟩⟩, fun ht => .inr (hturn.mp ht)⟩

theorem cardLaw_armed (he : s.bridge.exchange = .armed x) :
    CardLaw s ↔ s.NoResult ∧ x.discard = false ∧ s.holder .cless = some x.owner ∧ ¬ s.bridge.ResetsForTurnover := by
  have hrec : s.bridge.record = some x := by simp [Bridge.record, he]
  have hfly : s.bridge.isInFlight = false := by simp [Bridge.isInFlight, he]
  refine ⟨fun h => ⟨h.noResult (by simp [he]), ?_⟩, fun ⟨⟨hslot, hflight⟩, hd, hh, hn⟩ => ?_⟩
  · obtain ⟨-, -, -, hrecord, hreset, -⟩ := h
    have hx := hrecord x hrec
    have hd : x.discard = false := Bool.eq_false_iff.mpr fun hd => by simp [hd, hfly] at hx
    exact ⟨hd, by simpa [hd] using hx, fun ⟨f, hf, hfor⟩ => by simpa [he] using ((hreset f hf).2 hfor).2⟩
  · have hstands := standing_of_holder (r := .cless) (s := s) (by simp [hh])
    refine ⟨by simp [hslot], fun l hl => by simp [hflight l] at hl, by simp [he], fun y hy => ?_,
      fun f hf => ⟨hfly, fun hfor => absurd ⟨f, hf, hfor⟩ hn⟩, fun ht => absurd ht hstands⟩
    cases hrec.symm.trans hy
    simp [hd, hh]

theorem cardLaw_inFlight (hf : s.bridge.isInFlight = true) (hrec : s.bridge.record = some x) :
    CardLaw s ↔ s.NoResult ∧ s.bridge.fieldReset = none
      ∧ if x.discard then (s.entry .cless).standing = .turnover else s.holder .cless = some x.owner := by
  have hres : s.bridge.exchange ≠ .result := fun he => by simp [Bridge.isInFlight, he] at hf
  refine ⟨fun h => ⟨h.noResult hres, ?_⟩, fun ⟨⟨hslot, hflight⟩, hn, hx⟩ => ?_⟩
  · obtain ⟨-, -, -, hrecord, hreset, -⟩ := h
    refine ⟨Option.eq_none_iff_forall_ne_some.mpr fun f hff => by simpa [hf] using (hreset f hff).1, ?_⟩
    simpa [hf] using hrecord x hrec
  · refine ⟨by simp [hslot], fun l hl => by simp [hflight l] at hl, fun he => absurd he hres, fun y hy => ?_,
      by simp [hn], fun ht => .inl ⟨x, hrec, ?_⟩⟩
    · cases hrec.symm.trans hy
      simpa [hf] using hx
    · by_contra hd
      rw [if_neg hd] at hx
      exact standing_of_holder (r := .cless) (s := s) (by simp [hx]) ht

theorem cardLaw_result (he : s.bridge.exchange = .result) :
    CardLaw s ↔ (s.holder .cless).isSome ∧ (∀ x, s.bridge.slot = some x → s.holder .cless = some x.owner)
      ∧ (∀ l : Link, s.inFlightFrom l .clResult = true →
          s.bridge.slot = none ∧ (s.holder .cless).map Subject.link = some l)
      ∧ ¬ s.bridge.ResetsForTurnover := by
  have hrec : s.bridge.record = none := by simp [Bridge.record, he]
  have hfly : s.bridge.isInFlight = false := by simp [Bridge.isInFlight, he]
  refine ⟨fun ⟨hslot, hflight, hresult, _, hreset, _⟩ => ⟨hresult he, fun x hx => (hslot x hx).2,
    fun l hl => (hflight l hl).2, fun ⟨f, hf, hfor⟩ => ?_⟩, fun ⟨hh, hslot, hflight, hn⟩ => ?_⟩
  · simpa [he] using ((hreset f hf).2 hfor).2
  · exact ⟨fun x hx => ⟨he, hslot x hx⟩, fun l hl => ⟨he, hflight l hl⟩, fun _ => hh, by simp [hrec],
      fun f hf => ⟨hfly, fun hfor => absurd ⟨f, hf, hfor⟩ hn⟩, fun ht => absurd ht (standing_of_holder hh)⟩

/-- While an exchange is in flight, the bridge has its record. -/
theorem Bridge.record_of_inFlight {b : Bridge} (h : b.isInFlight = true) : ∃ x, b.record = some x := by
  unfold Bridge.isInFlight at h
  unfold Bridge.record
  split at h <;> simp_all

end Sys2Proof.Machine
end

section
/-! SUPPORT. That every shared operation on custody and on the frame in flight keeps the law of the contactless bridge:
a result goes with its CL_RESULT frame (R14, R15, R124), and the end of CLESS's grant drops what the bridge holds or
marks it, each with an end to come (R125 to R127). -/

namespace Sys2Proof.Machine

variable {s t : State} {r : Resource} {l : Link} {x : Exchange}

/-! ## Frames that are cancelled or complete (R14, R15) -/

theorem inFlightFrom_ports (hp : t.ports = s.ports) (l : Link) (src : FrameSource) :
    t.inFlightFrom l src = s.inFlightFrom l src := inFlightFrom_congr (by rw [port_congr hp]) src

/-- With the CL_RESULT frame of the one link that had one, none is left. -/
theorem dropFrame_noResult (hl : ∀ k, s.inFlightFrom k .clResult = true → k = l) (k : Link) :
    (s.setPort l { s.port l with inFlight := none }).inFlightFrom k .clResult = false := by
  refine Bool.eq_false_iff.mpr fun hk => ?_
  obtain ⟨y, hy, hsrc⟩ := inFlightFrom_iff.mp hk
  rw [setPort_port] at hy
  split at hy
  next => cases hy
  next hkl => exact hkl (hl k (inFlightFrom_iff.mpr ⟨y, hy, hsrc⟩))

/-- A CL_RESULT frame is on the holder's link alone. -/
theorem CardLaw.frame_link (h : CardLaw s) {who : Subject} (hh : s.holder .cless = some who) (k : Link)
    (hk : s.inFlightFrom k .clResult = true) : k = who.link := by
  obtain ⟨-, -, hlink⟩ := h.copy hk
  rw [hh] at hlink
  exact (Option.some.inj hlink).symm

/-- The CL_RESULT frame has left the ports, and the bridge leaves RESULT with it. -/
theorem dropResult_cardLaw (hf : s.inFlightFrom l .clResult = true) (h : CardLaw s) :
    CardLaw (bridgeResultGone (s.setPort l { s.port l with inFlight := none })) := by
  have hres : s.bridge.exchange = .result := (h.copy hf).1
  obtain ⟨hh, -, -, hn⟩ := (cardLaw_result hres).mp h
  obtain ⟨who, hwho⟩ := Option.isSome_iff_exists.mp hh
  have hgone : bridgeResultGone (s.setPort l { s.port l with inFlight := none }) =
      { s.setPort l { s.port l with inFlight := none } with
        bridge := { s.bridge with exchange := .idle, slot := none } } := if_pos hres
  have hlink : l = who.link := h.frame_link hwho l hf
  rw [hgone, cardLaw_idle rfl]
  exact ⟨⟨rfl, dropFrame_noResult (hlink ▸ h.frame_link hwho)⟩, iff_of_false (standing_of_holder hh) hn⟩

theorem cancelInFlight_cardLaw (l : Link) (h : CardLaw s) : CardLaw (cancelInFlight l s) := by
  unfold cancelInFlight
  split
  · exact h
  next y hy =>
    have hdrop : CardLaw (s.setPort l { s.port l with inFlight := none }) := h.setPort_none rfl
    dsimp only
    split
    next hsrc => exact dropResult_cardLaw (inFlightFrom_iff.mpr ⟨y, hy, hsrc⟩) h
    next =>
      split
      · exact hdrop.blocks rfl rfl rfl
      · exact hdrop
    next => exact hdrop

theorem cancelFrom_cardLaw (l : Link) (src : FrameSource) (h : CardLaw s) : CardLaw (cancelFrom l src s) := by
  unfold cancelFrom
  split
  · exact cancelInFlight_cardLaw l h
  · exact h

/-! ## Turnovers but CLESS's (R56) -/

theorem completeTurnover_cardLaw (hr : r ≠ .cless) (h : CardLaw s) : CardLaw (completeTurnover r s) := by
  have he : (completeTurnover r s).entry .cless = s.entry .cless := completeTurnover_entry_other hr.symm
  refine h.congr (.of_eq (by simp)) (holder_of_entry he) (by rw [he]) fun l hl => ?_
  rwa [inFlightFrom_congr (completeTurnover_inFlight r s l)] at hl

theorem reportDisplayHead_cardLaw (h : CardLaw s) : CardLaw (reportDisplayHead s) := by
  unfold reportDisplayHead
  split
  · dsimp only
    split
    · exact completeTurnover_cardLaw (by decide) (h.blocks rfl rfl rfl)
    · exact h.blocks rfl rfl rfl
  · exact h

theorem changeWaiting_cardLaw (r : Resource) (ws : List Waiter) (h : CardLaw s) : CardLaw (changeWaiting r ws s) := by
  unfold changeWaiting
  dsimp only
  split
  · exact reportDisplayHead_cardLaw (setWaiting_cardLaw r ws h)
  · exact setWaiting_cardLaw r ws h

theorem runPrinter_cardLaw (h : CardLaw s) : CardLaw (runPrinter s) := by
  have hdrain : CardLaw (endDrain s) := h.blocks (by simp) (by simp) (by simp)
  have hseparator : CardLaw (endSeparator (endDrain s)) := by
    unfold endSeparator
    split
    · exact completeTurnover_cardLaw (by decide) (hdrain.blocks rfl rfl rfl)
    · exact hdrain
  exact hseparator.blocks (by simp [runPrinter]) (by simp [runPrinter]) (by simp [runPrinter])

theorem keypadTurnover_cardLaw (old : Option Subject) (h : CardLaw s) : CardLaw (keypadTurnover old s) := by
  unfold keypadTurnover
  dsimp only
  refine completeTurnover_cardLaw (by decide) ?_
  cases old with
  | none => exact h.blocks rfl rfl rfl
  | some who => exact (cancelFrom_cardLaw who.link .key h).blocks rfl rfl rfl

/-! ## CLESS's turnover (R125 to R127) -/

theorem State.NoResult.congr (h : s.NoResult) (hb : t.bridge.slot = s.bridge.slot) (hp : t.ports = s.ports) :
    t.NoResult := ⟨hb.trans h.1, fun l => (inFlightFrom_ports hp l _).trans (h.2 l)⟩

/-- The field reset of a turnover runs with the bridge IDLE, so the turnover has an end to come (R126). -/
theorem beginFieldReset_cardLaw (ht : (s.entry .cless).standing = .turnover) (he : s.bridge.exchange = .idle)
    (hn : s.NoResult) : CardLaw (beginFieldReset s) :=
  (cardLaw_idle (s := beginFieldReset s) he).mpr ⟨hn.congr rfl rfl, fun _ => ⟨_, rfl, rfl⟩, fun _ => ht⟩

/-- A marked exchange in flight runs on, and the turnover waits for its end (R125). -/
theorem marked_cardLaw {b : Bridge} (ht : (s.entry .cless).standing = .turnover) (hn : s.NoResult)
    (hb : b.slot = s.bridge.slot) (hreset : b.fieldReset = none)
    (hf : b.isInFlight = true) (hrec : b.record = some x.marked) : CardLaw { s with bridge := b } :=
  (cardLaw_inFlight (s := { s with bridge := b }) hf hrec).mpr ⟨hn.congr hb rfl, hreset, ht⟩

/-- The copy of a result is cancelled on its holder's link, and then none is left. -/
theorem cancelResult_noResult {who : Subject} (hl : ∀ k, s.inFlightFrom k .clResult = true → k = who.link) (k : Link) :
    (cancelFrom who.link .clResult s).inFlightFrom k .clResult = false := by
  rw [cancelFrom_result]
  split
  · simpa using dropFrame_noResult hl k
  next hf => exact Bool.eq_false_iff.mpr fun hk => hf (hl k hk ▸ hk)

/-- The table of R125, on a state `s` that differs from the lawful one before it in CLESS's entry alone. -/
theorem clessTurnover_cardLaw {before : State} (hb : s.bridge = before.bridge) (hp : s.ports = before.ports)
    (ht : (s.entry .cless).standing = .turnover) (hh : (before.holder .cless).isSome) (h : CardLaw before) :
    CardLaw (clessTurnover (before.holder .cless) s) := by
  have hnone (hr : s.bridge.exchange ≠ .result) : s.NoResult :=
    (h.noResult (hb ▸ hr)).congr (by rw [hb]) hp
  have hreset (hf : s.bridge.isInFlight = true) : s.bridge.fieldReset = none := by
    rw [hb] at hf ⊢
    obtain ⟨y, hrec⟩ := Bridge.record_of_inFlight hf
    exact ((cardLaw_inFlight hf hrec).mp h).2.1
  unfold clessTurnover
  dsimp only
  split
  case h_1 he => exact beginFieldReset_cardLaw ht he (hnone (by simp [he]))
  case h_2 he =>
    exact beginFieldReset_cardLaw (by simpa using ht) (by simp) ((hnone (by simp [he])).congr (by simp) (by simp))
  case h_3 he | h_4 he | h_5 he | h_6 he =>
    exact marked_cardLaw ht (hnone (by simp [he])) rfl (hreset (by simp [Bridge.isInFlight, he])) rfl rfl
  case h_7 =>
    obtain ⟨who, hwho⟩ := Option.isSome_iff_exists.mp hh
    have hlink (k : Link) (hk : s.inFlightFrom k .clResult = true) : k = who.link :=
      h.frame_link hwho k ((inFlightFrom_ports hp k _).symm.trans hk)
    rw [hwho]
    exact beginFieldReset_cardLaw (by simpa using ht) rfl ⟨rfl, cancelResult_noResult hlink⟩

/-- The ending of a grant: of CLESS's, only while someone holds it. -/
theorem enterTurnover_cardLaw (k : EndingKind) (hr : r = .cless → (s.holder .cless).isSome) (h : CardLaw s) :
    CardLaw (enterTurnover r k s) := by
  unfold enterTurnover
  dsimp only
  have hother (hn : r ≠ .cless) : CardLaw (s.setEntry r { s.entry r with state := .turnover k }) :=
    h.setEntry_other hn _
  cases r with
  | keypad => exact keypadTurnover_cardLaw _ (hother (by decide))
  | display => exact reportDisplayHead_cardLaw (hother (by decide))
  | cless => exact clessTurnover_cardLaw rfl rfl (by simp [standing_eq_turnover]) (hr rfl) h
  | printer =>
    exact runPrinter_cardLaw ((hother (by decide)).blocks rfl rfl rfl)

/-! ## CLESS's grants (R48, R56) -/

/-- The bridge with nothing of an owner: IDLE, and no turnover to complete. -/
def State.CardFree (s : State) : Prop :=
  s.bridge.exchange = .idle ∧ s.NoResult ∧ ¬ s.bridge.ResetsForTurnover

theorem State.CardFree.congr (h : s.CardFree) (hb : t.bridge = s.bridge)
    (hp : ∀ l, (t.port l).inFlight = (s.port l).inFlight) : t.CardFree := by
  obtain ⟨he, ⟨hslot, hflight⟩, hn⟩ := h
  exact ⟨hb ▸ he, ⟨hb ▸ hslot, fun l => by rw [inFlightFrom_congr (hp l)]; exact hflight l⟩, hb ▸ hn⟩

/-- With nothing of an owner, the law leaves CLESS to anyone. -/
theorem State.CardFree.cardLaw (h : s.CardFree) (ht : (s.entry .cless).standing ≠ .turnover) : CardLaw s := by
  obtain ⟨he, hn, hr⟩ := h
  exact (cardLaw_idle he).mpr ⟨hn, iff_of_false ht hr⟩

/-- While CLESS is FREE the bridge has no owner's exchange and no result. -/
theorem CardLaw.cardFree (h : CardLaw s) (hf : (s.entry .cless).state = .free) : s.CardFree := by
  have hholder : s.holder .cless = none := by simp [State.holder, CustodyEntry.grant, hf]
  have hstands : (s.entry .cless).standing ≠ .turnover := by simp [standing_eq_turnover, hf]
  have hidle : s.bridge.exchange = .idle := by
    by_contra hne
    obtain ⟨-, -, hresult, hrecord, -, -⟩ := h
    cases he : s.bridge.exchange with
    | idle => exact hne he
    | result => simpa [hholder] using hresult he
    | armed y | sending y | aborting y | receiving y | awaiting y _ =>
      have hy := hrecord y (by simp [Bridge.record, he])
      split at hy
      · exact hstands hy.1
      · simp [hholder] at hy
  obtain ⟨hn, hturn⟩ := (cardLaw_idle hidle).mp h
  exact ⟨hidle, hn, fun hr => hstands (hturn.mpr hr)⟩

/-- A grant of a FREE resource (R48). -/
theorem startGrant_cardLaw {who : Subject} {p : Nat} {o : BitVec 32} {f : Bool} {g : Gran}
    (hf : (s.entry r).state = .free) (h : CardLaw s) : CardLaw (startGrant r who p o f g s) := by
  have hentry := startGrant_entry r .cless who p o f g s
  cases r with
  | keypad | display | printer =>
    exact h.congr (.of_eq (by simp)) (holder_of_entry hentry) (by rw [hentry]; rfl) fun l hl => by simpa using hl
  | cless =>
    refine ((h.cardFree hf).congr (by simp) (by simp)).cardLaw ?_
    rw [hentry]
    simp [standing_eq_turnover]

/-- CLESS's turnover completes on a bridge that holds nothing: FREE, or granted to the head (R56). -/
theorem completeTurnover_cless_cardLaw (h : s.CardFree) : CardLaw (completeTurnover .cless s) :=
  (h.congr (by simp) (by simp)).cardLaw (completeTurnover_outcome .cless s).1

/-! ## The attention takeover (R60) -/

theorem placePay_cardLaw (r : Resource) (h : CardLaw s) : CardLaw (placePay r s) := by
  unfold placePay
  split
  · exact setWaiting_cardLaw _ _ h
  · exact setWaiting_cardLaw _ _ (h.frame rfl rfl fun _ => rfl)

theorem takeOver_cardLaw (hr : r = .keypad ∨ r = .display) (h : CardLaw s) : CardLaw (takeOver r s) := by
  have hturn {u : State} (hu : CardLaw u) : CardLaw (enterTurnover r .revoked (placePay r u)) :=
    enterTurnover_cardLaw .revoked (fun hc => by simp [hc] at hr) (placePay_cardLaw r hu)
  unfold takeOver
  split
  · split
    · exact h
    · exact hturn (h.frame (by simp) (by simp) (by simp))
  · have hplaced : CardLaw (placePay r (withdrawAppWaiters r s)) :=
      placePay_cardLaw r (h.frame (by simp) (by simp) (by simp))
    dsimp only
    split
    · exact reportDisplayHead_cardLaw hplaced
    · exact hplaced
  · rcases hr with rfl | rfl
    · exact keypadTurnover_cardLaw none (placePay_cardLaw .keypad h)
    · exact hturn h

theorem attentionTakeover_cardLaw (h : CardLaw s) : CardLaw (attentionTakeover s) :=
  (takeOver_cardLaw (.inr rfl) (takeOver_cardLaw (.inl rfl) h)).frame (by simp [attentionTakeover])
    (by simp [attentionTakeover]) (by simp [attentionTakeover])

theorem reportMatch_cardLaw (h : CardLaw s) : CardLaw (reportMatch s) := by
  unfold reportMatch
  split
  · exact attentionTakeover_cardLaw h
  · exact h.frame rfl rfl fun _ => rfl

end Sys2Proof.Machine
end

section
/-! SUPPORT. That every event, every request and every reference cycle keeps the law of the contactless bridge, and so
every step (O56). -/

namespace Sys2Proof.Machine

variable {s : State} {r : Resource} {l : Link} {x : Exchange}

/-- The law of the contactless bridge is one that the operations of custody keep under their holders. -/
theorem cardLaw_keptUnderHolders : KeptUnderHolders CardLaw where
  lease := setGrant_cardLaw
  notice := fun _ _ h => h.frame (by simp) (by simp) (by simp)
  turnover := fun _ k hh h => enterTurnover_cardLaw k (fun hr => hr ▸ hh) h
  waiting := changeWaiting_cardLaw

theorem notifySubject_cardLaw (who : Subject) (b : NoticeBody) (h : CardLaw s) : CardLaw (notifySubject who b s) :=
  h.frame (by simp) (by simp) (by simp)

theorem notifyLink_cardLaw (k : Link) (b : NoticeBody) (h : CardLaw s) : CardLaw (notifyLink k b s) :=
  h.frame (by simp) (by simp) (by simp)

/-! ## The exchange's own events (R117 to R123) -/

/-- An exchange in flight goes on with its record (R119 to R122). -/
theorem CardLaw.proceeds (h : CardLaw s) {e : ExchangeState} (hf : s.bridge.isInFlight = true)
    (he : ({ s.bridge with exchange := e } : Bridge).isInFlight = true)
    (hr : ({ s.bridge with exchange := e } : Bridge).record = s.bridge.record) :
    CardLaw { s with bridge := { s.bridge with exchange := e } } :=
  h.alike (.of_inFlight rfl rfl hr he hf) rfl fun _ => rfl

theorem tryReceive_cardLaw {t0 : Timer} (he : s.bridge.exchange = .awaiting x t0) (h : CardLaw s) :
    CardLaw (tryReceive x s) := by
  unfold tryReceive
  split
  · exact h.proceeds (by simp [Bridge.isInFlight, he]) rfl (by simp [Bridge.record, he])
  · exact h

theorem writeComplete_cardLaw (h : CardLaw s) : CardLaw (writeComplete s) := by
  unfold writeComplete
  split
  next he =>
    exact tryReceive_cardLaw rfl (h.proceeds (by simp [Bridge.isInFlight, he]) rfl (by simp [Bridge.record, he]))
  next => exact h

theorem clrdyLevel_cardLaw (level : Bool) (h : CardLaw s) : CardLaw (clrdyLevel level s) := by
  have hline : CardLaw { s with lines := { s.lines with clrdy := level } } := h.blocks rfl rfl rfl
  unfold clrdyLevel
  dsimp only
  split
  next he => exact tryReceive_cardLaw he hline
  next => exact hline

theorem exchangeTimeout_cardLaw (h : CardLaw s) : CardLaw (exchangeTimeout s) := by
  unfold exchangeTimeout
  split
  next he =>
    split
    · exact h.proceeds (by simp [Bridge.isInFlight, he]) rfl (by simp [Bridge.record, he])
    · exact h
  next => exact h

theorem judgeAll_cardLaw (h : CardLaw s) : CardLaw (judgeAll s) := h.blocks (by simp) (by simp) (by simp)

/-- The end of an exchange: its result is its owner's, who holds CLESS; a marked one leaves none, and the field reset of
its turnover begins (R123, R125). -/
theorem endExchange_cardLaw {o : ExchangeOutcome} {a : Byte} {bs : List Byte} (hf : s.bridge.isInFlight = true)
    (hrec : s.bridge.record = some x) (h : CardLaw s) : CardLaw (endExchange x o a bs s) := by
  obtain ⟨⟨hslot, hflight⟩, hreset, hx⟩ := (cardLaw_inFlight hf hrec).mp h
  unfold endExchange
  split
  next hd =>
    rw [if_pos hd] at hx
    refine beginFieldReset_cardLaw (by simpa using hx) (by simp) ⟨by simpa using hslot, fun l => ?_⟩
    rw [inFlightFrom_ports (s := s) (by simp)]
    exact hflight l
  next hd =>
    rw [if_neg hd] at hx
    have hresult (y : ClResult) (hy : y.owner = x.owner) :
        CardLaw { s with bridge := { s.bridge with exchange := .result, slot := some y } } :=
      (cardLaw_result (s := { s with bridge := { s.bridge with exchange := .result, slot := some y } }) rfl).mpr
        ⟨Option.isSome_of_eq_some hx, fun z hz => by cases hz; exact hx.trans (congrArg some hy.symm),
          fun l hl => absurd ((hflight l).symm.trans hl) nofun, fun ⟨f, hfr, _⟩ => by cases hreset.symm.trans hfr⟩
    exact judgeAll_cardLaw (hresult _ rfl)

theorem abortComplete_cardLaw (h : CardLaw s) : CardLaw (abortComplete s) := by
  unfold abortComplete
  split
  next he => exact endExchange_cardLaw (by simp [Bridge.isInFlight, he]) (by simp [Bridge.record, he]) h
  next => exact h

theorem readComplete_cardLaw (a : Byte) (bs : List Byte) (h : CardLaw s) : CardLaw (readComplete a bs s) := by
  unfold readComplete
  split
  next he => exact endExchange_cardLaw (by simp [Bridge.isInFlight, he]) (by simp [Bridge.record, he]) h
  next => exact h

/-- An ARMED exchange starts only while CLRST is inactive (R118). -/
theorem judgeGate_cardLaw (h : CardLaw s) : CardLaw (judgeGate s) := by
  unfold judgeGate
  split
  next y he =>
    split
    next hgate =>
      have hoff : s.bridge.fieldReset = none := by
        simp only [Bool.and_eq_true] at hgate
        simpa [State.clrst] using hgate.1.2
      obtain ⟨hn, hd, hh, -⟩ := (cardLaw_armed he).mp h
      exact (cardLaw_inFlight (x := y) (s := { s with bridge := { s.bridge with exchange := .sending y } }) rfl rfl).mpr
        ⟨hn.congr rfl rfl, hoff, by simpa [hd] using hh⟩
    next => exact h
  next => exact h

/-- The holder arms an exchange (R117). -/
theorem armExchange_cardLaw {who : Subject} {e t : Nat} {c : List Byte} (hidle : s.bridge.exchange = .idle)
    (hh : s.holder .cless = some who) (h : CardLaw s) : CardLaw (armExchange who e t c s) := by
  obtain ⟨hn, hturn⟩ := (cardLaw_idle hidle).mp h
  have hoff : ¬ s.bridge.ResetsForTurnover := fun hr =>
    standing_of_holder (r := .cless) (s := s) (by simp [hh]) (hturn.mpr hr)
  refine judgeGate_cardLaw (CardLaw.frame (s := { s with bridge := { s.bridge with
    counter := s.bridge.counter + 1
    exchange := .armed { owner := who, number := s.bridge.counter + 1, command := c, expected := e
                         timeout := t, discard := false } } }) ?_ (by simp) (by simp) (by simp))
  exact (cardLaw_armed rfl).mpr ⟨hn.congr rfl rfl, rfl, by exact hh, hoff⟩

/-- CLRST goes inactive where no turnover waits for it. -/
theorem CardLaw.resetOff (h : CardLaw s) {f : FieldReset} (hf : s.bridge.fieldReset = some f)
    (hfor : ¬ f.forTurnover = true) : CardLaw { s with bridge := { s.bridge with fieldReset := none } } := by
  obtain ⟨hslot, hflight, hresult, hrecord, -, hturn⟩ := h
  refine ⟨hslot, hflight, hresult, hrecord, nofun, fun ht => .inl ((hturn ht).resolve_right fun ⟨g, hg, hgf⟩ => ?_)⟩
  cases hf.symm.trans hg
  exact hfor hgf

/-- The field reset expires: for a turnover, the bridge is IDLE and holds nothing (R126). -/
theorem fieldResetExpiry_cardLaw (h : CardLaw s) : CardLaw (fieldResetExpiry s) := by
  unfold fieldResetExpiry
  split
  next f hf =>
    split
    · refine judgeGate_cardLaw ?_
      dsimp only
      split
      next hfor =>
        have hidle : s.bridge.exchange = .idle := by
          obtain ⟨-, -, -, -, hreset, -⟩ := h
          exact ((hreset f hf).2 hfor).2
        exact completeTurnover_cless_cardLaw
          ⟨hidle, (h.noResult (by simp [hidle])).congr rfl rfl, fun ⟨_, hg, _⟩ => by cases hg⟩
      next hfor => exact h.resetOff hf hfor
    · exact h
  next => exact h

/-! ## Events of the panel, the printer and the air schedule -/

theorem switchDisplay_cardLaw (y : Source) (h : CardLaw s) : CardLaw (switchDisplay y s) :=
  completeTurnover_cardLaw (by decide) (h.blocks (by simp) (by simp) (by simp))

theorem fsyncEdge_cardLaw (h : CardLaw s) : CardLaw (fsyncEdge s) := by
  unfold fsyncEdge
  split
  · exact switchDisplay_cardLaw _ h
  · exact h

theorem forcedSwitch_cardLaw (h : CardLaw s) : CardLaw (forcedSwitch s) := by
  unfold forcedSwitch
  split
  · split
    · exact switchDisplay_cardLaw _ (h.frame (by simp) (by simp) (by simp))
    · exact h
  · exact h

theorem characterComplete_cardLaw (h : CardLaw s) : CardLaw (characterComplete s) := by
  unfold characterComplete
  split
  · exact h
  · exact runPrinter_cardLaw (h.frame (by simp) (by simp) (by simp))

theorem printerStall_cardLaw (h : CardLaw s) : CardLaw (printerStall s) := by
  unfold printerStall
  split
  · exact completeTurnover_cardLaw (by decide) (h.frame (by simp) (by simp) (by simp))
  · exact h

theorem boundaryJudge_inFlight (f : RadioFn) (s : State) (k : Link) :
    ((boundaryJudge f s).port k).inFlight = (s.port k).inFlight := by
  unfold boundaryJudge
  (repeat' split) <;> simp

theorem slotBoundary_cardLaw (h : CardLaw s) : CardLaw (slotBoundary s) := by
  unfold slotBoundary
  dsimp only
  split
  · exact judgeGate_cardLaw (h.frame (by simp) (by simp) (by simp [boundaryJudgeAll, boundaryJudge_inFlight]))
  · exact h

theorem txRequestFall_cardLaw (f : RadioFn) (h : CardLaw s) : CardLaw (txRequestFall f s) := by
  have hset : CardLaw (s.setRadio f .idle) := h.blocks rfl rfl rfl
  unfold txRequestFall
  dsimp only
  (repeat' split) <;> first | exact h | exact hset | exact judgeGate_cardLaw hset

/-! ## Scans and the matcher (R80 to R93) -/

theorem matchFound_cardLaw (h : CardLaw s) : CardLaw (matchFound s) :=
  reportMatch_cardLaw (h.blocks (by split <;> simp) (by split <;> simp) (by split <;> simp))

theorem scanWoken_cardLaw (sample : BitVec 24) (h : CardLaw s) : CardLaw (scanWoken sample s) := by
  obtain ⟨-, hcustody, -, hports, -⟩ := scanWoken_frame sample s
  refine h.frame ?_ (by rw [hcustody]) fun l => (congrArg Port.inFlight (port_congr hports l)).trans
    (scanDelivered_inFlight sample s l)
  unfold scanWoken scanDelivered scanSampled
  dsimp only
  split <;> simp

theorem keyScan_cardLaw (sample : BitVec 24) (h : CardLaw s) : CardLaw (keyScan sample s) := by
  unfold keyScan
  split
  · rw [scanEvent_steps]
    split
    · exact matchFound_cardLaw (scanWoken_cardLaw sample h)
    · exact scanWoken_cardLaw sample h
  · exact h

theorem holdTimerMatch_cardLaw (h : CardLaw s) : CardLaw (holdTimerMatch s) := by
  unfold holdTimerMatch
  split
  · split
    · exact matchFound_cardLaw (h.blocks rfl rfl rfl)
    · exact h
  · exact h

/-! ## Transfers (R12 to R14) and the doze they bring about -/

/-- Any frame but a CL_RESULT is no matter of the law. -/
theorem beginFrame_cardLaw (f : Frame) {src : FrameSource} (hsrc : src ≠ .clResult) (h : CardLaw s) :
    CardLaw (beginFrame l f src s) := h.setPort fun x hx hs => by
  cases hx
  exact absurd hs hsrc

/-- The result leaves the slot as a CL_RESULT frame to its holder (R124). -/
theorem sendResult_cardLaw {who : Subject} {y : ClResult} (hs : s.resultSource l = some (who, y)) (h : CardLaw s) :
    CardLaw (sendResult l who y s) := by
  unfold State.resultSource at hs
  split at hs
  next hh hslot =>
    split at hs
    next hlink =>
      have hres : s.bridge.exchange = .result := by
        by_contra hne
        cases hslot.symm.trans (h.noResult hne).1
      obtain ⟨hsome, -, hflight, hn⟩ := (cardLaw_result hres).mp h
      refine (cardLaw_result (s := sendResult l who y s) hres).mpr ⟨hsome, nofun, fun k hk => ⟨rfl, ?_⟩, hn⟩
      obtain ⟨z, hz, hsrc⟩ := inFlightFrom_iff.mp hk
      rw [sendResult, beginFrame, setPort_port] at hz
      split at hz
      next hkl =>
        change (s.holder .cless).map Subject.link = some k
        rw [hh, hkl, ← hlink]
        rfl
      next =>
        have hempty := (hflight k (inFlightFrom_iff.mpr ⟨z, hz, hsrc⟩)).1
        rw [hslot] at hempty
        cases hempty
    next => cases hs
  next => cases hs

theorem sendRelay_cardLaw (l : Link) (level : Fin 4) (c : Fin 32) (h : CardLaw s) :
    CardLaw (sendRelay l level c s) := by
  unfold sendRelay
  split
  · exact beginFrame_cardLaw _ (by split <;> nofun) (h.blocks (by simp) (by simp) (by simp))
  · exact h

theorem chooseFrame_cardLaw (l : Link) (h : CardLaw s) : CardLaw (chooseFrame l s) := by
  have hnotice (n : Notice) : CardLaw (sendNotice l n s) := beginFrame_cardLaw _ nofun (h.setPort_same rfl)
  unfold chooseFrame
  dsimp only
  split
  next x hx =>
    refine h.setPort fun y hy hsrc => inFlightFrom_iff.mpr ⟨x, hx, ?_⟩
    cases hy
    exact hsrc
  · split
    · exact hnotice _
    · exact beginFrame_cardLaw _ nofun (h.setPort_same rfl)
    · exact hnotice _
    · split
      · exact beginFrame_cardLaw _ nofun (h.blocks rfl rfl rfl)
      next _ hs => exact sendResult_cardLaw hs h
      · exact sendRelay_cardLaw l _ _ h
      · exact h

theorem outboundChoice_cardLaw (l : Link) (h : CardLaw s) : CardLaw (outboundChoice l s) := by
  have hbyte {t : State} (ht : CardLaw t) : CardLaw (beginByte l t) := ht.setPort_same rfl
  unfold outboundChoice
  split
  · split
    · dsimp only
      split
      · exact hbyte (chooseFrame_cardLaw l (h.setPort_same rfl))
      · exact hbyte (h.setPort_same rfl)
    · exact h
  · exact h

theorem dozeReplyCompleted_cardLaw (h : CardLaw s) : CardLaw (dozeReplyCompleted s) := by
  unfold dozeReplyCompleted
  split
  · dsimp only
    split
    · exact mapGrants_cardLaw Grant.dozeHold_holder (h.blocks rfl rfl rfl)
    · exact notifyLink_cardLaw _ _ (h.blocks rfl rfl rfl)
  · exact h

theorem frameComplete_cardLaw (l : Link) (h : CardLaw s) : CardLaw (frameComplete l s) := by
  unfold frameComplete
  split
  next y hy =>
    have hdrop : CardLaw (s.setPort l { s.port l with inFlight := none }) := h.setPort_none rfl
    split
    · unfold reportCompletion
      split
      · split
        · exact dozeReplyCompleted_cardLaw hdrop
        · exact hdrop
      next hsrc => exact dropResult_cardLaw (inFlightFrom_iff.mpr ⟨y, hy, hsrc⟩) h
      · exact hdrop
    · exact h
  next => exact h

theorem clockEdge_cardLaw (l : Link) (h : CardLaw s) : CardLaw (clockEdge l s) := by
  unfold clockEdge
  split
  · exact h
  · exact (outboundChoice_cardLaw l (frameComplete_cardLaw l h)).frame (by simp) (by simp) (by simp)

theorem receiveByte_cardLaw (l : Link) (b : Byte) (h : CardLaw s) : CardLaw (receiveByte l b s) :=
  h.frame (by simp) (by simp) (by simp)

theorem moveByte_cardLaw (l : Link) (b : Byte) (h : CardLaw s) : CardLaw (moveByte l b s) := by
  unfold moveByte
  split
  · exact h
  · exact receiveByte_cardLaw l b ((clockEdge_cardLaw l h).setPort_map InFlight.shift_source (by rfl))

theorem arrive_cardLaw (l : Link) (a : Arrival) (h : CardLaw s) : CardLaw (arrive l a s) := by
  cases a with
  | edge => exact clockEdge_cardLaw l h
  | byte b => exact moveByte_cardLaw l b h

theorem transferEnd_cardLaw (l : Link) (h : CardLaw s) : CardLaw (transferEnd l s) := by
  unfold transferEnd
  split
  · exact h
  · have hend : CardLaw (truncateAtEnd l (frameComplete l s)) :=
      (frameComplete_cardLaw l h).frame (by simp) (by simp) (by simp)
    exact hend.setPort_map (f := InFlight.park) (fun _ => rfl) rfl

/-! ## The timebase -/

theorem lockIfDue_cardLaw (h : CardLaw s) : CardLaw (lockIfDue s) := by
  have hrun {t : State} (ht : CardLaw t) : CardLaw (runPendingTakeover t) := by
    unfold runPendingTakeover
    split
    · exact attentionTakeover_cardLaw (ht.frame rfl rfl fun _ => rfl)
    · exact ht
  unfold lockIfDue
  split
  · split
    · have hlock := hrun (mapGrants_cardLaw Grant.dozeResume_holder
        (h.blocks (t := { s with clock := { s.clock with fastClock := .locked, regime := .run } }) rfl rfl rfl))
      unfold lockEvent
      dsimp only
      split
      · exact hlock.frame (by simp) (by simp) (by simp)
      · exact hlock.blocks rfl rfl rfl
    · exact h
  · exact h

/-- A millisecond moves the bridge's timers alone (R121, R126). -/
theorem Bridge.tick_alike (b : Bridge) : b.tick.Alike b where
  slot := rfl
  result := by cases h : b.exchange <;> simp [Bridge.tick, h]
  idle := by cases h : b.exchange <;> simp [Bridge.tick, h]
  record := by cases h : b.exchange <;> simp [Bridge.tick, Bridge.record, h]
  inFlight := by cases h : b.exchange <;> simp [Bridge.tick, Bridge.isInFlight, h]
  reset := by simp [Bridge.tick, Function.comp_def]

theorem millisecond_cardLaw (h : CardLaw s) : CardLaw (millisecond s) :=
  mapGrants_cardLaw (Grant.tick_holder _) (h.alike (Bridge.tick_alike _) rfl fun l => by
    cases l <;> exact Port.tick_inFlight _)

/-- Every due event, in the order in which the model takes them (log entry 5). -/
theorem takeDue_cardLaw (h : CardLaw s) : CardLaw (takeDue s) := by
  have hkept := cardLaw_keptUnderHolders
  have hframes : CardLaw (frameStall .r (frameStall .a (frameStall .p s))) := h.frame (by simp) (by simp) (by simp)
  have hquarter := hkept.quarterBoundary .printer (hkept.quarterBoundary .cless
    (hkept.quarterBoundary .display (hkept.quarterBoundary .keypad hframes)))
  have hheld := hkept.heldQuarter .printer (hkept.heldQuarter .cless
    (hkept.heldQuarter .display (hkept.heldQuarter .keypad hquarter)))
  have hblink {t : State} (ht : CardLaw t) : CardLaw (blinkToggle t) := ht.blocks (by simp) (by simp) (by simp)
  exact lockIfDue_cardLaw (slotBoundary_cardLaw (fieldResetExpiry_cardLaw (exchangeTimeout_cardLaw
    (printerStall_cardLaw (hblink (forcedSwitch_cardLaw (holdTimerMatch_cardLaw (keyScan_cardLaw _ hheld))))))))

theorem referenceCycle_cardLaw (h : CardLaw s) : CardLaw (referenceCycle s) := by
  have hdue := takeDue_cardLaw h
  unfold referenceCycle
  dsimp only
  split
  · exact hdue.blocks rfl rfl rfl
  · exact millisecond_cardLaw (hdue.blocks rfl rfl rfl)

theorem referenceCycles_cardLaw (n : Nat) (h : CardLaw s) : CardLaw (referenceCycles n s) := by
  induction n generalizing s with
  | zero => exact h
  | succ n ih => exact ih (referenceCycle_cardLaw h)

theorem fastClockLock_cardLaw (h : CardLaw s) : CardLaw (fastClockLock s) := by
  unfold fastClockLock
  split
  · split
    · exact lockIfDue_cardLaw (referenceCycles_cardLaw _ h)
    · exact h
  · exact h

/-- After a part reset CLESS is FREE, no frame is in flight, and the field reset is no turnover's (R131). -/
theorem partReset_cardLaw (c : ResetCause) (s : State) : CardLaw (partReset c s) := by
  have hnone (l : Link) : (partReset c s).inFlightFrom l .clResult = false := by cases l <;> rfl
  have hreset : ¬ (partReset c s).bridge.ResetsForTurnover := fun ⟨f, hf, hfor⟩ => by cases hf; cases hfor
  exact State.CardFree.cardLaw ⟨rfl, ⟨rfl, hnone⟩, hreset⟩ nofun

end Sys2Proof.Machine
end

section
/-! SUPPORT. That every request keeps the law of the contactless bridge, and so every step (O56). -/

namespace Sys2Proof.Machine

variable {s : State} {r : Resource} {l : Link}

theorem processWhere_cardLaw {mine : Frame → Bool} {k : ReqKind} {handler : Handler}
    (hh : ∀ w b t, CardLaw t → CardLaw (handler l w b t).1) (h : CardLaw s) :
    CardLaw (processWhere mine k handler l s) := by
  have hreply {t : State} (f : Frame) (ht : CardLaw t) : CardLaw (placeReply l f t) := ht.setPort_same rfl
  have hdrop : CardLaw (dropOldest l s) := h.setPort_same rfl
  unfold processWhere
  split
  · split
    · unfold processFrame
      dsimp only
      split
      · exact hreply _ hdrop
      · exact hreply _ (hh _ _ _ hdrop)
    · exact h
  · exact h

/-- A request that leaves the ports, the custody unit and the bridge as they stand. -/
theorem frame_cardLaw {mine : Frame → Bool} {k : ReqKind} {handler : Handler}
    (hh : ∀ w b t, (handler l w b t).1.bridge = t.bridge ∧ (handler l w b t).1.custody = t.custody
      ∧ (handler l w b t).1.ports = t.ports) (h : CardLaw s) : CardLaw (processWhere mine k handler l s) :=
  processWhere_cardLaw (fun w b t ht => by
    obtain ⟨hbridge, hcustody, hports⟩ := hh w b t
    exact ht.blocks hbridge hcustody hports) h

theorem conditionsHandler_cardLaw (l : Link) (w : Subject) (b : List Byte) (h : CardLaw s) :
    CardLaw (conditionsHandler l w b s).1 := by
  unfold conditionsHandler
  (repeat' split) <;> first | exact h | exact h.setPort_same rfl

theorem conditionsEnableHandler_cardLaw (l : Link) (w : Subject) (b : List Byte) (h : CardLaw s) :
    CardLaw (conditionsEnableHandler l w b s).1 := by
  unfold conditionsEnableHandler
  (repeat' split) <;> first | exact h | exact h.setPort_same rfl

/-! ## CL_EXCHANGE and CL_SETUP (R117, R128) -/

/-- An exchange is armed for CLESS's holder alone, on an IDLE bridge. -/
theorem clExchangeHandler_cardLaw (l : Link) (w : Subject) (b : List Byte) (h : CardLaw s) :
    CardLaw (clExchangeHandler l w b s).1 := by
  unfold clExchangeHandler
  split
  · split
    · exact h
    next hholds =>
      split
      · exact h
      · split
        · exact h
        next hidle => exact armExchange_cardLaw (not_not.mp hidle) (holds_iff.mp (not_not.mp hholds)) h
  · exact h

theorem clSetupHandler_cardLaw (l : Link) (w : Subject) (b : List Byte) (h : CardLaw s) :
    CardLaw (clSetupHandler l w b s).1 := by
  unfold clSetupHandler
  split
  · exact h.alike ⟨rfl, Iff.rfl, Iff.rfl, rfl, rfl, rfl⟩ rfl fun _ => rfl
  · exact h

/-! ## Channels (R152 to R154, R162 to R164) -/

theorem chBindHandler_cardLaw (l : Link) (w : Subject) (b : List Byte) (h : CardLaw s) :
    CardLaw (chBindHandler l w b s).1 := by
  have hbind (c : Fin 32) (x : Binding) : CardLaw (bindChannel c x s) := notifyLink_cardLaw _ _ (h.blocks rfl rfl rfl)
  unfold chBindHandler
  dsimp only
  (repeat' split) <;> first | exact h | exact hbind _ _

theorem unbindChannel_cardLaw (c : Fin 32) (h : CardLaw s) : CardLaw (unbindChannel c s) := by
  unfold unbindChannel
  split
  · exact h
  next b _ =>
    have hforward : CardLaw (cancelFrom .r (.forward c) s) := cancelFrom_cardLaw _ _ h
    exact (cancelFrom_cardLaw b.owner.link (.deliver c) hforward).blocks rfl rfl rfl

theorem chUnbindHandler_cardLaw (l : Link) (w : Subject) (b : List Byte) (h : CardLaw s) :
    CardLaw (chUnbindHandler l w b s).1 := by
  have hclosed (c : Fin 32) : CardLaw (notifyClosedRad c .unbind (unbindChannel c s)) :=
    notifyLink_cardLaw _ _ (unbindChannel_cardLaw c h)
  unfold chUnbindHandler
  dsimp only
  (repeat' split) <;> first | exact h | exact hclosed _ | exact notifySubject_cardLaw _ _ (hclosed _)

theorem retireChannel_cardLaw (n : Fin 16) (c : Fin 32) (h : CardLaw s) : CardLaw (retireChannel n s c) := by
  unfold retireChannel
  split
  · split
    · exact notifySubject_cardLaw _ _ (notifyLink_cardLaw _ _ (unbindChannel_cardLaw c h))
    · exact h
  · exact h

theorem restartChannel_cardLaw (l : Link) (c : Fin 32) (h : CardLaw s) : CardLaw (restartChannel l s c) := by
  unfold restartChannel
  split
  · exact notifyLink_cardLaw _ _ (unbindChannel_cardLaw c h)
  · exact h

theorem resetChannel_cardLaw (before : State) (c : Fin 32) (h : CardLaw s) : CardLaw (resetChannel before s c) := by
  unfold resetChannel
  split
  next b _ => exact notifySubject_cardLaw _ _ ((cancelFrom_cardLaw b.owner.link (.deliver c) h).blocks rfl rfl rfl)
  next => exact h

/-! ## Policy and tenants (R31 to R39) -/

theorem tenantEffects_cardLaw (n : Fin 16) (old new : TenantState) (h : CardLaw s) :
    CardLaw (tenantEffects n old new s) := by
  have hend : CardLaw (if old = .active ∧ new ≠ .active then endAllStanding (.app n) s else s) := by
    split
    · exact cardLaw_keptUnderHolders.endAllStanding _ h
    · exact h
  unfold tenantEffects
  dsimp only
  split
  · exact List.foldlRecOn _ _ hend fun _ ht c _ => retireChannel_cardLaw n c ht
  · exact hend

theorem policySetHandler_cardLaw (l : Link) (w : Subject) (b : List Byte) (h : CardLaw s) :
    CardLaw (policySetHandler l w b s).1 := by
  unfold policySetHandler
  split
  · split
    · split
      · exact h
      · exact cardLaw_keptUnderHolders.policyEffects _ _ (h.blocks rfl rfl rfl)
    · exact h
  · exact h

theorem tenantSetHandler_cardLaw (l : Link) (w : Subject) (b : List Byte) (h : CardLaw s) :
    CardLaw (tenantSetHandler l w b s).1 := by
  unfold tenantSetHandler
  dsimp only
  (repeat' split) <;> first | exact h | exact tenantEffects_cardLaw _ _ _ (h.blocks rfl rfl rfl)

/-! ## Claims (R46 to R50) -/

theorem takeArrival_cardLaw (h : CardLaw s) : CardLaw (takeArrival s).2 := h.frame rfl rfl fun _ => rfl

/-- A FREE CLESS has left no exchange and no result, so its grant finds none (R48). -/
theorem claimFree_cardLaw (c : ClaimTerms) (hf : (s.entry c.resource).state = .free) (h : CardLaw s) :
    CardLaw (claimFree c s).1 := by
  unfold claimFree
  dsimp only
  split
  · exact enterTurnover_cardLaw _ nofun (setWaiting_cardLaw _ _ (takeArrival_cardLaw h))
  · exact startGrant_cardLaw hf (takeArrival_cardLaw h)

theorem claimTaken_cardLaw (c : ClaimTerms) (h : CardLaw s) : CardLaw (claimTaken c s).1 := by
  have hqueue : CardLaw (claimQueue c s).1 := changeWaiting_cardLaw _ _ (takeArrival_cardLaw h)
  have hpreempt (g : Grant) : CardLaw (claimPreempt c g s).1 :=
    cardLaw_keptUnderHolders.revokeGrant _ _ _ (setWaiting_cardLaw _ _ (takeArrival_cardLaw h))
  unfold claimTaken
  dsimp only
  (repeat' split) <;> first | exact h | exact hqueue | exact hpreempt _

theorem claimHandler_cardLaw (l : Link) (w : Subject) (b : List Byte) (h : CardLaw s) :
    CardLaw (claimHandler l w b s).1 := by
  have hdecide (c : ClaimTerms) : CardLaw (decideClaim c s).1 := by
    unfold decideClaim
    dsimp only
    split
    · exact h
    · split
      · exact h
      · split
        next hf => exact claimFree_cardLaw c hf h
        next => exact claimTaken_cardLaw c h
  unfold claimHandler
  dsimp only
  (repeat' split) <;> first | exact h | exact hdecide _

/-! ## PRINT_FLUSH (R109) -/

theorem printFlushHandler_cardLaw (l : Link) (w : Subject) (b : List Byte) (h : CardLaw s) :
    CardLaw (printFlushHandler l w b s).1 := by
  unfold printFlushHandler
  split
  · exact runPrinter_cardLaw (h.blocks rfl rfl rfl)
  · exact h

/-! ## RESTART (R21, R64, R145, R163, R164) -/

theorem restartLink_cardLaw (l : Link) (h : CardLaw s) : CardLaw (restartLink l s) := by
  unfold restartLink
  dsimp only
  split
  · exact cancelInFlight_cardLaw l ((h.blocks rfl rfl rfl).setPort_same rfl)
  · exact cancelInFlight_cardLaw l (h.setPort_same rfl)

theorem restartEntry_cardLaw (l : Link) (r : Resource) (h : CardLaw s) : CardLaw (restartEntry l s r) := by
  unfold restartEntry
  extract_lets ws held
  split
  next hheld =>
    refine enterTurnover_cardLaw .revoked (fun hr => ?_) (setWaiting_cardLaw r ws h)
    subst hr
    have hholder : (s.setWaiting .cless ws).holder .cless = s.holder .cless := by
      rw [State.holder, setWaiting_entry_self]
      rfl
    rw [hholder]
    cases hs : s.holder .cless with
    | none => simp [held, hs] at hheld
    | some w => rfl
  next =>
    split
    · exact changeWaiting_cardLaw r ws h
    · exact h

theorem restartAir_cardLaw (l : Link) (h : CardLaw s) : CardLaw (restartAir l s) := by
  unfold restartAir
  split
  · exact judgeGate_cardLaw (h.blocks rfl rfl rfl)
  · exact h

theorem restartHandler_cardLaw (l : Link) (w : Subject) (b : List Byte) (h : CardLaw s) :
    CardLaw (restartHandler l w b s).1 := by
  have hcustody : CardLaw (restartCustody l (restartLink l s)) := by
    have hlink := restartLink_cardLaw l h
    unfold restartCustody
    split
    · exact hlink
    · exact List.foldlRecOn _ _ hlink fun _ ht r _ => restartEntry_cardLaw l r ht
  have hrelay : CardLaw (restartRelay l s (restartCustody l (restartLink l s))) := by
    unfold restartRelay
    split
    · exact List.foldlRecOn _ _ hcustody fun _ ht c _ => resetChannel_cardLaw s c ht
    · exact List.foldlRecOn _ _ hcustody fun _ ht c _ => restartChannel_cardLaw l c ht
  exact restartAir_cardLaw l hrelay

theorem processPartReset_cardLaw (l : Link) (h : CardLaw s) : CardLaw (processPartReset l s) := by
  unfold processPartReset
  split
  · exact h
  · split
    · exact h
    · split
      · exact partReset_cardLaw .request s
      · split
        · exact h.frame (by simp) (by simp) (by simp)
        · exact h

/-! ## Every step -/

theorem after_cardLaw (c : Instr) (h : CardLaw s) : CardLaw (after c s) := by
  have hkept := cardLaw_keptUnderHolders
  cases c
  case restart l => exact processWhere_cardLaw (fun w b _ ht => restartHandler_cardLaw l w b ht) h
  case policySet l => exact processWhere_cardLaw (fun w b _ ht => policySetHandler_cardLaw l w b ht) h
  case tenantSet l => exact processWhere_cardLaw (fun w b _ ht => tenantSetHandler_cardLaw l w b ht) h
  case claim l => exact processWhere_cardLaw (fun w b _ ht => claimHandler_cardLaw l w b ht) h
  case release l => exact processWhere_cardLaw (fun w b _ ht => hkept.releaseHandler l w b ht) h
  case withdraw l => exact processWhere_cardLaw (fun w b _ ht => hkept.withdrawHandler l w b ht) h
  case renew l => exact processWhere_cardLaw (fun w b _ ht => (hkept.leaseRequests l w b ht).1) h
  case setGrain l => exact processWhere_cardLaw (fun w b _ ht => (hkept.leaseRequests l w b ht).2.1) h
  case hold l => exact processWhere_cardLaw (fun w b _ ht => (hkept.leaseRequests l w b ht).2.2.1) h
  case resume l => exact processWhere_cardLaw (fun w b _ ht => (hkept.leaseRequests l w b ht).2.2.2) h
  case printFlush l => exact processWhere_cardLaw (fun w b _ ht => printFlushHandler_cardLaw l w b ht) h
  case conditions l => exact processWhere_cardLaw (fun w b _ ht => conditionsHandler_cardLaw l w b ht) h
  case conditionsEnable l => exact processWhere_cardLaw (fun w b _ ht => conditionsEnableHandler_cardLaw l w b ht) h
  case clExchange l => exact processWhere_cardLaw (fun w b _ ht => clExchangeHandler_cardLaw l w b ht) h
  case clSetup l => exact processWhere_cardLaw (fun w b _ ht => clSetupHandler_cardLaw l w b ht) h
  case chBind l => exact processWhere_cardLaw (fun w b _ ht => chBindHandler_cardLaw l w b ht) h
  case chUnbind l => exact processWhere_cardLaw (fun w b _ ht => chUnbindHandler_cardLaw l w b ht) h
  case partReset l => exact processPartReset_cardLaw l h
  case pinReset => exact partReset_cardLaw .pin s
  case powerUp => exact partReset_cardLaw .power s
  case outboundChoice l => exact outboundChoice_cardLaw l h
  case frameComplete l => exact frameComplete_cardLaw l h
  case frameReceived l b => simp only [after]; split; exacts [moveByte_cardLaw l b h, h]
  case frameLengthAbandoned l b => simp only [after]; split; exacts [moveByte_cardLaw l b h, h]
  case transferEnd l => exact transferEnd_cardLaw l h
  case arrivingByte l a => exact arrive_cardLaw l a h
  case quarterBoundary r => exact hkept.quarterBoundary r h
  case heldQuarter r => exact hkept.heldQuarter r h
  case keyScan contacts => exact keyScan_cardLaw contacts h
  case holdTimerMatch => exact holdTimerMatch_cardLaw h
  case fsyncEdge => exact fsyncEdge_cardLaw h
  case forcedSwitch => exact forcedSwitch_cardLaw h
  case characterComplete => exact characterComplete_cardLaw h
  case printerStall => exact printerStall_cardLaw h
  case writeComplete => exact writeComplete_cardLaw h
  case clrdyActive level => exact clrdyLevel_cardLaw level h
  case exchangeTimeout => exact exchangeTimeout_cardLaw h
  case abortComplete => exact abortComplete_cardLaw h
  case readComplete a bs => exact readComplete_cardLaw a bs h
  case fieldResetExpiry => exact fieldResetExpiry_cardLaw h
  case slotBoundary => exact slotBoundary_cardLaw h
  case txRequestFall f => exact txRequestFall_cardLaw f h
  case partTimeTick => exact referenceCycles_cardLaw _ h
  case fastClockLock => exact fastClockLock_cardLaw h
  case transferStart | frameStall | unknownKind | blinkTimer | prdyActive | clfevEdge
      | txRequestRise => exact h.frame (by simp [after]) (by simp [after]) (by simp [after])
  case time | policyGet | tenantGet | custodyQuery | keySetup | matchSetup | print | printSetup | airMap | airQuery
      | chQuery | chQuerySummary | send | data | doze => exact frame_cardLaw (fun _ _ _ => by simp) h

/-- Settles O56: every command and every reference cycle keeps the law of the contactless bridge. -/
theorem cardResultsStayTheHolders : Obligations.CardResultsStayTheHolders := fun _ _ hstep _ hs =>
  step_keeps CardLaw (fun _ _ h => h) (fun c _ h => after_cardLaw c h) (fun _ h => referenceCycle_cardLaw h) hstep hs

end Sys2Proof.Machine
end

section
/-! SUPPORT. The judgements of the air schedule, each for all three functions at once (R136, R137, R139, R140): the
grant state that each function is given, and when RADIO_OVERRUN is set; and the start gate (R118, R141). -/

namespace Sys2Proof.Machine

variable {s t : State} {f : RadioFn} {x : Exchange}

theorem PerRadio.set_get {α : Type} (m : PerRadio α) (f : RadioFn) : m.set f (m.get f) = m := by cases f <;> rfl

/-! ## One judgement for the three functions -/

/-- An operation that gives one function its next grant state, and sets RADIO_OVERRUN exactly where that withdraws its
grant. The state it gives depends on the function's own grant state, the slot, the map in force and the bridge. -/
structure JudgesEach (op : RadioFn → State → State) (next : RadioFn → State → RadioGrant) : Prop where
  air : ∀ f s, (op f s).air = { s.air with grants := s.air.grants.set f (next f s) }
  bridge : ∀ f s, (op f s).bridge = s.bridge
  conditions : ∀ f s, ((op f s).port .p).conditions =
    if s.air.grants.get f = .granted ∧ next f s = .overrun then (s.port .p).conditions ||| Condition.radioOverrun.bit
    else (s.port .p).conditions
  congr : ∀ f s t, t.air.inForce = s.air.inForce → t.air.slot = s.air.slot → t.bridge = s.bridge →
    t.air.grants.get f = s.air.grants.get f → next f t = next f s

namespace JudgesEach

variable {op : RadioFn → State → State} {next : RadioFn → State → RadioGrant}

/-- The judgement of one function leaves what another's depends on. -/
theorem other (h : JudgesEach op next) {f g : RadioFn} (hfg : f ≠ g) (s : State) :
    next f (op g s) = next f s ∧ (op g s).air.grants.get f = s.air.grants.get f := by
  have hget : (op g s).air.grants.get f = s.air.grants.get f := by rw [h.air]; simp [PerRadio.get_set, hfg]
  exact ⟨h.congr f s (op g s) (by rw [h.air]) (by rw [h.air]) (h.bridge g s) hget, hget⟩

/-- All three functions judged, each as if alone. -/
theorem all (h : JudgesEach op next) (s : State) :
    (op .bt (op .wlan (op .cell s))).air = { s.air with grants := ⟨next .cell s, next .wlan s, next .bt s⟩ } := by
  rw [h.air, h.air, h.air, (h.other (by decide) _).1, (h.other (by decide) _).1, (h.other (by decide) _).1]
  rfl

theorem all_get (h : JudgesEach op next) (s : State) (f : RadioFn) :
    (op .bt (op .wlan (op .cell s))).air.grants.get f = next f s := by
  rw [h.all]
  cases f <;> rfl

/-- RADIO_OVERRUN is set where any grant is withdrawn, and nowhere else (R140). -/
theorem all_conditions (h : JudgesEach op next) (s : State) :
    ((op .bt (op .wlan (op .cell s))).port .p).conditions =
      if ∃ f ∈ allRadio, s.air.grants.get f = .granted ∧ next f s = .overrun
      then (s.port .p).conditions ||| Condition.radioOverrun.bit else (s.port .p).conditions := by
  rw [h.conditions, h.conditions, h.conditions, (h.other (by decide) _).1, (h.other (by decide) _).1,
    (h.other (by decide) _).1, (h.other (by decide) _).2, (h.other (by decide) _).2, (h.other (by decide) _).2]
  by_cases hc : s.air.grants.get .cell = .granted ∧ next .cell s = .overrun <;>
    by_cases hw : s.air.grants.get .wlan = .granted ∧ next .wlan s = .overrun <;>
    by_cases hb : s.air.grants.get .bt = .granted ∧ next .bt s = .overrun <;>
    simp [allRadio, hc, hw, hb, BitVec.or_assoc]

end JudgesEach

/-! ## The three judgements -/

theorem mayTransmit_iff : s.mayTransmit f = true ↔
    s.eligible f = true ∧ (s.air.inForce.tolerant.get f = true ∨ s.bridge.isInFlight = false) := by
  simp [State.mayTransmit]

theorem mayTransmit_congr (hm : t.air.inForce = s.air.inForce) (hs : t.air.slot = s.air.slot)
    (hb : t.bridge = s.bridge) : t.mayTransmit f = s.mayTransmit f := by
  simp only [State.mayTransmit, State.eligible, hm, hs, hb]

/-- A WAITING function that may transmit is granted (R137). -/
def waitingNext (f : RadioFn) (s : State) : RadioGrant :=
  if s.air.grants.get f = .waiting ∧ s.mayTransmit f = true then .granted else s.air.grants.get f

theorem judgeWaiting_judges : JudgesEach judgeWaiting waitingNext where
  air f s := by
    unfold judgeWaiting waitingNext
    split
    · rfl
    · rw [PerRadio.set_get]
  bridge f s := by simp
  conditions f s := by
    have hn : ¬ (s.air.grants.get f = .granted ∧ waitingNext f s = .overrun) := fun ⟨hg, ho⟩ => by
      simp [waitingNext, hg] at ho
    rw [if_neg hn, (judgeWaiting_reads f s).1]
  congr f s t hm hs hb hg := by rw [waitingNext, hg, mayTransmit_congr hm hs hb, waitingNext]

/-- The state with a function's grant withdrawn (R140). -/
theorem withdrawGrant_air (f : RadioFn) (s : State) :
    (withdrawGrant f s).air = { s.air with grants := s.air.grants.set f .overrun } := by
  simp [withdrawGrant, State.setRadio]

theorem withdrawGrant_conditions (f : RadioFn) (s : State) : ((withdrawGrant f s).port .p).conditions =
    (s.port .p).conditions ||| Condition.radioOverrun.bit := by
  simp [withdrawGrant, setCondition_port, Port.join, State.setRadio]

/-- At a slot boundary a grant that may not go on is withdrawn, and a WAITING function is judged (R137, R139). -/
def boundaryNext (f : RadioFn) (s : State) : RadioGrant :=
  if s.air.grants.get f = .granted ∧ s.mayTransmit f = false then .overrun else waitingNext f s

theorem boundaryNext_eq (f : RadioFn) (s : State) : boundaryNext f s =
    match s.air.grants.get f with
    | .idle => .idle
    | .overrun => .overrun
    | .waiting => if s.mayTransmit f then .granted else .waiting
    | .granted => if s.mayTransmit f then .granted else .overrun := by
  unfold boundaryNext waitingNext
  cases s.air.grants.get f <;> cases s.mayTransmit f <;> rfl

theorem boundaryJudge_eq (f : RadioFn) (s : State) : boundaryJudge f s =
    if s.air.grants.get f = .granted ∧ s.mayTransmit f = false then withdrawGrant f s else judgeWaiting f s := by
  unfold boundaryJudge
  split
  next hg => cases hm : s.mayTransmit f <;> simp [judgeWaiting, hg]
  next hg => rw [if_neg fun hc => hg hc.1]

theorem boundaryJudge_judges : JudgesEach boundaryJudge boundaryNext where
  air f s := by
    rw [boundaryJudge_eq, boundaryNext]
    split
    · exact withdrawGrant_air f s
    · exact judgeWaiting_judges.air f s
  bridge f s := by simp
  conditions f s := by
    rw [boundaryJudge_eq, boundaryNext]
    split
    next h => rw [if_pos ⟨h.1, rfl⟩, withdrawGrant_conditions]
    next => exact judgeWaiting_judges.conditions f s
  congr f s t hm hs hb hg := by
    rw [boundaryNext, hg, mayTransmit_congr hm hs hb, judgeWaiting_judges.congr f s t hm hs hb hg, boundaryNext]

/-- As an exchange is armed in an OPEN slot, a grant that is not tolerant is withdrawn (R139). -/
def armingNext (f : RadioFn) (s : State) : RadioGrant :=
  if s.air.grants.get f = .granted ∧ s.air.inForce.tolerant.get f = false ∧ s.air.inForce.isOpen s.air.slot = true then
    .overrun
  else s.air.grants.get f

theorem armingJudge_judges : JudgesEach armingJudge armingNext where
  air f s := by
    unfold armingJudge armingNext
    split
    · exact withdrawGrant_air f s
    · rw [PerRadio.set_get]
  bridge f s := by simp
  conditions f s := by
    unfold armingJudge armingNext
    split
    next h => rw [if_pos ⟨h.1, rfl⟩, withdrawGrant_conditions]
    next => rw [if_neg fun ⟨hg, ho⟩ => by simp [hg] at ho]
  congr f s t hm hs _ hg := by rw [armingNext, hm, hs, hg, armingNext]

/-- With no exchange ARMED or in flight a function may transmit in its own slots and in OPEN ones (R136, R137). -/
theorem mayTransmit_of_quiet (ha : s.bridge.isArmed = false) (hf : s.bridge.isInFlight = false) :
    s.mayTransmit f = true ↔ s.air.inForce.owns f s.air.slot = true ∨ s.air.inForce.isOpen s.air.slot = true := by
  by_cases ho : s.air.inForce.owns f s.air.slot = true <;> simp [State.mayTransmit, State.eligible, ha, hf, ho]

/-! ## The start gate (R118, R141) -/

theorem mem_allRadio (fn : RadioFn) : fn ∈ allRadio := by cases fn <;> simp [allRadio]

theorem gateOpen_iff : s.gateOpen = true ↔
    (s.air.inForce.isNfc s.air.slot = true ∨ s.air.inForce.isOpen s.air.slot = true)
      ∧ ∀ fn : RadioFn, s.air.inForce.tolerant.get fn = false → s.air.grants.get fn ≠ .granted := by
  have hall {p : RadioFn → Prop} : (∀ fn ∈ allRadio, p fn) ↔ ∀ fn, p fn :=
    ⟨fun h fn => h fn (mem_allRadio fn), fun h fn _ => h fn⟩
  simp only [State.gateOpen, Bool.and_eq_true, Bool.or_eq_true, List.all_eq_true, bne_iff_ne, hall]
  refine and_congr_right fun _ => forall_congr' fun fn => ?_
  cases s.air.inForce.tolerant.get fn <;> simp

/-- An ARMED exchange starts: the gate is open, CLRST inactive and the fast clock LOCKED (R118, R141, R169). -/
def State.MayStart (s : State) : Prop :=
  s.gateOpen = true ∧ s.bridge.fieldReset = none ∧ s.clock.fastClock = .locked

theorem judgeGate_not_armed (h : ∀ x, s.bridge.exchange ≠ .armed x) : judgeGate s = s := by
  unfold judgeGate
  split
  next he => exact absurd he (h _)
  next => rfl

theorem mayStart_iff : (s.gateOpen && !s.clrst && s.fastLocked) = true ↔ s.MayStart := by
  simp [State.MayStart, State.clrst, State.fastLocked, and_assoc]

theorem judgeGate_starts (he : s.bridge.exchange = .armed x) (h : s.MayStart) :
    judgeGate s = { s with bridge := { s.bridge with exchange := .sending x } } := by
  unfold judgeGate
  rw [he]
  exact if_pos (mayStart_iff.mpr h)

theorem judgeGate_stays (he : s.bridge.exchange = .armed x) (h : ¬ s.MayStart) : judgeGate s = s := by
  unfold judgeGate
  rw [he]
  exact if_neg (mayStart_iff.not.mpr h)

end Sys2Proof.Machine
end

section
/-! SUPPORT. An exchange from its WRITE to its end (R119 to R123), and the front-end bus under it (R116): O43 and
O44. -/

namespace Sys2Proof.Machine

variable {s : State} {x : Exchange}

/-! ## From WRITE to response or timeout (R119 to R122) -/

theorem tryReceive_ready (hc : s.lines.clrdy = true) (hl : s.clock.fastClock = .locked) :
    tryReceive x s = { s with bridge := { s.bridge with exchange := .receiving x } } :=
  if_pos ⟨hc, by simp [State.fastLocked, hl]⟩

theorem tryReceive_waits (h : s.lines.clrdy = false ∨ s.clock.fastClock ≠ .locked) : tryReceive x s = s := by
  refine if_neg fun ⟨hc, hl⟩ => ?_
  rcases h with h | h
  · simp [h] at hc
  · exact h (by simpa [State.fastLocked] using hl)

theorem writeComplete_sending (he : s.bridge.exchange = .sending x) : writeComplete s =
    tryReceive x { s with bridge := { s.bridge with exchange := .awaiting x .zero } } := by
  unfold writeComplete
  rw [he]

theorem writeComplete_other (h : ∀ y, s.bridge.exchange ≠ .sending y) : writeComplete s = s := by
  unfold writeComplete
  split
  next he => exact absurd he (h _)
  next => rfl

theorem clrdyLevel_awaiting {t0 : Timer} (he : s.bridge.exchange = .awaiting x t0) (level : Bool) :
    clrdyLevel level s = tryReceive x { s with lines := { s.lines with clrdy := level } } := by
  unfold clrdyLevel
  dsimp only
  rw [he]

theorem clrdyLevel_quiet {level : Bool} (h : (∀ y t0, s.bridge.exchange ≠ .awaiting y t0) ∨ level = false) :
    clrdyLevel level s = { s with lines := { s.lines with clrdy := level } } := by
  unfold clrdyLevel
  dsimp only
  split
  next he => exact tryReceive_waits (.inl (h.resolve_left fun hn => hn _ _ he))
  next => rfl

theorem exchangeTimeout_due {t0 : Timer} (he : s.bridge.exchange = .awaiting x t0) (hd : t0.due = true)
    (hl : s.clock.fastClock = .locked) :
    exchangeTimeout s = { s with bridge := { s.bridge with exchange := .aborting x } } := by
  unfold exchangeTimeout
  rw [he]
  exact if_pos ⟨hd, by simp [State.fastLocked, hl]⟩

theorem exchangeTimeout_not_due (h : ∀ y t0, s.bridge.exchange = .awaiting y t0 → t0.due = false) :
    exchangeTimeout s = s := by
  unfold exchangeTimeout
  split
  next he => exact if_neg fun hd => by simp [h _ _ he] at hd
  next => rfl

/-! ## The front-end bus (R116) -/

/-- CLCLK runs at the fast clock divided by 16 exactly while a transaction is under way. -/
theorem clclk_eq (s : State) : s.clclk = if s.bridge.transaction.isSome then some (50331648 / 16) else none := rfl

theorem clclk_runs {b : BusTransaction} (h : s.bridge.transaction = some b) : s.clclk = some (50331648 / 16) := by
  rw [clclk_eq, h]
  rfl

theorem transaction_none (h : ∀ y, s.bridge.exchange ≠ .sending y ∧ s.bridge.exchange ≠ .receiving y
    ∧ s.bridge.exchange ≠ .aborting y) : s.bridge.transaction = none := by
  unfold Bridge.transaction
  split
  next y he => exact absurd he (h y).1
  next y he => exact absurd he (h y).2.1
  next y he => exact absurd he (h y).2.2
  next => rfl

/-- Settles O43: each event of the exchange in the states it belongs to and in every other, and the bus by the
transaction under way. -/
theorem exchangeRunsItsCourse : Obligations.ExchangeRunsItsCourse := by
  intro x s
  refine ⟨fun he h => ?_, fun he hc hl => ?_, fun h => ?_, fun t0 he hl => ?_, fun level h => ?_, fun t0 he hd hl => ?_,
    fun h => ?_, fun available => ⟨fun he => ?_, fun he => ?_, fun he => ?_, fun h => ?_⟩⟩
  · rw [exec_after, after, writeComplete_sending he, tryReceive_waits (by exact h)]
    rfl
  · rw [exec_after, after, writeComplete_sending he, tryReceive_ready (by exact hc) (by exact hl)]
  · rw [exec_after, after, writeComplete_other h]
  · rw [exec_after, after, clrdyLevel_awaiting he, tryReceive_ready rfl (by exact hl)]
  · rw [exec_after, after, clrdyLevel_quiet h]
  · rw [exec_after, after, exchangeTimeout_due he hd hl]
  · rw [exec_after, after, exchangeTimeout_not_due h]
  · have hb : s.bridge.transaction = some (.write x.command) := by simp [Bridge.transaction, he]
    exact ⟨clclk_runs hb, by rw [hb]; rfl⟩
  · have hb : s.bridge.transaction = some (.read x.expected) := by simp [Bridge.transaction, he]
    exact ⟨clclk_runs hb, by rw [hb]; rfl⟩
  · have hb : s.bridge.transaction = some .abort := by simp [Bridge.transaction, he]
    exact ⟨clclk_runs hb, by rw [hb]; rfl⟩
  · have hb := transaction_none h
    exact ⟨by rw [clclk_eq, hb]; rfl, hb⟩

/-! ## The end of an exchange (R121 to R123) -/

/-- The bridge after an exchange with this result: DONE or TIMEOUT in the slot, or, where it is marked, IDLE with the
field reset of the turnover (R123, R125). -/
def Bridge.ended (b : Bridge) (x : Exchange) (y : ClResult) : Bridge :=
  if x.discard then
    { b with exchange := .idle, fieldReset := some { timer := .zero, interval := b.interval, forTurnover := true } }
  else { b with exchange := .result, slot := some y }

/-- With no exchange ARMED or in flight, a WAITING function is granted in its own slots and in OPEN ones (R137). -/
theorem judgeAll_quiet (ha : s.bridge.isArmed = false) (hf : s.bridge.isInFlight = false) (fn : RadioFn) :
    (judgeAll s).air.grants.get fn = if s.air.grants.get fn = .waiting
      ∧ (s.air.inForce.owns fn s.air.slot = true ∨ s.air.inForce.isOpen s.air.slot = true) then .granted
      else s.air.grants.get fn := by
  have hall := judgeWaiting_judges.all_get s fn
  simp only [waitingNext, mayTransmit_of_quiet ha hf] at hall
  exact hall

theorem endExchange_outcome (x : Exchange) (o : ExchangeOutcome) (a : Byte) (response : List Byte) (s : State) :
    (endExchange x o a response s).bridge = s.bridge.ended x
        { owner := x.owner, number := x.number, outcome := o, available := a
          truncated := decide (x.expected < a.toNat), response := response }
      ∧ ∀ fn : RadioFn, (endExchange x o a response s).air.grants.get fn = if s.air.grants.get fn = .waiting
          ∧ (s.air.inForce.owns fn s.air.slot = true ∨ s.air.inForce.isOpen s.air.slot = true) then .granted
          else s.air.grants.get fn := by
  unfold endExchange Bridge.ended
  split
  · exact ⟨by simp [beginFieldReset], fun fn => judgeAll_quiet (s := { s with bridge := _ }) rfl rfl fn⟩
  · exact ⟨by simp, fun fn => judgeAll_quiet (s := { s with bridge := _ }) rfl rfl fn⟩

theorem readComplete_receiving (he : s.bridge.exchange = .receiving x) (a : Byte) (r : List Byte) :
    readComplete a r s = endExchange x .done a (r.take (min a.toNat x.expected)) s := by
  unfold readComplete
  rw [he]

theorem readComplete_other (h : ∀ y, s.bridge.exchange ≠ .receiving y) (a : Byte) (r : List Byte) :
    readComplete a r s = s := by
  unfold readComplete
  split
  next he => exact absurd he (h _)
  next => rfl

theorem abortComplete_aborting (he : s.bridge.exchange = .aborting x) :
    abortComplete s = endExchange x .timeout 0 [] s := by
  unfold abortComplete
  rw [he]

theorem abortComplete_other (h : ∀ y, s.bridge.exchange ≠ .aborting y) : abortComplete s = s := by
  unfold abortComplete
  split
  next he => exact absurd he (h _)
  next => rfl

/-- Settles O44: both ends of an exchange are one operation, with the result of a READ and that of an ABORT. -/
theorem exchangeEndsWithItsResult : Obligations.ExchangeEndsWithItsResult := by
  intro x s
  refine ⟨fun available response he hlen => ⟨_, exec_after (.readComplete available response) s, ?_⟩,
    fun he => ⟨_, exec_after .abortComplete s, ?_⟩, fun h a r => ?_, fun h => ?_⟩
  · have htake : response.take (min available.toNat x.expected) = response.take x.expected := by
      rw [← hlen, List.take_eq_take_iff]
      omega
    obtain ⟨hbridge, hgrants⟩ := endExchange_outcome x .done available (response.take x.expected) s
    rw [after, readComplete_receiving he, htake, hbridge, hlen]
    exact ⟨fun hd => by rw [Bridge.ended, hd]; rfl, fun hd => by rw [Bridge.ended, hd]; rfl, hgrants⟩
  · obtain ⟨hbridge, hgrants⟩ := endExchange_outcome x .timeout 0 [] s
    rw [after, abortComplete_aborting he, hbridge]
    exact ⟨fun hd => by rw [Bridge.ended, hd]; rfl, fun hd => by rw [Bridge.ended, hd]; rfl, hgrants⟩
  · rw [exec_after, after, readComplete_other h]
  · rw [exec_after, after, abortComplete_other h]

end Sys2Proof.Machine
end

section
/-! SUPPORT. CL_EXCHANGE and CL_SETUP as functions of their bodies, and what the arming of an exchange brings about in
the same event (R117, R118, R128, R139 to R141): O42. -/

namespace Sys2Proof.Machine

variable {s t : State} {x : Exchange} {l : Link} {f : Frame} {who : Subject} {body command : List Byte} {eb tb : Byte}

/-! ## The arming (R117, R118, R139 to R141) -/

/-- The bridge with an exchange ARMED under the next exchange number. -/
def armWith (x : Exchange) (s : State) : State :=
  { s with bridge := { s.bridge with counter := s.bridge.counter + 1, exchange := .armed x } }

/-- The arming: withdrawals, then the gate. -/
def arm (x : Exchange) (s : State) : State := judgeGate (armingJudgeAll (armWith x s))

theorem armExchange_eq (e n : Nat) : armExchange who e n command s =
    arm { owner := who, number := s.bridge.counter + 1, command := command, expected := e, timeout := n
          discard := false } s := rfl

/-- Whether an exchange that is armed now starts at once: the withdrawals of an OPEN slot leave no grant that would keep
the gate shut. -/
def State.OpensAtArming (s : State) : Prop :=
  (s.air.inForce.isOpen s.air.slot = true ∨ (s.air.inForce.isNfc s.air.slot = true
    ∧ ∀ fn : RadioFn, s.air.inForce.tolerant.get fn = false → s.air.grants.get fn ≠ .granted))
    ∧ s.bridge.fieldReset = none ∧ s.clock.fastClock = .locked

theorem armingJudgeAll_gateOpen (s : State) : (armingJudgeAll s).gateOpen = true ↔
    s.air.inForce.isOpen s.air.slot = true ∨ (s.air.inForce.isNfc s.air.slot = true
      ∧ ∀ fn : RadioFn, s.air.inForce.tolerant.get fn = false → s.air.grants.get fn ≠ .granted) := by
  have hget (fn : RadioFn) : (armingJudgeAll s).air.grants.get fn = armingNext fn s := armingJudge_judges.all_get s fn
  have hmap : (armingJudgeAll s).air.inForce = s.air.inForce := congrArg (·.inForce) (armingJudge_judges.all s)
  have hslot : (armingJudgeAll s).air.slot = s.air.slot := congrArg (·.slot) (armingJudge_judges.all s)
  simp only [gateOpen_iff, hget, hmap, hslot]
  by_cases ho : s.air.inForce.isOpen s.air.slot = true
  · have hnext (fn : RadioFn) (ht : s.air.inForce.tolerant.get fn = false) : armingNext fn s ≠ .granted := by
      unfold armingNext
      split
      · nofun
      next hn => exact fun hg => hn ⟨hg, ht, ho⟩
    exact iff_of_true ⟨.inr ho, hnext⟩ (.inl ho)
  · simp [armingNext, ho]

theorem armingJudgeAll_mayStart (s : State) : (armingJudgeAll s).MayStart ↔ s.OpensAtArming := by
  simp [State.MayStart, State.OpensAtArming, armingJudgeAll_gateOpen]

/-- The armed exchange starts at once, or waits ARMED (R118). -/
theorem arm_bridge (x : Exchange) (s : State) :
    (s.OpensAtArming → (arm x s).bridge =
        { s.bridge with counter := s.bridge.counter + 1, exchange := .sending x })
      ∧ (¬ s.OpensAtArming → (arm x s).bridge =
        { s.bridge with counter := s.bridge.counter + 1, exchange := .armed x }) := by
  have hbridge : (armingJudgeAll (armWith x s)).bridge = (armWith x s).bridge := by simp
  have harmed : (armingJudgeAll (armWith x s)).bridge.exchange = .armed x := by rw [hbridge]; rfl
  have hopens : (armingJudgeAll (armWith x s)).MayStart ↔ s.OpensAtArming := armingJudgeAll_mayStart _
  refine ⟨fun h => ?_, fun h => ?_⟩
  · rw [arm, judgeGate_starts harmed (hopens.mpr h)]
    simp only [hbridge]
    rfl
  · rw [arm, judgeGate_stays harmed (hopens.not.mpr h), hbridge]
    rfl

theorem arm_grants (x : Exchange) (s : State) (fn : RadioFn) : (arm x s).air.grants.get fn = armingNext fn s := by
  have hair : (arm x s).air = (armingJudgeAll (armWith x s)).air := by simp [arm]
  rw [hair]
  exact armingJudge_judges.all_get (armWith x s) fn

theorem arm_conditions (x : Exchange) (s : State) : ((arm x s).port .p).conditions =
    if ∃ fn ∈ allRadio, s.air.grants.get fn = .granted ∧ armingNext fn s = .overrun
    then (s.port .p).conditions ||| Condition.radioOverrun.bit else (s.port .p).conditions := by
  rw [arm, (judgeGate_reads _).1]
  exact armingJudge_judges.all_conditions (armWith x s)

theorem arm_custody (x : Exchange) (s : State) : (arm x s).custody = s.custody := by simp [arm, armWith]

/-- The grants that an arming withdraws (R139). -/
theorem withdraws_iff {fn : RadioFn} : (s.air.grants.get fn = .granted ∧ armingNext fn s = .overrun) ↔
    s.air.grants.get fn = .granted ∧ s.air.inForce.tolerant.get fn = false
      ∧ s.air.inForce.isOpen s.air.slot = true := by
  refine and_congr_right fun hg => ?_
  simp [armingNext, hg]

/-! ## The requests (R117, R128) -/

theorem clExchange_reply (h : Admitted .clExchange l f s)
    (hh : clExchangeHandler l (requester l f.tenant) f.body (dropOldest l s) = (t, body)) :
    exec (.clExchange l) s = .next (placeReply l (replyFrame f body) t) := congrArg _ (processRequest_admitted h hh)

theorem clSetup_reply (h : Admitted .clSetup l f s)
    (hh : clSetupHandler l (requester l f.tenant) f.body (dropOldest l s) = (t, body)) :
    exec (.clSetup l) s = .next (placeReply l (replyFrame f body) t) := congrArg _ (processRequest_admitted h hh)

theorem clExchangeHandler_notHolder (hh : s.holder .cless ≠ some who) :
    clExchangeHandler l who (eb :: tb :: command) s = refuse .notHolder s := if_pos fun hc => hh (holds_iff.mp hc)

theorem clExchangeHandler_held (hh : s.holder .cless = some who) (he : (s.entry .cless).standing = .held) :
    clExchangeHandler l who (eb :: tb :: command) s = refuse .held s := by
  rw [clExchangeHandler, if_neg (not_not.mpr (holds_iff.mpr hh)), if_pos he]

theorem clExchangeHandler_collision (hh : s.holder .cless = some who) (he : (s.entry .cless).standing = .granted)
    (hx : s.bridge.exchange ≠ .idle) :
    clExchangeHandler l who (eb :: tb :: command) s = refuse .collision s := by
  rw [clExchangeHandler, if_neg (not_not.mpr (holds_iff.mpr hh)), if_neg (by rw [he]; decide), if_pos hx]

theorem clExchangeHandler_arms (hh : s.holder .cless = some who) (he : (s.entry .cless).standing = .granted)
    (hidle : s.bridge.exchange = .idle) {e n : Nat} (hexp : e = min 240 eb.toNat)
    (htime : n = max 1 (min 250 tb.toNat)) (hx : x = { owner := who, number := s.bridge.counter + 1, command := command
                                                       expected := e, timeout := n, discard := false }) :
    clExchangeHandler l who (eb :: tb :: command) s = (arm x s,
      replyBody (if e = eb.toNat ∧ n = tb.toNat then .ok else .clamped) [s.bridge.counter + 1, byte e, byte n]) := by
  rw [← clampTo_zero_eq] at hexp
  rw [← clampTo_eq (by decide)] at htime
  rw [clExchangeHandler, if_neg (not_not.mpr (holds_iff.mpr hh)), if_neg (by rw [he]; decide),
    if_neg (not_not.mpr hidle), ← hexp, ← htime]
  dsimp only
  rw [armExchange_eq, ← hx, okOr_limited _ (p := e = eb.toNat ∧ n = tb.toNat) (by simp [← not_and_or])]

theorem clSetupHandler_sets {b : Byte} {n : Nat} (hn : n = max 5 (min 50 b.toNat)) :
    clSetupHandler l who [b] s = ({ s with bridge := { s.bridge with interval := n } },
      replyBody (if n = b.toNat then .ok else .clamped) [byte n]) := by
  rw [← clampTo_eq (by decide)] at hn
  rw [clSetupHandler, ← hn]
  dsimp only
  rw [okOr_limited _ (p := n = b.toNat) (by simp)]

/-- Settles O42: the tests of CL_EXCHANGE in order, the arming, and CL_SETUP. -/
theorem exchangeIsArmed : Obligations.ExchangeIsArmed := by
  refine ⟨fun l f eb tb command s h hb => ⟨fun hh => ?_, fun hh => ⟨fun he => ?_, fun he hx => ?_,
    fun he hx e n x hexp htime hxe => ?_⟩⟩, fun l f b s h hb n hn => ?_⟩
  · exact clExchange_reply h (hb ▸ clExchangeHandler_notHolder (by exact hh))
  · exact clExchange_reply h (hb ▸ clExchangeHandler_held hh he)
  · exact clExchange_reply h (hb ▸ clExchangeHandler_collision hh he hx)
  · have hdrop : ((dropOldest l s).port .p).conditions = (s.port .p).conditions := by
      rw [dropOldest, setPort_port]
      split
      next hl => rw [hl]
      next => rfl
    have hconditions := hdrop ▸ arm_conditions x (dropOldest l s)
    simp only [withdraws_iff] at hconditions
    refine ⟨_, clExchange_reply h (hb ▸ clExchangeHandler_arms (s := dropOldest l s) hh he hx hexp htime hxe),
      arm_bridge x (dropOldest l s), arm_grants x (dropOldest l s), fun fn hg ht ho => ?_, fun hn => ?_,
      arm_custody x (dropOldest l s)⟩
    · exact hconditions.trans (if_pos ⟨fn, mem_allRadio fn, hg, ht, ho⟩)
    · exact hconditions.trans (if_neg fun ⟨fn, _, hc⟩ => hn fn hc)
  · exact clSetup_reply h (hb ▸ clSetupHandler_sets hn)

end Sys2Proof.Machine
end

section
/-! SUPPORT. The slot boundary and the request lines (R133, R135, R137 to R141): O48. -/

namespace Sys2Proof.Machine

variable {s : State} {f : RadioFn} {x : Exchange}

/-! ## The slot boundary (R133, R135, R139) -/

/-- The next slot, with the pending map in force at a frame start (R133, R135). -/
def nextSlot (s : State) : State :=
  { s with air := { s.air with
    slot := s.air.slot + 1
    slotTimer := { elapsed := 0, due := false }
    inForce := if s.air.slot = 15 then s.air.pendingMap.getD s.air.inForce else s.air.inForce
    pendingMap := if s.air.slot = 15 then none else s.air.pendingMap } }

theorem slot_wraps (i : Fin 16) : i + 1 = 0 ↔ i = 15 := by revert i; decide

theorem slotBoundary_due (h : s.air.slotTimer.due = true) :
    slotBoundary s = judgeGate (boundaryJudgeAll (nextSlot s)) := by
  rw [slotBoundary, if_pos h, nextSlot]
  dsimp only
  simp only [slot_wraps]
  split
  · cases hm : s.air.pendingMap <;> rfl
  · rfl

theorem slotBoundary_not_due (h : s.air.slotTimer.due = false) : slotBoundary s = s :=
  if_neg (by simp [h])

/-- The air schedule behind the boundary: the grants judged, and nothing else changed (R139). -/
theorem boundary_air (u : State) : (judgeGate (boundaryJudgeAll u)).air =
    { u.air with grants := ⟨boundaryNext .cell u, boundaryNext .wlan u, boundaryNext .bt u⟩ } := by
  rw [← boundaryJudge_judges.all u]
  simp [boundaryJudgeAll]

theorem boundary_grants (u : State) (fn : RadioFn) :
    (judgeGate (boundaryJudgeAll u)).air.grants.get fn = boundaryNext fn u := by
  rw [boundary_air]
  cases fn <;> rfl

/-- A withdrawn grant sets RADIO_OVERRUN on the P-link (R140). -/
theorem boundary_overrun {u : State} {fn : RadioFn} (hg : u.air.grants.get fn = .granted)
    (ho : boundaryNext fn u = .overrun) :
    hasCondition ((judgeGate (boundaryJudgeAll u)).port .p).conditions .radioOverrun = true := by
  rw [(judgeGate_reads _).1, boundaryJudgeAll, boundaryJudge_judges.all_conditions u,
    if_pos ⟨fn, mem_allRadio fn, hg, ho⟩]
  exact hasCondition_join_self _ _

/-- The gate behind the boundary is that of the new slot and the new grants (R141). -/
theorem boundary_mayStart (u : State) : (boundaryJudgeAll u).MayStart ↔
    (u.air.inForce.isNfc u.air.slot = true ∨ u.air.inForce.isOpen u.air.slot = true)
      ∧ (∀ fn : RadioFn, u.air.inForce.tolerant.get fn = false →
          (judgeGate (boundaryJudgeAll u)).air.grants.get fn ≠ .granted)
      ∧ u.bridge.fieldReset = none ∧ u.clock.fastClock = .locked := by
  have hair := boundaryJudge_judges.all u
  have hmap : (boundaryJudgeAll u).air.inForce = u.air.inForce := congrArg (·.inForce) hair
  have hslot : (boundaryJudgeAll u).air.slot = u.air.slot := congrArg (·.slot) hair
  simp [State.MayStart, gateOpen_iff, hmap, hslot, and_assoc]

/-! ## The request lines (R137, R138, R141) -/

theorem setRadio_setRadio (f : RadioFn) (g h : RadioGrant) (s : State) :
    (s.setRadio f g).setRadio f h = s.setRadio f h := by simp [State.setRadio]

theorem txRequestRise_idle (h : s.air.grants.get f = .idle) :
    txRequestRise f s = s.setRadio f (if s.mayTransmit f then .granted else .waiting) := by
  have hm : (s.setRadio f .waiting).mayTransmit f = s.mayTransmit f := mayTransmit_congr rfl rfl rfl
  have hw : (s.setRadio f .waiting).air.grants.get f = .waiting := PerRadio.get_set_self ..
  rw [txRequestRise, if_pos h, judgeWaiting, hm]
  split
  next hc => rw [setRadio_setRadio, if_pos hc.2]
  next hc => rw [if_neg fun hn => hc ⟨hw, hn⟩]

theorem txRequestFall_quiet (hi : s.air.grants.get f ≠ .idle) (h : s.air.grants.get f ≠ .granted
    ∨ s.air.inForce.tolerant.get f = true ∨ s.bridge.isArmed = false) : txRequestFall f s = s.setRadio f .idle := by
  rw [txRequestFall, if_neg hi]
  dsimp only
  split
  next hc =>
    obtain ⟨hg, ht⟩ := hc
    have harmed : s.bridge.isArmed = false := (h.resolve_left (not_not.mpr hg)).resolve_left (by
      change s.air.inForce.tolerant.get f = false at ht
      simp [ht])
    exact judgeGate_not_armed fun x he => by
      change s.bridge.exchange = .armed x at he
      simp [Bridge.isArmed, he] at harmed
  next => rfl

theorem txRequestFall_judges (hg : s.air.grants.get f = .granted) (ht : s.air.inForce.tolerant.get f = false) :
    txRequestFall f s = judgeGate (s.setRadio f .idle) := by
  rw [txRequestFall, if_neg (by simp [hg])]
  exact if_pos ⟨hg, ht⟩

/-- The gate with one function gone to IDLE: the others alone can keep it shut (R141). -/
theorem setRadio_idle_mayStart : (s.setRadio f .idle).MayStart ↔ s.bridge.fieldReset = none
    ∧ s.clock.fastClock = .locked ∧ (s.air.inForce.isNfc s.air.slot = true ∨ s.air.inForce.isOpen s.air.slot = true)
    ∧ ∀ g : RadioFn, g ≠ f → s.air.grants.get g = .granted → s.air.inForce.tolerant.get g = true := by
  have hgrants : (∀ fn : RadioFn, s.air.inForce.tolerant.get fn = false →
      (s.air.grants.set f .idle).get fn ≠ .granted) ↔
      ∀ g : RadioFn, g ≠ f → s.air.grants.get g = .granted → s.air.inForce.tolerant.get g = true := by
    refine forall_congr' fun g => ?_
    by_cases hgf : g = f
    · simp [hgf]
    · cases s.air.inForce.tolerant.get g <;> simp [PerRadio.get_set, hgf]
  rw [State.MayStart, gateOpen_iff, ← hgrants]
  simp only [State.setRadio]
  tauto

/-- Settles O48: the slot boundary, and each edge of a request line. -/
theorem grantsFollowSlotsAndRequests : Obligations.GrantsFollowSlotsAndRequests := by
  refine ⟨fun s => ⟨fun h => ?_, fun h u hu => ?_⟩, fun fn s => ⟨fun h => ?_, fun h => ?_, fun h => ?_, fun hi h => ?_,
    fun x hg ht he hf hl hs ho => ?_, fun x hg ht he hn => ?_⟩⟩
  · rw [exec_after, after, slotBoundary_not_due h]
  · have hnext : u = nextSlot s := hu
    refine ⟨_, exec_after .slotBoundary s, ?_⟩
    rw [after, slotBoundary_due h, ← hnext]
    have hair := boundary_air u
    have hgrants : u.air.grants = s.air.grants := by rw [hu]
    have hbridge : u.bridge = s.bridge := by rw [hu]
    have hclock : u.clock = s.clock := by rw [hu]
    have harmed (x : Exchange) (he : s.bridge.exchange = .armed x) :
        (boundaryJudgeAll u).bridge.exchange = .armed x := by simpa [hbridge] using he
    have hmay := boundary_mayStart u
    rw [hbridge, hclock] at hmay
    refine ⟨by rw [hair], by rw [hair], by rw [hair], by rw [hair], fun fn => ?_, fun fn hg ho => ?_, fun hn => ?_,
      fun x opens he hopens => ⟨fun ho => ?_, fun ho => ?_⟩⟩
    · rw [boundary_grants, boundaryNext_eq, hgrants]
      cases s.air.grants.get fn <;> simp only [mayTransmit_iff]
    · exact boundary_overrun (hgrants ▸ hg) (boundary_grants u fn ▸ ho)
    · rw [judgeGate_not_armed (by simpa [hbridge] using hn)]
      simp [hbridge]
    · rw [judgeGate_starts (harmed x he) (hmay.mpr (hopens.mp ho))]
      simp [hbridge]
    · rw [judgeGate_stays (harmed x he) fun hm => ho (hopens.mpr (hmay.mp hm))]
      simp [hbridge]
  · exact congrArg _ (if_neg h)
  · rw [exec_after, after, txRequestRise_idle h]
    simp only [mayTransmit_iff]
    rfl
  · exact congrArg _ (if_pos h)
  · rw [exec_after, after, txRequestFall_quiet hi h]
    rfl
  · rw [exec_after, after, txRequestFall_judges hg ht,
      judgeGate_starts (by exact he) (setRadio_idle_mayStart.mpr ⟨hf, hl, hs, ho⟩)]
    rfl
  · rw [exec_after, after, txRequestFall_judges hg ht,
      judgeGate_stays (by exact he) (setRadio_idle_mayStart.not.mpr hn)]
    rfl

end Sys2Proof.Machine
end

section
/-! SUPPORT. The law of the air schedule (R142): what it reads, the operations that leave the flight of an exchange as
it is, and the judgements of the air schedule and of the bridge, each of which gives or keeps a grant only where the
law lets it stand (R118, R137, R139, R141). -/

namespace Sys2Proof.Machine

variable {s t : State}

/-! ## What the law reads -/

/-- No exchange takes flight, and no function is newly granted. -/
theorem AirLaw.congr (h : AirLaw s) (hf : t.bridge.isInFlight = true → s.bridge.isInFlight = true)
    (hm : t.air.inForce = s.air.inForce)
    (hg : ∀ fn, t.air.grants.get fn = .granted → s.air.grants.get fn = .granted) : AirLaw t :=
  fun hfly fn ht hgranted => h (hf hfly) fn (hm ▸ ht) (hg fn hgranted)

theorem AirLaw.frame (h : AirLaw s) (hf : t.bridge.isInFlight = s.bridge.isInFlight) (ha : t.air = s.air) : AirLaw t :=
  h.congr (fun hfly => hf ▸ hfly) (by rw [ha]) fun fn => by rw [ha]; exact id

/-- With no exchange in flight the law asks nothing. -/
theorem airLaw_of_not_inFlight (hf : s.bridge.isInFlight = false) : AirLaw s := fun hfly => by
  rw [hf] at hfly
  cases hfly

/-! ## Whether an exchange is in flight -/

@[simp] theorem bridgeResultGone_isInFlight (s : State) :
    (bridgeResultGone s).bridge.isInFlight = s.bridge.isInFlight := by
  unfold bridgeResultGone
  split
  next he => simp [Bridge.isInFlight, he]
  next => rfl

@[simp] theorem cancelInFlight_isInFlight (l : Link) (s : State) :
    (cancelInFlight l s).bridge.isInFlight = s.bridge.isInFlight := by
  unfold cancelInFlight
  dsimp only
  (repeat' split) <;> simp

@[simp] theorem restartLink_isInFlight (l : Link) (s : State) :
    (restartLink l s).bridge.isInFlight = s.bridge.isInFlight := by
  unfold restartLink
  dsimp only
  split <;> simp

/-- A result that leaves the slot is of an exchange that has ended (R124). -/
@[simp] theorem chooseFrame_isInFlight (l : Link) (s : State) :
    (chooseFrame l s).bridge.isInFlight = s.bridge.isInFlight := by
  have hresult (who : Subject) (y : ClResult) : (sendResult l who y s).bridge.isInFlight = s.bridge.isInFlight := rfl
  unfold chooseFrame
  dsimp only
  (repeat' split) <;> simp [hresult]

@[simp] theorem outboundChoice_isInFlight (l : Link) (s : State) :
    (outboundChoice l s).bridge.isInFlight = s.bridge.isInFlight := by
  unfold outboundChoice
  dsimp only
  (repeat' split) <;> simp

@[simp] theorem frameComplete_isInFlight (l : Link) (s : State) :
    (frameComplete l s).bridge.isInFlight = s.bridge.isInFlight := by
  unfold frameComplete reportCompletion
  (repeat' split) <;> simp

@[simp] theorem clockEdge_isInFlight (l : Link) (s : State) :
    (clockEdge l s).bridge.isInFlight = s.bridge.isInFlight := by
  unfold clockEdge
  split <;> simp

@[simp] theorem moveByte_isInFlight (l : Link) (b : Byte) (s : State) :
    (moveByte l b s).bridge.isInFlight = s.bridge.isInFlight := by
  unfold moveByte
  split <;> simp

@[simp] theorem arrive_isInFlight (l : Link) (a : Arrival) (s : State) :
    (arrive l a s).bridge.isInFlight = s.bridge.isInFlight := by
  cases a <;> simp [arrive]

@[simp] theorem transferEnd_isInFlight (l : Link) (s : State) :
    (transferEnd l s).bridge.isInFlight = s.bridge.isInFlight := by
  unfold transferEnd
  split <;> simp

/-- From AWAITING to RECEIVING an exchange stays in flight (R121). -/
theorem tryReceive_isInFlight {x : Exchange} (h : s.bridge.isInFlight = true) :
    (tryReceive x s).bridge.isInFlight = true := by
  unfold tryReceive
  split
  · rfl
  · exact h

@[simp] theorem writeComplete_isInFlight (s : State) :
    (writeComplete s).bridge.isInFlight = s.bridge.isInFlight := by
  unfold writeComplete
  split
  next he => rw [tryReceive_isInFlight rfl, Bridge.isInFlight, he]
  next => rfl

@[simp] theorem clrdyLevel_isInFlight (level : Bool) (s : State) :
    (clrdyLevel level s).bridge.isInFlight = s.bridge.isInFlight := by
  unfold clrdyLevel
  dsimp only
  split
  next he =>
    have hfly : s.bridge.isInFlight = true := by rw [Bridge.isInFlight, he]
    rw [tryReceive_isInFlight (by exact hfly), hfly]
  next => rfl

@[simp] theorem exchangeTimeout_isInFlight (s : State) :
    (exchangeTimeout s).bridge.isInFlight = s.bridge.isInFlight := by
  unfold exchangeTimeout
  split
  next he =>
    split
    · rw [Bridge.isInFlight, Bridge.isInFlight, he]
    · rfl
  next => rfl

@[simp] theorem clSetupHandler_isInFlight (l : Link) (w : Subject) (b : List Byte) (s : State) :
    (clSetupHandler l w b s).1.bridge.isInFlight = s.bridge.isInFlight := by
  unfold clSetupHandler
  split <;> rfl

/-! ## The judgements of the air schedule (R137, R139) -/

/-- A function that is not tolerant may not transmit while an exchange is in flight. -/
theorem mayTransmit_inFlight {fn : RadioFn} (hf : s.bridge.isInFlight = true)
    (ht : s.air.inForce.tolerant.get fn = false) : s.mayTransmit fn = false := by
  simp [State.mayTransmit, hf, ht]

/-- A judgement of all three functions keeps the law if, with an exchange in flight, it gives no grant to one that is
not tolerant. -/
theorem JudgesEach.airLaw {op : RadioFn → State → State} {next : RadioFn → State → RadioGrant} (h : JudgesEach op next)
    (hn : s.bridge.isInFlight = true → ∀ fn, s.air.inForce.tolerant.get fn = false → next fn s ≠ .granted) :
    AirLaw (op .bt (op .wlan (op .cell s))) := by
  have hmap : (op .bt (op .wlan (op .cell s))).air.inForce = s.air.inForce := by rw [h.all]
  have hbridge : (op .bt (op .wlan (op .cell s))).bridge = s.bridge := by rw [h.bridge, h.bridge, h.bridge]
  intro hf fn ht
  rw [hbridge] at hf
  rw [hmap] at ht
  rw [h.all_get]
  exact hn hf fn ht

theorem waitingNext_inFlight {fn : RadioFn} (hf : s.bridge.isInFlight = true)
    (ht : s.air.inForce.tolerant.get fn = false) : waitingNext fn s = s.air.grants.get fn :=
  if_neg fun hc => by simp [mayTransmit_inFlight hf ht] at hc

theorem judgeAll_airLaw (h : AirLaw s) : AirLaw (judgeAll s) :=
  judgeWaiting_judges.airLaw fun hf fn ht => by
    rw [waitingNext_inFlight hf ht]
    exact h hf fn ht

/-- A boundary withdraws what the law forbids under the map then in force, whatever was granted before it (R135,
R139). -/
theorem boundaryJudgeAll_airLaw (s : State) : AirLaw (boundaryJudgeAll s) :=
  boundaryJudge_judges.airLaw fun hf fn ht => by
    rw [boundaryNext_eq, mayTransmit_inFlight hf ht]
    cases s.air.grants.get fn <;> simp

/-! ## The bridge's events (R118, R123, R125, R141) -/

/-- The open gate is the law: an exchange takes flight only while no function that is not tolerant is GRANTED. -/
theorem judgeGate_airLaw (h : AirLaw s) : AirLaw (judgeGate s) := by
  unfold judgeGate
  split
  · split
    next hstarts => exact fun _ => (gateOpen_iff.mp (mayStart_iff.mp hstarts).1).2
    next => exact h
  · exact h

/-- ARMED is not in flight, so the gate alone decides. -/
theorem armExchange_airLaw (who : Subject) (e n : Nat) (c : List Byte) (s : State) :
    AirLaw (armExchange who e n c s) :=
  judgeGate_airLaw (airLaw_of_not_inFlight (by simp [Bridge.isInFlight]))

/-- An exchange that has ended is no longer in flight, whoever is granted then. -/
theorem endExchange_airLaw (x : Exchange) (o : ExchangeOutcome) (a : Byte) (bs : List Byte) (s : State) :
    AirLaw (endExchange x o a bs s) := by
  refine airLaw_of_not_inFlight ?_
  rw [(endExchange_outcome x o a bs s).1, Bridge.ended]
  split <;> rfl

theorem beginFieldReset_airLaw (h : AirLaw s) : AirLaw (beginFieldReset s) := h.frame rfl rfl

/-- The table of R125: an exchange in flight runs on, any other is dropped. -/
theorem clessTurnover_airLaw (old : Option Subject) (h : AirLaw s) : AirLaw (clessTurnover old s) := by
  unfold clessTurnover
  dsimp only
  split
  case h_1 => exact beginFieldReset_airLaw h
  case h_2 => exact beginFieldReset_airLaw (judgeAll_airLaw (airLaw_of_not_inFlight rfl))
  case h_3 he | h_4 he | h_5 he | h_6 he => exact h.frame (by simp [Bridge.isInFlight, he]) rfl
  case h_7 => exact beginFieldReset_airLaw (airLaw_of_not_inFlight rfl)

end Sys2Proof.Machine
end

section
/-! SUPPORT. That every event, every request and every reference cycle keeps the law of the air schedule, and so every
step (O58). -/

namespace Sys2Proof.Machine

variable {s : State} {l : Link}

/-! ## Grants and turnovers (R51 to R56) -/

/-- Of the four serving blocks the bridge alone can end an exchange with its turnover. -/
theorem enterTurnover_airLaw (r : Resource) (k : EndingKind) (h : AirLaw s) : AirLaw (enterTurnover r k s) := by
  cases r with
  | cless => exact clessTurnover_airLaw _ (h.frame rfl rfl)
  | keypad | display | printer => exact h.frame (by simp) (by simp)

theorem airLaw_keptUnderHolders : KeptUnderHolders AirLaw where
  lease := fun _ _ h => h.frame rfl rfl
  notice := fun _ _ h => h.frame (by simp) (by simp)
  turnover := fun r k _ h => enterTurnover_airLaw r k h
  waiting := fun _ _ h => h.frame (by simp) (by simp)

/-! ## Events (R121, R122, R126, R133 to R141) -/

theorem abortComplete_airLaw (h : AirLaw s) : AirLaw (abortComplete s) := by
  unfold abortComplete
  split
  · exact endExchange_airLaw _ _ _ _ _
  · exact h

theorem readComplete_airLaw (a : Byte) (bs : List Byte) (h : AirLaw s) : AirLaw (readComplete a bs s) := by
  unfold readComplete
  split
  · exact endExchange_airLaw _ _ _ _ _
  · exact h

theorem fieldResetExpiry_airLaw (h : AirLaw s) : AirLaw (fieldResetExpiry s) := by
  have hoff : AirLaw { s with bridge := { s.bridge with fieldReset := none } } := h.frame rfl rfl
  unfold fieldResetExpiry
  split
  · split
    · refine judgeGate_airLaw ?_
      dsimp only
      split
      · exact hoff.frame (by simp) (by simp)
      · exact hoff
    · exact h
  · exact h

theorem slotBoundary_airLaw (h : AirLaw s) : AirLaw (slotBoundary s) := by
  cases hd : s.air.slotTimer.due with
  | true => exact slotBoundary_due hd ▸ judgeGate_airLaw (boundaryJudgeAll_airLaw _)
  | false => exact (slotBoundary_not_due hd).symm ▸ h

/-- A function's grant state changes to one that the law lets stand. -/
theorem setRadio_airLaw {fn : RadioFn} {g : RadioGrant}
    (hg : s.bridge.isInFlight = true → s.air.inForce.tolerant.get fn = false → g ≠ .granted) (h : AirLaw s) :
    AirLaw (s.setRadio fn g) := by
  intro hf gn ht
  change (s.air.grants.set fn g).get gn ≠ .granted
  rw [PerRadio.get_set]
  split
  next hgn => exact hg hf (hgn ▸ ht)
  next => exact h hf gn ht

theorem txRequestRise_airLaw (fn : RadioFn) (h : AirLaw s) : AirLaw (txRequestRise fn s) := by
  by_cases hi : s.air.grants.get fn = .idle
  · rw [txRequestRise_idle hi]
    refine setRadio_airLaw (fun hf ht => ?_) h
    rw [mayTransmit_inFlight hf ht]
    simp
  · rw [txRequestRise, if_neg hi]
    exact h

theorem txRequestFall_airLaw (fn : RadioFn) (h : AirLaw s) : AirLaw (txRequestFall fn s) := by
  have hset : AirLaw (s.setRadio fn .idle) := setRadio_airLaw (fun _ _ => nofun) h
  unfold txRequestFall
  dsimp only
  split
  · exact h
  · split
    · exact judgeGate_airLaw hset
    · exact hset

/-! ## The timebase -/

theorem millisecond_airLaw (h : AirLaw s) : AirLaw (millisecond s) :=
  h.congr (fun hf => (Bridge.tick_alike s.bridge).inFlight ▸ hf) rfl fun _ => id

theorem lockIfDue_airLaw (h : AirLaw s) : AirLaw (lockIfDue s) := h.frame (by simp) (by simp)

/-- Every due event, in the order in which the model takes them (log entry 5). -/
theorem takeDue_airLaw (h : AirLaw s) : AirLaw (takeDue s) := by
  have hkept := airLaw_keptUnderHolders
  have hframes : AirLaw (frameStall .r (frameStall .a (frameStall .p s))) := h.frame (by simp) (by simp)
  have hquarter := hkept.quarterBoundary .printer (hkept.quarterBoundary .cless
    (hkept.quarterBoundary .display (hkept.quarterBoundary .keypad hframes)))
  have hheld := hkept.heldQuarter .printer (hkept.heldQuarter .cless
    (hkept.heldQuarter .display (hkept.heldQuarter .keypad hquarter)))
  have hblocks {t : State} (ht : AirLaw t) : AirLaw (exchangeTimeout (printerStall (blinkToggle (forcedSwitch
      (holdTimerMatch (keyScan t.lines.matrix t)))))) := ht.frame (by simp) (by simp)
  exact lockIfDue_airLaw (slotBoundary_airLaw (fieldResetExpiry_airLaw (hblocks hheld)))

theorem referenceCycle_airLaw (h : AirLaw s) : AirLaw (referenceCycle s) := by
  have hdue := takeDue_airLaw h
  unfold referenceCycle
  dsimp only
  split
  · exact hdue.frame rfl rfl
  · exact millisecond_airLaw (hdue.frame rfl rfl)

theorem referenceCycles_airLaw (n : Nat) (h : AirLaw s) : AirLaw (referenceCycles n s) := by
  induction n generalizing s with
  | zero => exact h
  | succ n ih => exact ih (referenceCycle_airLaw h)

theorem fastClockLock_airLaw (h : AirLaw s) : AirLaw (fastClockLock s) := by
  unfold fastClockLock
  split
  · split
    · exact lockIfDue_airLaw (referenceCycles_airLaw _ h)
    · exact h
  · exact h

/-- A part reset leaves the bridge IDLE (R131). -/
theorem partReset_airLaw (c : ResetCause) (s : State) : AirLaw (partReset c s) := airLaw_of_not_inFlight rfl

/-! ## Requests -/

theorem processWhere_airLaw {mine : Frame → Bool} {k : ReqKind} {handler : Handler}
    (hh : ∀ w b t, AirLaw t → AirLaw (handler l w b t).1) (h : AirLaw s) :
    AirLaw (processWhere mine k handler l s) :=
  processWhere_invariant AirLaw (fun _ _ ht => ht) (fun _ _ _ ht => hh _ _ _ ht) h

/-- A request that leaves the air schedule and the flight of an exchange as they stand. -/
theorem frame_airLaw {mine : Frame → Bool} {k : ReqKind} {handler : Handler}
    (hh : ∀ w b t, (handler l w b t).1.bridge.isInFlight = t.bridge.isInFlight ∧ (handler l w b t).1.air = t.air)
    (h : AirLaw s) : AirLaw (processWhere mine k handler l s) :=
  processWhere_airLaw (fun w b t ht => ht.frame (hh w b t).1 (hh w b t).2) h

/-- A map that is accepted waits for the frame's end; the map in force stands (R134, R135). -/
theorem airMapHandler_airLaw (l : Link) (w : Subject) (b : List Byte) (h : AirLaw s) :
    AirLaw (airMapHandler l w b s).1 := by
  unfold airMapHandler
  dsimp only
  (repeat' split) <;> exact h

theorem clExchangeHandler_airLaw (l : Link) (w : Subject) (b : List Byte) (h : AirLaw s) :
    AirLaw (clExchangeHandler l w b s).1 := by
  unfold clExchangeHandler
  dsimp only
  (repeat' split) <;> first | exact h | exact armExchange_airLaw _ _ _ _ _

theorem tenantEffects_airLaw (n : Fin 16) (old new : TenantState) (h : AirLaw s) :
    AirLaw (tenantEffects n old new s) := by
  have hend : AirLaw (if old = .active ∧ new ≠ .active then endAllStanding (.app n) s else s) := by
    split
    · exact airLaw_keptUnderHolders.endAllStanding _ h
    · exact h
  unfold tenantEffects
  dsimp only
  split
  · exact List.foldlRecOn _ _ hend fun _ ht _ _ => ht.frame (by simp) (by simp)
  · exact hend

theorem policySetHandler_airLaw (l : Link) (w : Subject) (b : List Byte) (h : AirLaw s) :
    AirLaw (policySetHandler l w b s).1 := by
  unfold policySetHandler
  split
  · split
    · split
      · exact h
      · exact airLaw_keptUnderHolders.policyEffects _ _ (h.frame rfl rfl)
    · exact h
  · exact h

theorem tenantSetHandler_airLaw (l : Link) (w : Subject) (b : List Byte) (h : AirLaw s) :
    AirLaw (tenantSetHandler l w b s).1 := by
  unfold tenantSetHandler
  dsimp only
  (repeat' split) <;> first | exact h | exact tenantEffects_airLaw _ _ _ (h.frame rfl rfl)

theorem claimFree_airLaw (c : ClaimTerms) (h : AirLaw s) : AirLaw (claimFree c s).1 := by
  unfold claimFree
  dsimp only
  split
  · exact enterTurnover_airLaw _ _ (h.frame rfl rfl)
  · exact h.frame (by simp) (by simp)

theorem claimTaken_airLaw (c : ClaimTerms) (h : AirLaw s) : AirLaw (claimTaken c s).1 := by
  have hqueue : AirLaw (claimQueue c s).1 := h.frame (by simp) (by simp)
  have hpreempt (g : Grant) : AirLaw (claimPreempt c g s).1 :=
    airLaw_keptUnderHolders.revokeGrant _ _ _ (h.frame rfl rfl)
  unfold claimTaken
  dsimp only
  (repeat' split) <;> first | exact h | exact hqueue | exact hpreempt _

theorem claimHandler_airLaw (l : Link) (w : Subject) (b : List Byte) (h : AirLaw s) :
    AirLaw (claimHandler l w b s).1 := by
  have hdecide (c : ClaimTerms) : AirLaw (decideClaim c s).1 := by
    unfold decideClaim
    dsimp only
    (repeat' split) <;> first | exact h | exact claimFree_airLaw c h | exact claimTaken_airLaw c h
  unfold claimHandler
  dsimp only
  (repeat' split) <;> first | exact h | exact hdecide _

/-! ### RESTART (R21, R64, R145) -/

theorem restartEntry_airLaw (l : Link) (r : Resource) (h : AirLaw s) : AirLaw (restartEntry l s r) := by
  unfold restartEntry
  extract_lets ws held
  split
  · exact enterTurnover_airLaw r .revoked (h.frame rfl rfl)
  · split
    · exact airLaw_keptUnderHolders.waiting r ws h
    · exact h

theorem lowerGrant_ne_granted (g : RadioGrant) : lowerGrant g ≠ .granted := by cases g <;> nofun

/-- The restart of the R-link leaves no function GRANTED (R145). -/
theorem lowerRadioGrants_airLaw (s : State) : AirLaw (lowerRadioGrants s) :=
  judgeGate_airLaw fun _ fn _ => by cases fn <;> exact lowerGrant_ne_granted _

theorem restartHandler_airLaw (l : Link) (w : Subject) (b : List Byte) (h : AirLaw s) :
    AirLaw (restartHandler l w b s).1 := by
  have hlink : AirLaw (restartLink l s) := h.frame (by simp) (by simp)
  have hcustody : AirLaw (restartCustody l (restartLink l s)) := by
    unfold restartCustody
    split
    · exact hlink
    · exact List.foldlRecOn _ _ hlink fun _ ht r _ => restartEntry_airLaw l r ht
  have hrelay : AirLaw (restartRelay l s (restartCustody l (restartLink l s))) :=
    hcustody.frame (by simp) (by simp)
  change AirLaw (restartAir l (restartRelay l s (restartCustody l (restartLink l s))))
  unfold restartAir
  split
  · exact lowerRadioGrants_airLaw _
  · exact hrelay

theorem processPartReset_airLaw (l : Link) (h : AirLaw s) : AirLaw (processPartReset l s) := by
  unfold processPartReset
  split
  · exact h
  · split
    · exact h
    · split
      · exact partReset_airLaw .request s
      · split
        · exact h.frame (by simp) (by simp)
        · exact h

/-! ## Every step -/

theorem after_airLaw (c : Instr) (h : AirLaw s) : AirLaw (after c s) := by
  have hkept := airLaw_keptUnderHolders
  cases c
  case restart l => exact processWhere_airLaw (fun w b _ ht => restartHandler_airLaw l w b ht) h
  case policySet l => exact processWhere_airLaw (fun w b _ ht => policySetHandler_airLaw l w b ht) h
  case tenantSet l => exact processWhere_airLaw (fun w b _ ht => tenantSetHandler_airLaw l w b ht) h
  case claim l => exact processWhere_airLaw (fun w b _ ht => claimHandler_airLaw l w b ht) h
  case release l => exact processWhere_airLaw (fun w b _ ht => hkept.releaseHandler l w b ht) h
  case clExchange l => exact processWhere_airLaw (fun w b _ ht => clExchangeHandler_airLaw l w b ht) h
  case airMap l => exact processWhere_airLaw (fun w b _ ht => airMapHandler_airLaw l w b ht) h
  case partReset l => exact processPartReset_airLaw l h
  case pinReset => exact partReset_airLaw .pin s
  case powerUp => exact partReset_airLaw .power s
  case frameReceived l b => simp only [after]; split; exacts [h.frame (by simp) (by simp), h]
  case frameLengthAbandoned l b => simp only [after]; split; exacts [h.frame (by simp) (by simp), h]
  case quarterBoundary r => exact hkept.quarterBoundary r h
  case abortComplete => exact abortComplete_airLaw h
  case readComplete a bs => exact readComplete_airLaw a bs h
  case fieldResetExpiry => exact fieldResetExpiry_airLaw h
  case slotBoundary => exact slotBoundary_airLaw h
  case txRequestRise fn => exact txRequestRise_airLaw fn h
  case txRequestFall fn => exact txRequestFall_airLaw fn h
  case partTimeTick => exact referenceCycles_airLaw _ h
  case fastClockLock => exact fastClockLock_airLaw h
  case transferStart | outboundChoice | frameComplete | transferEnd | frameStall | unknownKind | heldQuarter | keyScan
      | holdTimerMatch | fsyncEdge | forcedSwitch | blinkTimer | prdyActive | characterComplete | printerStall
      | writeComplete | clrdyActive | exchangeTimeout | clfevEdge
      | arrivingByte => exact h.frame (by simp [after]) (by simp [after])
  case time | conditions | conditionsEnable | policyGet | tenantGet | withdraw | custodyQuery | renew | setGrain | hold
      | resume | keySetup | matchSetup | print | printFlush | printSetup | clSetup | airQuery | chBind | chUnbind
      | chQuery | chQuerySummary | send | data | doze => exact frame_airLaw (fun _ _ _ => by simp) h

/-- Settles O58: every command and every reference cycle keeps the law of the air schedule. -/
theorem noRadioGrantDuringAnExchange : Obligations.NoRadioGrantDuringAnExchange := fun _ _ hstep hs =>
  step_keeps AirLaw (fun _ _ h => h) (fun c _ h => after_airLaw c h) (fun _ h => referenceCycle_airLaw h) hstep hs

end Sys2Proof.Machine
end

section
/-! SUPPORT. The slots of an air map (R133, R134, R136): which of them are shared, OPEN or an exchange's own, and which
are eligible for a function (O47). -/

namespace Sys2Proof.Machine

variable {s : State} {m : AirMap} {i : Fin 16} {fn : RadioFn}

/-! ## OPEN slots and eligibility (R133, R136) -/

theorem isOpen_iff : m.isOpen i = true ↔ (∀ g : RadioFn, m.owns g i = false) ∧ m.isNfc i = false := by
  have hall : (∀ g : RadioFn, m.owns g i = false) ↔
      m.owns .cell i = false ∧ m.owns .wlan i = false ∧ m.owns .bt i = false :=
    ⟨fun h => ⟨h .cell, h .wlan, h .bt⟩, fun ⟨hc, hw, hb⟩ g => by cases g <;> assumption⟩
  simp [AirMap.isOpen, hall, and_assoc]

theorem eligible_own (h : s.air.inForce.owns fn s.air.slot = true) : s.eligible fn = true := if_pos h

theorem eligible_taken (ho : s.air.inForce.owns fn s.air.slot = false) (hn : s.air.inForce.isOpen s.air.slot = false) :
    s.eligible fn = false := by simp [State.eligible, ho, hn]

theorem eligible_open (h : s.air.inForce.isOpen s.air.slot = true) : s.eligible fn =
    if s.bridge.isInFlight then false else if s.bridge.isArmed then s.air.inForce.tolerant.get fn else true := by
  have ho : s.air.inForce.owns fn s.air.slot = false := (isOpen_iff.mp h).1 fn
  simp [State.eligible, ho, h]

/-- Settles O47: an own slot, a slot of another's, and an OPEN slot by the state of the exchange. -/
theorem slotEligibility : Obligations.SlotEligibility := by
  refine fun fn s => ⟨eligible_own, fun ho htaken => eligible_taken ho (Bool.eq_false_iff.mpr fun hopen => ?_),
    fun ho hn => ?_⟩
  · obtain ⟨hnone, hnfc⟩ := isOpen_iff.mp hopen
    rcases htaken with hx | ⟨g, hg⟩
    · simp [hnfc] at hx
    · simp [hnone g] at hg
  · rw [eligible_open (isOpen_iff.mpr ⟨ho, hn⟩)]
    refine ⟨?_, ?_, ?_⟩
    · rintro ⟨x, hx⟩
      simp [Bridge.isInFlight, Bridge.isArmed, hx]
    · rintro ⟨x, t0, hx | hx | hx | hx⟩ <;> simp [Bridge.isInFlight, hx]
    · rintro (hx | hx) <;> simp [Bridge.isInFlight, Bridge.isArmed, hx]

end Sys2Proof.Machine
end

section
/-! SUPPORT. AIR_MAP as a function of its ten bytes, its three tests in order, and AIR_QUERY (R134, R143): O46. -/

namespace Sys2Proof.Machine

variable {s t : State} {l : Link} {f : Frame} {who : Subject} {body : List Byte} {m : AirMap}
  {lb ch cl wh wl bh bl nh nl tb : Byte}

/-! ## The tests, slot by slot (R134) -/

theorem slotSet_eq_zero {x : BitVec 16} : x = 0 ↔ ∀ i : Fin 16, x.getLsbD i.val = false :=
  ⟨fun h i => by simp [h], fun h => BitVec.eq_of_getLsbD_eq fun i hi => by simpa using h ⟨i, hi⟩⟩

theorem slotSet_eq_all {x : BitVec 16} : x = BitVec.allOnes 16 ↔ ∀ i : Fin 16, x.getLsbD i.val = true :=
  ⟨fun h i => by rw [h, BitVec.getLsbD_allOnes]; exact decide_eq_true i.isLt,
    fun h => BitVec.eq_of_getLsbD_eq fun i hi => by rw [BitVec.getLsbD_allOnes, h ⟨i, hi⟩, decide_eq_true hi]⟩

theorem two_of_four (a b c d : Bool) : 2 ≤ ([a, b, c, d].filter id).length ↔
    (a && b || a && c || a && d || b && c || b && d || c && d) = true := by
  revert a b c d
  decide

/-- Some slot is in two of the four sets. -/
def AirMap.SharesSlot (m : AirMap) : Prop :=
  ∃ i : Fin 16, 2 ≤ ([m.owns .cell i, m.owns .wlan i, m.owns .bt i, m.isNfc i].filter id).length

/-- Some slot is left to an exchange. -/
def AirMap.LeavesSlot (m : AirMap) : Prop := ∃ i : Fin 16, m.isNfc i = true ∨ m.isOpen i = true

theorem overlaps_iff : m.overlaps = true ↔ m.SharesSlot := by
  have hbits : m.overlaps = true ↔ ∃ i : Fin 16, ((m.sets.cell &&& m.sets.wlan) ||| (m.sets.cell &&& m.sets.bt)
      ||| (m.sets.cell &&& m.nfc) ||| (m.sets.wlan &&& m.sets.bt) ||| (m.sets.wlan &&& m.nfc)
      ||| (m.sets.bt &&& m.nfc)).getLsbD i.val = true := by
    rw [AirMap.overlaps, bne_iff_ne, ne_eq, slotSet_eq_zero]
    simp only [not_forall, Bool.not_eq_false]
  rw [hbits]
  refine exists_congr fun i => ?_
  rw [two_of_four]
  simp only [BitVec.getLsbD_or, BitVec.getLsbD_and]
  rfl

theorem hasAirTime_iff : m.hasAirTime = true ↔ m.LeavesSlot := by
  have hbits : m.hasAirTime = true ↔ (∃ i : Fin 16, m.nfc.getLsbD i.val = true)
      ∨ ∃ i : Fin 16, (m.sets.cell ||| m.sets.wlan ||| m.sets.bt ||| m.nfc).getLsbD i.val = false := by
    rw [AirMap.hasAirTime, Bool.or_eq_true, bne_iff_ne, bne_iff_ne, ne_eq, ne_eq, slotSet_eq_zero, slotSet_eq_all]
    simp only [not_forall, Bool.not_eq_false, Bool.not_eq_true]
  rw [hbits, ← exists_or]
  refine exists_congr fun i => or_congr Iff.rfl ?_
  simp only [BitVec.getLsbD_or, AirMap.isOpen, Bool.not_eq_true']
  rfl

/-! ## The bytes of a map (R134) -/

theorem bytes2_append (hi lo : Byte) : bytes2 (hi ++ lo).toNat = [hi, lo] := by
  have hhi := hi.isLt
  have hlo := lo.isLt
  have happend : (hi ++ lo).toNat = hi.toNat * 256 + lo.toNat := by
    rw [BitVec.toNat_append, ← Nat.shiftLeft_add_eq_or_of_lt (by exact hlo), Nat.shiftLeft_eq]
  have hbyte {n : Nat} {b : Byte} (hn : n % 256 = b.toNat) : byte n = b :=
    BitVec.eq_of_toNat_eq (by simpa [byte] using hn)
  rw [bytes2, happend, hbyte (n := (hi.toNat * 256 + lo.toNat) / 256) (b := hi) (by omega), hbyte (b := lo) (by omega)]

/-- The tolerance byte of three bits is read and written alike. -/
theorem toleranceByte_of_lt {p : PerRadio Bool} (h : tb.toNat < 8)
    (hp : p = ⟨tb.getLsbD 0, tb.getLsbD 1, tb.getLsbD 2⟩) :
    byte ((if p.cell then 1 else 0) + (if p.wlan then 2 else 0) + (if p.bt then 4 else 0)) = tb := by
  have hbits : ∀ n : Fin 8, byte ((if (BitVec.ofNat 8 n).getLsbD 0 then 1 else 0)
      + (if (BitVec.ofNat 8 n).getLsbD 1 then 2 else 0) + (if (BitVec.ofNat 8 n).getLsbD 2 then 4 else 0))
      = BitVec.ofNat 8 n := by decide
  have hread : BitVec.ofNat 8 tb.toNat = tb := by simp
  have htb := hbits ⟨tb.toNat, h⟩
  rw [hread] at htb
  subst hp
  exact htb

/-- The map that a body of ten bytes lays out, with its slot length limited (R134). -/
def mapOf (lb ch cl wh wl bh bl nh nl tb : Byte) : AirMap where
  slotLength := max 1 (min 20 lb.toNat)
  sets := ⟨ch ++ cl, wh ++ wl, bh ++ bl⟩
  nfc := nh ++ nl
  tolerant := ⟨tb.getLsbD 0, tb.getLsbD 1, tb.getLsbD 2⟩

theorem mapOf_bytes (h : tb.toNat < 8) (hm : m = mapOf lb ch cl wh wl bh bl nh nl tb) :
    m.bytes = [byte m.slotLength, ch, cl, wh, wl, bh, bl, nh, nl, tb] := by
  have htolerant : m.tolerant = ⟨tb.getLsbD 0, tb.getLsbD 1, tb.getLsbD 2⟩ := by rw [hm]; rfl
  rw [AirMap.bytes, toleranceByte_of_lt h htolerant, hm]
  simp only [mapOf, bytes2_append]
  rfl

/-! ## The requests (R134, R143) -/

theorem airMap_reply (h : Admitted .airMap l f s)
    (hh : airMapHandler l (requester l f.tenant) f.body (dropOldest l s) = (t, body)) :
    exec (.airMap l) s = .next (placeReply l (replyFrame f body) t) := congrArg _ (processRequest_admitted h hh)

theorem airMapHandler_strayBit (h : 8 ≤ tb.toNat) :
    airMapHandler l who [lb, ch, cl, wh, wl, bh, bl, nh, nl, tb] s = refuse .badRequest s := if_pos h

/-- Behind the test of the tolerance byte, the map decides. -/
theorem airMapHandler_map (h : tb.toNat < 8) (hm : m = mapOf lb ch cl wh wl bh bl nh nl tb) :
    airMapHandler l who [lb, ch, cl, wh, wl, bh, bl, nh, nl, tb] s =
      if m.overlaps then refuse .overlap s
      else if ¬ m.hasAirTime then refuse .noAirTime s
      else ({ s with air := { s.air with pendingMap := some m } },
        replyBody (okOr (m.slotLength != lb.toNat)) (m.bytes ++ [byte (16 - s.air.slot.val)])) := by
  have hread : m = { slotLength := clampTo 1 20 lb.toNat
                     sets := ⟨slotSetOf ch cl, slotSetOf wh wl, slotSetOf bh bl⟩, nfc := slotSetOf nh nl
                     tolerant := ⟨tb.getLsbD 0, tb.getLsbD 1, tb.getLsbD 2⟩ } := by
    rw [hm, clampTo_eq (by decide)]
    rfl
  rw [airMapHandler, if_neg (Nat.not_le.mpr h), hread]
  rfl

theorem airMapHandler_accepts (h : tb.toNat < 8) (hm : m = mapOf lb ch cl wh wl bh bl nh nl tb)
    (hs : ¬ m.SharesSlot) (hl : m.LeavesSlot) :
    airMapHandler l who [lb, ch, cl, wh, wl, bh, bl, nh, nl, tb] s =
      ({ s with air := { s.air with pendingMap := some m } },
        replyBody (if m.slotLength = lb.toNat then .ok else .clamped)
          ([byte m.slotLength, ch, cl, wh, wl, bh, bl, nh, nl, tb] ++ [byte (16 - s.air.slot.val)])) := by
  rw [airMapHandler_map h hm, if_neg (overlaps_iff.not.mpr hs), if_neg (not_not.mpr (hasAirTime_iff.mpr hl)),
    mapOf_bytes h hm, okOr_limited _ (p := m.slotLength = lb.toNat) (by simp)]

theorem airQuery_reply (h : Admitted .airQuery l f s) : exec (.airQuery l) s = .next (reported l f
    (s.air.inForce.bytes ++ [byte s.air.slot.val, byte s.air.slotTimer.elapsed, flagByte s.air.pendingMap.isSome,
      s.air.grants.cell.code, s.air.grants.wlan.code, s.air.grants.bt.code]) s) :=
  congrArg _ (processRequest_admitted h rfl)

/-- Settles O46: the three tests of AIR_MAP in order, the map that passes them, and the reply of AIR_QUERY. -/
theorem airMapBecomesPending : Obligations.AirMapBecomesPending := by
  refine ⟨fun l f lb ch cl wh wl bh bl nh nl tb s h hb m hm => ⟨fun hbit => ?_, fun hbits hs => ?_,
    fun hbits hs hl => ?_, fun hbits hs hl => ?_⟩, fun l f s h => ?_⟩
  · exact airMap_reply h (hb ▸ airMapHandler_strayBit hbit)
  · exact airMap_reply h (hb ▸ (airMapHandler_map hbits hm).trans (if_pos (overlaps_iff.mpr hs)))
  · exact airMap_reply h (hb ▸ (airMapHandler_map hbits hm).trans
      ((if_neg (overlaps_iff.not.mpr hs)).trans (if_pos (hasAirTime_iff.not.mpr hl))))
  · exact airMap_reply h (hb ▸ airMapHandler_accepts hbits hm hs hl)
  · rw [airQuery_reply h]
    cases s.air.pendingMap <;> rfl

end Sys2Proof.Machine
end

section
/-! SUPPORT. The law of the relay's pool (R149), channel by channel: what it reads of a state, and what keeps it where
one channel's record or frame changes. The blocks in use and those reserved but unused are together the blocks that
each channel keeps from the others, the more of its reserve and its use. -/

namespace Sys2Proof.Machine

variable {s t : State} {c d : Fin 32} {l : Link} {b b' : Binding}

/-! ## Sums over the channels -/

/-- Two families that differ at one channel, but for a loss at others, differ in their sums by no more. -/
theorem sum_channels_le {f g : Fin 32 → Nat} (c : Fin 32) (h : ∀ d, d ≠ c → f d ≤ g d) :
    (allChannels.map f).sum + g c ≤ (allChannels.map g).sum + f c := by
  have hsplit (f : Fin 32 → Nat) : (allChannels.map f).sum = f c + ∑ d ∈ Finset.univ.erase c, f d := by
    rw [Finset.add_sum_erase _ _ (Finset.mem_univ c), Fin.sum_univ_def]
    rfl
  have hrest : ∑ d ∈ Finset.univ.erase c, f d ≤ ∑ d ∈ Finset.univ.erase c, g d :=
    Finset.sum_le_sum fun d hd => h d (Finset.ne_of_mem_erase hd)
  rw [hsplit f, hsplit g]
  omega

/-- The blocks a channel keeps from the others: those it uses, and those of its reserve that it does not (R149). -/
def State.blocksKept (s : State) (c : Fin 32) : Nat := max (s.reserve c) (s.used c)

theorem blocksInUse_add_reservedFree (s : State) :
    s.blocksInUse + s.reservedFree = (allChannels.map s.blocksKept).sum := by
  have hkept (c : Fin 32) : s.used c + (s.reserve c - s.used c) = s.blocksKept c := by
    rw [State.blocksKept]
    omega
  rw [State.blocksInUse, State.reservedFree, ← List.sum_map_add]
  simp only [hkept]

/-! ## One channel -/

theorem used_bound (hb : (s.channel c).binding = some b) : s.used c = s.bindingUsed c b := by rw [State.used, hb]

theorem reserve_bound (hb : (s.channel c).binding = some b) : s.reserve c = b.reserve := by rw [State.reserve, hb]

theorem used_unbound (hb : (s.channel c).binding = none) : s.used c = 0 := by rw [State.used, hb]

theorem reserve_unbound (hb : (s.channel c).binding = none) : s.reserve c = 0 := by rw [State.reserve, hb]

/-- No frame of the channel is in flight after `t` that was not before. -/
def NoNewFrame (s t : State) (c : Fin 32) : Prop :=
  ∀ l src, src = .forward c ∨ src = .deliver c → t.inFlightFrom l src = true → s.inFlightFrom l src = true

theorem NoNewFrame.of_inFlight (h : ∀ l, (t.port l).inFlight = (s.port l).inFlight) (c : Fin 32) : NoNewFrame s t c :=
  fun l src _ hf => by rwa [inFlightFrom_congr (h l)] at hf

/-- Neither the queues nor the frames of a channel have grown. -/
theorem bindingUsed_le (ho : b'.owner = b.owner)
    (hq : b'.outbound.length + b'.inbound.length ≤ b.outbound.length + b.inbound.length) (hf : NoNewFrame s t c) :
    t.bindingUsed c b' ≤ s.bindingUsed c b := by
  have hone (l : Link) {src : FrameSource} (hsrc : src = .forward c ∨ src = .deliver c) :
      (if t.inFlightFrom l src = true then 1 else 0) ≤ if s.inFlightFrom l src = true then 1 else 0 := by
    split
    next ht => rw [if_pos (hf l src hsrc ht)]
    next => exact Nat.zero_le _
  have hforward := hone .r (src := .forward c) (.inl rfl)
  have hdeliver := hone b.owner.link (src := .deliver c) (.inr rfl)
  unfold State.bindingUsed
  rw [ho]
  omega

/-- What the law says of one channel. -/
structure State.ChannelLawful (s : State) (c : Fin 32) : Prop where
  bound : ∀ b, (s.channel c).binding = some b → b.lawful c ∧ s.bindingUsed c b ≤ b.ceiling
  forward : ∀ l, s.inFlightFrom l (.forward c) = true → l = .r ∧ (s.channel c).binding.isSome
  deliver : ∀ l, s.inFlightFrom l (.deliver c) = true → ∃ b, (s.channel c).binding = some b ∧ b.owner.link = l

theorem poolLaw_iff : PoolLaw s ↔
    (∀ c, s.ChannelLawful c) ∧ (allChannels.map s.blocksKept).sum ≤ 96 ∧ s.reserveSum ≤ 64 := by
  rw [← blocksInUse_add_reservedFree]
  constructor
  · rintro ⟨hbound, hforward, hdeliver, hpool, hsum⟩
    exact ⟨fun c => ⟨hbound c, fun l => hforward l c, fun l => hdeliver l c⟩, hpool, hsum⟩
  · rintro ⟨hlaw, hpool, hsum⟩
    exact ⟨fun c => (hlaw c).bound, fun l c => (hlaw c).forward l, fun l c => (hlaw c).deliver l, hpool, hsum⟩

theorem PoolLaw.channel (h : PoolLaw s) (c : Fin 32) : s.ChannelLawful c := (poolLaw_iff.mp h).1 c

/-- An UNBOUND channel has no frame in flight, so nothing of it is counted once it is bound. -/
theorem State.ChannelLawful.no_frame (h : s.ChannelLawful c) (hb : (s.channel c).binding = none)
    {src : FrameSource} (hsrc : src = .forward c ∨ src = .deliver c) (l : Link) : ¬ s.inFlightFrom l src = true := by
  intro hf
  rcases hsrc with rfl | rfl
  · simpa [hb] using (h.forward l hf).2
  · obtain ⟨b, hsome, -⟩ := h.deliver l hf
    rw [hb] at hsome
    cases hsome

/-- A channel whose record stands, and that has no new frame in flight. -/
theorem State.ChannelLawful.congr (h : s.ChannelLawful c) (hc : t.channel c = s.channel c) (hf : NoNewFrame s t c) :
    t.ChannelLawful c where
  bound b hb := by
    rw [hc] at hb
    obtain ⟨hlaw, hused⟩ := h.bound b hb
    exact ⟨hlaw, (bindingUsed_le rfl (Nat.le_refl _) hf).trans hused⟩
  forward l hl := hc ▸ h.forward l (hf l _ (.inl rfl) hl)
  deliver l hl := hc ▸ h.deliver l (hf l _ (.inr rfl) hl)

theorem reserve_congr (hc : t.channel c = s.channel c) : t.reserve c = s.reserve c := by
  rw [State.reserve, State.reserve, hc]

theorem blocksKept_le (hc : t.channel c = s.channel c) (hf : NoNewFrame s t c) : t.blocksKept c ≤ s.blocksKept c := by
  refine max_le_max (reserve_congr hc).le ?_
  cases hb : (s.channel c).binding with
  | none => rw [used_unbound (hc ▸ hb), used_unbound hb]
  | some b =>
    rw [used_bound (hc ▸ hb), used_bound hb]
    exact bindingUsed_le rfl (Nat.le_refl _) hf

/-! ## What keeps the law -/

/-- One channel changes, within the pool's room; the others stand. -/
theorem PoolLaw.update (h : PoolLaw s) (c : Fin 32)
    (hother : ∀ d, d ≠ c → t.channel d = s.channel d ∧ NoNewFrame s t d) (hlaw : t.ChannelLawful c)
    (hkept : s.blocksInUse + s.reservedFree + t.blocksKept c ≤ 96 + s.blocksKept c)
    (hsum : s.reserveSum + t.reserve c ≤ 64 + s.reserve c) : PoolLaw t := by
  have hblocks := sum_channels_le (f := t.blocksKept) (g := s.blocksKept) c fun d hd =>
    blocksKept_le (hother d hd).1 (hother d hd).2
  have hreserves := sum_channels_le (f := t.reserve) (g := s.reserve) c fun d hd => (reserve_congr (hother d hd).1).le
  rw [blocksInUse_add_reservedFree] at hkept
  rw [State.reserveSum] at hsum
  refine poolLaw_iff.mpr ⟨fun d => ?_, by omega, by rw [State.reserveSum]; omega⟩
  rcases eq_or_ne d c with rfl | hd
  · exact hlaw
  · exact (h.channel d).congr (hother d hd).1 (hother d hd).2

/-- The relay stands, and no relay frame is newly in flight. -/
theorem PoolLaw.congr (h : PoolLaw s) (hr : t.relay = s.relay) (hf : ∀ c, NoNewFrame s t c) : PoolLaw t := by
  obtain ⟨-, -, -, hpool, hsum⟩ := id h
  have hc (c : Fin 32) : t.channel c = s.channel c := channel_congr hr c
  have hkept := blocksKept_le (hc 0) (hf 0)
  have hreserve := reserve_congr (hc 0)
  exact h.update 0 (fun d _ => ⟨hc d, hf d⟩) ((h.channel 0).congr (hc 0) (hf 0)) (by omega) (by omega)

theorem PoolLaw.frame (h : PoolLaw s) (hr : t.relay = s.relay) (hp : ∀ l, (t.port l).inFlight = (s.port l).inFlight) :
    PoolLaw t := h.congr hr (NoNewFrame.of_inFlight hp)

/-- The same with all the ports as they stand. -/
theorem PoolLaw.blocks (h : PoolLaw s) (hr : t.relay = s.relay) (hp : t.ports = s.ports) : PoolLaw t :=
  h.frame hr fun l => by rw [port_congr hp]

/-- A channel becomes UNBOUND, and its frames leave the ports (R154). -/
theorem PoolLaw.unbind (h : PoolLaw s) (hb : (t.channel c).binding = none)
    (hother : ∀ d, d ≠ c → t.channel d = s.channel d ∧ NoNewFrame s t d)
    (hf : ∀ l src, src = .forward c ∨ src = .deliver c → ¬ t.inFlightFrom l src = true) : PoolLaw t := by
  obtain ⟨-, -, -, hpool, hsum⟩ := id h
  refine h.update c hother ⟨fun b hsome => ?_, fun l hl => absurd hl (hf l _ (.inl rfl)),
    fun l hl => absurd hl (hf l _ (.inr rfl))⟩ ?_ ?_
  · rw [hb] at hsome
    cases hsome
  · rw [State.blocksKept, reserve_unbound hb, used_unbound hb]
    omega
  · rw [reserve_unbound hb]
    omega

theorem canAllocate_iff : s.canAllocate c b = true ↔
    s.bindingUsed c b < b.reserve ∨ (s.bindingUsed c b < b.ceiling ∧ 1 ≤ s.sharedFree) := by
  simp [State.canAllocate]

/-- A bound channel keeps its owner and its limits, and takes one more block at most, where one can be allocated
(R150). -/
theorem PoolLaw.rebind (h : PoolLaw s) (hb : (s.channel c).binding = some b) (hb' : (t.channel c).binding = some b')
    (hsame : b'.owner = b.owner ∧ b'.reserve = b.reserve ∧ b'.ceiling = b.ceiling)
    (hother : ∀ d, d ≠ c → t.channel d = s.channel d ∧ NoNewFrame s t d)
    (hforward : ∀ l, t.inFlightFrom l (.forward c) = true → l = .r)
    (hdeliver : ∀ l, t.inFlightFrom l (.deliver c) = true → b.owner.link = l)
    (hused : t.bindingUsed c b' ≤ s.bindingUsed c b
      ∨ t.bindingUsed c b' = s.bindingUsed c b + 1 ∧ s.canAllocate c b = true) : PoolLaw t := by
  obtain ⟨howner, hreserve, hceiling⟩ := hsame
  obtain ⟨-, -, -, hpool, hsum⟩ := id h
  obtain ⟨hlaw, hwithin⟩ := (h.channel c).bound b hb
  have hlaw' : b'.lawful c := by
    unfold Binding.lawful at hlaw ⊢
    rwa [howner, hreserve, hceiling]
  obtain ⟨-, -, -, hle, -⟩ := hlaw
  have hshared : s.sharedFree = 96 - s.blocksInUse - s.reservedFree := rfl
  rw [canAllocate_iff] at hused
  refine h.update c hother ⟨fun x hx => ?_, fun l hl => ⟨hforward l hl, by rw [hb']; rfl⟩,
    fun l hl => ⟨b', hb', howner ▸ hdeliver l hl⟩⟩ ?_ ?_
  · cases hb'.symm.trans hx
    exact ⟨hlaw', by omega⟩
  · rw [State.blocksKept, State.blocksKept, reserve_bound hb, reserve_bound hb', used_bound hb, used_bound hb']
    omega
  · rw [reserve_bound hb, reserve_bound hb']
    omega

end Sys2Proof.Machine
end

section
/-! SUPPORT. The frame in flight of each port through the events of custody, the panel, the printer, the bridge and the
clock: those that cancel none leave it. -/

namespace Sys2Proof.Machine

variable {s t : State} {c : Fin 32} {l k : Link} {src : FrameSource}

/-! ## Custody (R48 to R60) -/

@[simp] theorem reportDisplayHead_inFlight (s : State) (k : Link) :
    ((reportDisplayHead s).port k).inFlight = (s.port k).inFlight := by
  unfold reportDisplayHead
  split
  · dsimp only
    split
    · exact completeTurnover_inFlight .display _ k
    · rfl
  · rfl

@[simp] theorem changeWaiting_inFlight (r : Resource) (ws : List Waiter) (s : State) (k : Link) :
    ((changeWaiting r ws s).port k).inFlight = (s.port k).inFlight := by
  unfold changeWaiting
  dsimp only
  split <;> simp

@[simp] theorem runPrinter_inFlight (s : State) (k : Link) :
    ((runPrinter s).port k).inFlight = (s.port k).inFlight := by
  have hseparator (t : State) : ((endSeparator t).port k).inFlight = (t.port k).inFlight := by
    unfold endSeparator
    split
    · exact completeTurnover_inFlight .printer _ k
    · rfl
  simp [runPrinter, hseparator]

/-! ## Events of the panel, the printer, the bridge and the clock -/

@[simp] theorem switchDisplay_inFlight (x : Source) (s : State) (k : Link) :
    ((switchDisplay x s).port k).inFlight = (s.port k).inFlight := by simp [switchDisplay, completeDisplay]

@[simp] theorem fsyncEdge_inFlight (s : State) (k : Link) :
    ((fsyncEdge s).port k).inFlight = (s.port k).inFlight := by
  unfold fsyncEdge
  split <;> simp

@[simp] theorem forcedSwitch_inFlight (s : State) (k : Link) :
    ((forcedSwitch s).port k).inFlight = (s.port k).inFlight := by
  unfold forcedSwitch
  (repeat' split) <;> simp

@[simp] theorem characterComplete_inFlight (s : State) (k : Link) :
    ((characterComplete s).port k).inFlight = (s.port k).inFlight := by
  unfold characterComplete
  split <;> simp

@[simp] theorem printerStall_inFlight (s : State) (k : Link) :
    ((printerStall s).port k).inFlight = (s.port k).inFlight := by
  unfold printerStall
  split <;> simp

@[simp] theorem fieldResetExpiry_inFlight (s : State) (k : Link) :
    ((fieldResetExpiry s).port k).inFlight = (s.port k).inFlight := by
  unfold fieldResetExpiry
  dsimp only
  (repeat' split) <;> simp

@[simp] theorem dozeReplyCompleted_inFlight (s : State) (k : Link) :
    ((dozeReplyCompleted s).port k).inFlight = (s.port k).inFlight := by
  unfold dozeReplyCompleted enterDoze
  dsimp only
  (repeat' split) <;> simp

@[simp] theorem millisecond_inFlight (s : State) (k : Link) :
    ((millisecond s).port k).inFlight = (s.port k).inFlight := by cases k <;> exact Port.tick_inFlight _

/-! ## Frames that are cancelled (R15) -/

theorem cancelInFlight_inFlight (l : Link) (s : State) (k : Link) :
    ((cancelInFlight l s).port k).inFlight = if k = l then none else (s.port k).inFlight := by
  unfold cancelInFlight
  dsimp only
  split
  next hnone =>
    split
    next hk => rw [hk, hnone]
    next => rfl
  next => (repeat' split) <;> simp_all [setPort_port]

/-- A cancelled frame, and it alone, is in flight no more. -/
theorem cancelFrom_inFlightFrom {x : FrameSource} :
    (cancelFrom l src s).inFlightFrom k x = true ↔ s.inFlightFrom k x = true ∧ ¬ (k = l ∧ x = src) := by
  unfold cancelFrom
  split
  next hsrc =>
    rw [inFlightFrom_iff, cancelInFlight_inFlight, inFlightFrom_iff]
    obtain ⟨y, hy, hys⟩ := inFlightFrom_iff.mp hsrc
    rcases eq_or_ne k l with rfl | hk
    · simp only [if_true, true_and, hy]
      constructor
      · rintro ⟨z, hz, -⟩
        cases hz
      · rintro ⟨⟨z, hz, hzx⟩, hx⟩
        cases hz
        exact absurd (hzx.symm.trans hys) hx
    · simp [hk]
  next hsrc => exact (and_iff_left_of_imp fun hf ⟨hk, hx⟩ => hsrc (hk ▸ hx ▸ hf)).symm

/-- With its channel the frames of an unbound channel leave the ports (R154). -/
theorem unbindChannel_inFlightFrom {b : Binding} (hb : (s.channel c).binding = some b) {x : FrameSource} :
    (unbindChannel c s).inFlightFrom k x = true ↔
      s.inFlightFrom k x = true ∧ ¬ (k = .r ∧ x = .forward c) ∧ ¬ (k = b.owner.link ∧ x = .deliver c) := by
  unfold unbindChannel
  rw [hb]
  dsimp only
  rw [(setBinding_reads c none _).2.1, cancelFrom_inFlightFrom, cancelFrom_inFlightFrom, and_assoc]

end Sys2Proof.Machine
end

section
/-! SUPPORT. That every operation on custody, on frames and on channels keeps the law of the relay's pool:
a frame that is cancelled frees its block, and one that goes out took its block from a queue (R15, R149, R151). -/

namespace Sys2Proof.Machine

variable {s t : State} {c : Fin 32} {l : Link} {src : FrameSource} {r : Resource}

/-! ## Frames (R12 to R15) -/

/-- A port may send what it sent before, or anything that is no relay frame. -/
theorem setPort_noNewFrame {p : Port} (hp : ∀ x, p.inFlight = some x → x.source = .forward c ∨ x.source = .deliver c →
    s.inFlightFrom l x.source = true) : NoNewFrame s (s.setPort l p) c := by
  intro k src hsrc hf
  obtain ⟨x, hx, rfl⟩ := inFlightFrom_iff.mp hf
  rw [setPort_port] at hx
  split at hx
  next hk => exact hk ▸ hp x hx hsrc
  next => exact inFlightFrom_iff.mpr ⟨x, hx, rfl⟩

theorem PoolLaw.setPort_same (h : PoolLaw s) {p : Port} (hp : p.inFlight = (s.port l).inFlight) :
    PoolLaw (s.setPort l p) := h.frame rfl (setPort_inFlight hp)

/-- The frame in flight moves on, and stays the frame it is. -/
theorem PoolLaw.setPort_map (h : PoolLaw s) {p : Port} {f : InFlight → InFlight} (hf : ∀ x, (f x).source = x.source)
    (hp : p.inFlight = (s.port l).inFlight.map f) : PoolLaw (s.setPort l p) := by
  refine h.congr rfl fun c => setPort_noNewFrame fun x hx _ => ?_
  rw [hp] at hx
  obtain ⟨y, hy, rfl⟩ := Option.map_eq_some_iff.mp hx
  exact inFlightFrom_iff.mpr ⟨y, hy, (hf y).symm⟩

theorem cancelInFlight_noNewFrame (l : Link) (s : State) (c : Fin 32) : NoNewFrame s (cancelInFlight l s) c := by
  intro k src _ hf
  obtain ⟨x, hx, hsrc⟩ := inFlightFrom_iff.mp hf
  rw [cancelInFlight_inFlight] at hx
  split at hx
  · cases hx
  · exact inFlightFrom_iff.mpr ⟨x, hx, hsrc⟩

theorem cancelInFlight_poolLaw (l : Link) (h : PoolLaw s) : PoolLaw (cancelInFlight l s) :=
  h.congr (by simp) (cancelInFlight_noNewFrame l s)

theorem cancelFrom_poolLaw (l : Link) (src : FrameSource) (h : PoolLaw s) : PoolLaw (cancelFrom l src s) :=
  h.congr (by simp) fun _ _ _ _ hf => (cancelFrom_inFlightFrom.mp hf).1

/-- Any frame but a FORWARD or a DELIVER is no matter of the law. -/
theorem beginFrame_poolLaw (f : Frame) (hsrc : ∀ c, src ≠ .forward c ∧ src ≠ .deliver c) (h : PoolLaw s) :
    PoolLaw (beginFrame l f src s) := by
  refine h.congr rfl fun c => setPort_noNewFrame fun x hx hx' => ?_
  cases hx
  exact absurd hx' (not_or.mpr (hsrc c))

@[simp] theorem recordServed_channel (l : Link) (level : Fin 4) (c d : Fin 32) (s : State) :
    (s.recordServed l level c).channel d = s.channel d := rfl

theorem setBinding_channel (s : State) (c d : Fin 32) (x : Option Binding) :
    (s.setBinding c x).channel d = if d = c then { s.channel c with binding := x } else s.channel d :=
  setChannel_channel ..

theorem beginFrame_inFlightFrom (l : Link) (f : Frame) (src : FrameSource) (s : State) (k : Link) (x : FrameSource) :
    (beginFrame l f src s).inFlightFrom k x = if k = l then src == x else s.inFlightFrom k x := by
  rcases eq_or_ne k l with rfl | hk
  · rw [if_pos rfl, State.inFlightFrom, beginFrame, setPort_port_self]
  · rw [if_neg hk]
    exact inFlightFrom_congr (by rw [beginFrame, setPort_port_other _ _ _ _ hk]) x

/-- A queue that feeds a link is the channel's toward that link, and its oldest block can leave it (R12, R158). -/
theorem feed_cons {b : Binding} {data : List Byte} {rest : List (List Byte)}
    (hb : (s.channel c).binding = some b) (hfeed : s.feed l c = data :: rest) :
    (l = .r ∨ b.owner.link = l)
      ∧ (b.dropHead l).outbound.length + (b.dropHead l).inbound.length + 1
        = b.outbound.length + b.inbound.length := by
  rw [State.feed, hb] at hfeed
  cases l with
  | r =>
    change b.outbound = _ at hfeed
    simp only [Binding.dropHead, hfeed, List.tail_cons, List.length_cons]
    exact ⟨.inl trivial, by omega⟩
  | p =>
    dsimp only at hfeed
    split at hfeed
    next howner =>
      simp only [Binding.dropHead, hfeed, List.tail_cons, List.length_cons]
      exact ⟨.inr (by rw [howner]; rfl), by omega⟩
    next => cases hfeed
  | a =>
    dsimp only at hfeed
    split at hfeed
    next howner =>
      simp only [Binding.dropHead, hfeed, List.tail_cons, List.length_cons]
      refine ⟨.inr ?_, by omega⟩
      cases ho : b.owner with
      | app n => rfl
      | pay | rad => simp [ho, Subject.isApp] at howner
    next => cases hfeed

/-- A block leaves its queue for the frame in flight of an idle port, on the link it feeds, and stays in use (R151). -/
theorem relayFrame_poolLaw {b b' : Binding} (f : Frame) (level : Fin 4) (hb : (s.channel c).binding = some b)
    (hsame : b'.owner = b.owner ∧ b'.reserve = b.reserve ∧ b'.ceiling = b.ceiling)
    (hlength : b'.outbound.length + b'.inbound.length + 1 = b.outbound.length + b.inbound.length)
    (hidle : (s.port l).inFlight = none)
    (hsrc : l = .r ∧ src = .forward c ∨ l ≠ .r ∧ b.owner.link = l ∧ src = .deliver c) (h : PoolLaw s) :
    PoolLaw (beginFrame l f src ((s.setBinding c (some b')).recordServed l level c)) := by
  have hold (k : Link) (x : FrameSource) :
      ((s.setBinding c (some b')).recordServed l level c).inFlightFrom k x = s.inFlightFrom k x := by simp
  have hnone (x : FrameSource) : s.inFlightFrom l x = false := by rw [State.inFlightFrom, hidle]
  have hlaw := h.channel c
  refine h.rebind hb (b' := b') (by simp [beginFrame, setBinding_channel]) hsame (fun d hd => ⟨?_, fun k x hx hf => ?_⟩)
    (fun k hk => ?_) (fun k hk => ?_) (.inl ?_)
  · simp [beginFrame, setBinding_channel, hd]
  · rw [beginFrame_inFlightFrom, hold] at hf
    split at hf
    next hk =>
      have hxs : src = x := by simpa using hf
      rcases hsrc with ⟨-, rfl⟩ | ⟨-, -, rfl⟩ <;> rcases hx with rfl | rfl <;> cases hxs <;> exact absurd rfl hd
    next => exact hf
  · rw [beginFrame_inFlightFrom, hold] at hk
    split at hk
    next hkl =>
      rcases hsrc with ⟨hl, -⟩ | ⟨-, -, rfl⟩
      · exact hkl.trans hl
      · cases hk
    next => exact (hlaw.forward k hk).1
  · rw [beginFrame_inFlightFrom, hold] at hk
    split at hk
    next hkl =>
      rcases hsrc with ⟨-, rfl⟩ | ⟨-, hl, -⟩
      · cases hk
      · exact hl.trans hkl.symm
    next =>
      obtain ⟨x, hx, hlink⟩ := hlaw.deliver k hk
      cases hb.symm.trans hx
      exact hlink
  · simp only [State.bindingUsed, beginFrame_inFlightFrom, hold, hsame.1]
    rcases hsrc with ⟨rfl, rfl⟩ | ⟨hl, hlink, rfl⟩
    · by_cases ho : b.owner.link = .r <;> simp [ho, hnone] <;> omega
    · simp [hlink, hnone, hl.symm]
      omega

/-- The oldest block of the chosen channel goes out as FORWARD or DELIVER (R13). -/
theorem sendRelay_poolLaw (l : Link) (level : Fin 4) (c : Fin 32) (hidle : (s.port l).inFlight = none)
    (h : PoolLaw s) : PoolLaw (sendRelay l level c s) := by
  unfold sendRelay
  split
  next b data rest hb hfeed =>
    obtain ⟨hlink, hlength⟩ := feed_cons hb hfeed
    refine relayFrame_poolLaw _ level hb (by cases l <;> exact ⟨rfl, rfl, rfl⟩) hlength hidle ?_ h
    by_cases hl : l = .r
    · exact .inl ⟨hl, if_pos hl⟩
    · exact .inr ⟨hl, hlink.resolve_left hl, if_neg hl⟩
  next => exact h

/-! ## Custody (R48 to R60) -/

theorem keypadTurnover_poolLaw (old : Option Subject) (h : PoolLaw s) : PoolLaw (keypadTurnover old s) := by
  cases old with
  | none => exact h.frame (by simp [keypadTurnover]) (by simp [keypadTurnover])
  | some who =>
    exact (cancelFrom_poolLaw who.link .key h).frame (by simp [keypadTurnover]) (by simp [keypadTurnover])

theorem clessTurnover_poolLaw (old : Option Subject) (h : PoolLaw s) : PoolLaw (clessTurnover old s) := by
  unfold clessTurnover
  split
  case h_7 =>
    cases old with
    | none => exact h.blocks rfl rfl
    | some who => exact (cancelFrom_poolLaw who.link .clResult h).blocks rfl rfl
  all_goals exact h.blocks (by simp [beginFieldReset]) (by simp [beginFieldReset])

theorem enterTurnover_poolLaw (r : Resource) (k : EndingKind) (h : PoolLaw s) : PoolLaw (enterTurnover r k s) := by
  have hset : PoolLaw (s.setEntry r { s.entry r with state := .turnover k }) := h.blocks rfl rfl
  unfold enterTurnover
  cases r with
  | keypad => exact keypadTurnover_poolLaw _ hset
  | display => exact hset.frame (by simp) (by simp)
  | cless => exact clessTurnover_poolLaw _ hset
  | printer => exact hset.frame (by simp) (by simp [printerTurnover])

/-- The law of the pool is one that the operations of custody keep. -/
theorem poolLaw_keptByCustody : KeptByCustody PoolLaw where
  lease := fun _ _ h => h.blocks rfl rfl
  notice := fun _ _ h => h.frame (by simp) (by simp)
  turnover := enterTurnover_poolLaw
  waiting := fun _ _ h => h.frame (by simp) (by simp)

theorem takeOver_poolLaw (r : Resource) (h : PoolLaw s) : PoolLaw (takeOver r s) := by
  unfold takeOver
  split
  · split
    · exact h
    · exact enterTurnover_poolLaw r .revoked (h.frame (by simp) (by simp))
  · dsimp only
    split <;> exact h.frame (by simp) (by simp)
  · have hplaced : PoolLaw (placePay r s) := h.frame (by simp) (by simp)
    dsimp only
    split
    · exact keypadTurnover_poolLaw none hplaced
    · exact enterTurnover_poolLaw _ .revoked hplaced
    · exact hplaced.frame (by simp) (by simp)

theorem attentionTakeover_poolLaw (h : PoolLaw s) : PoolLaw (attentionTakeover s) :=
  (takeOver_poolLaw .display (takeOver_poolLaw .keypad h)).frame (by simp [attentionTakeover])
    (by simp [attentionTakeover])

end Sys2Proof.Machine
end

section
/-! SUPPORT. That every event, every request and every reference cycle keeps the law of the relay's pool, and so every
step (O59): a frame that goes out takes its block from a queue, a bind, a SEND and a DATA are admitted within the
pool's room alone, and nothing else adds to a channel (R150 to R164). -/

namespace Sys2Proof.Machine

variable {s : State} {c : Fin 32} {l : Link}

/-! ## Transfers (R12 to R14) -/

theorem chooseFrame_poolLaw (l : Link) (h : PoolLaw s) : PoolLaw (chooseFrame l s) := by
  have hnotice (n : Notice) : PoolLaw (sendNotice l n s) :=
    beginFrame_poolLaw _ (fun _ => ⟨nofun, nofun⟩) (h.setPort_same rfl)
  unfold chooseFrame
  dsimp only
  split
  next x hx =>
    refine h.congr rfl fun c => setPort_noNewFrame fun y hy _ => inFlightFrom_iff.mpr ⟨x, hx, ?_⟩
    cases hy
    rfl
  next hidle =>
    split
    · exact hnotice _
    · exact beginFrame_poolLaw _ (fun _ => ⟨nofun, nofun⟩) (h.setPort_same rfl)
    · exact hnotice _
    · split
      · exact beginFrame_poolLaw _ (fun _ => ⟨nofun, nofun⟩) (h.blocks rfl rfl)
      · exact beginFrame_poolLaw _ (fun _ => ⟨nofun, nofun⟩) (h.blocks rfl rfl)
      · exact sendRelay_poolLaw l _ _ hidle h
      · exact h

theorem outboundChoice_poolLaw (l : Link) (h : PoolLaw s) : PoolLaw (outboundChoice l s) := by
  have hbyte {t : State} (ht : PoolLaw t) : PoolLaw (beginByte l t) := ht.setPort_same rfl
  unfold outboundChoice
  split
  · split
    · dsimp only
      split
      · exact hbyte (chooseFrame_poolLaw l (h.setPort_same rfl))
      · exact hbyte (h.setPort_same rfl)
    · exact h
  · exact h

/-- A frame that completes frees its block (R151). -/
theorem frameComplete_poolLaw (l : Link) (h : PoolLaw s) : PoolLaw (frameComplete l s) := by
  have hdrop : PoolLaw (s.setPort l { s.port l with inFlight := none }) :=
    h.congr rfl fun c => setPort_noNewFrame nofun
  unfold frameComplete reportCompletion
  (repeat' split) <;> first | exact h | exact hdrop | exact hdrop.frame (by simp) (by simp)

theorem clockEdge_poolLaw (l : Link) (h : PoolLaw s) : PoolLaw (clockEdge l s) := by
  unfold clockEdge
  split
  · exact h
  · exact (outboundChoice_poolLaw l (frameComplete_poolLaw l h)).frame (by simp) (by simp)

theorem moveByte_poolLaw (l : Link) (b : Byte) (h : PoolLaw s) : PoolLaw (moveByte l b s) := by
  have hreceive {t : State} (ht : PoolLaw t) : PoolLaw (receiveByte l b t) := ht.frame (by simp) (by simp)
  unfold moveByte
  split
  · exact h
  · exact hreceive ((clockEdge_poolLaw l h).setPort_map InFlight.shift_source (by rfl))

theorem arrive_poolLaw (l : Link) (a : Arrival) (h : PoolLaw s) : PoolLaw (arrive l a s) := by
  cases a with
  | edge => exact clockEdge_poolLaw l h
  | byte b => exact moveByte_poolLaw l b h

theorem transferEnd_poolLaw (l : Link) (h : PoolLaw s) : PoolLaw (transferEnd l s) := by
  unfold transferEnd
  split
  · exact h
  · have hend : PoolLaw (truncateAtEnd l (frameComplete l s)) :=
      (frameComplete_poolLaw l h).frame (by simp) (by simp)
    exact hend.setPort_map (f := InFlight.park) (fun _ => rfl) rfl

/-! ## Keys, and the timebase -/

theorem reportMatch_poolLaw (h : PoolLaw s) : PoolLaw (reportMatch s) := by
  unfold reportMatch
  split
  · exact attentionTakeover_poolLaw h
  · exact h.blocks rfl rfl

theorem matchFound_poolLaw (h : PoolLaw s) : PoolLaw (matchFound s) :=
  reportMatch_poolLaw (h.blocks (by split <;> simp) (by split <;> simp))

theorem scanWoken_poolLaw (sample : BitVec 24) (h : PoolLaw s) : PoolLaw (scanWoken sample s) := by
  obtain ⟨-, -, -, hports, -⟩ := scanWoken_frame sample s
  refine h.frame ?_ fun l => (congrArg Port.inFlight (port_congr hports l)).trans (scanDelivered_inFlight sample s l)
  unfold scanWoken scanDelivered scanSampled
  dsimp only
  split <;> simp

theorem keyScan_poolLaw (sample : BitVec 24) (h : PoolLaw s) : PoolLaw (keyScan sample s) := by
  unfold keyScan
  split
  · rw [scanEvent_steps]
    split
    · exact matchFound_poolLaw (scanWoken_poolLaw sample h)
    · exact scanWoken_poolLaw sample h
  · exact h

theorem holdTimerMatch_poolLaw (h : PoolLaw s) : PoolLaw (holdTimerMatch s) := by
  unfold holdTimerMatch
  split
  · split
    · exact matchFound_poolLaw (h.blocks rfl rfl)
    · exact h
  · exact h

theorem lockIfDue_poolLaw (h : PoolLaw s) : PoolLaw (lockIfDue s) := by
  have hrun {t : State} (ht : PoolLaw t) : PoolLaw (runPendingTakeover t) := by
    unfold runPendingTakeover
    split
    · exact attentionTakeover_poolLaw (ht.blocks rfl rfl)
    · exact ht
  unfold lockIfDue
  split
  · split
    · have hlock := hrun (h.blocks (t := mapGrants Grant.dozeResume
        { s with clock := { s.clock with fastClock := .locked, regime := .run } }) rfl rfl)
      unfold lockEvent
      dsimp only
      split
      · exact hlock.frame (by simp) (by simp)
      · exact hlock.blocks rfl rfl
    · exact h
  · exact h

/-- Every due event, in the order in which the model takes them (log entry 5). -/
theorem takeDue_poolLaw (h : PoolLaw s) : PoolLaw (takeDue s) := by
  have hkept := poolLaw_keptByCustody
  have hframes : PoolLaw (frameStall .r (frameStall .a (frameStall .p s))) := h.frame (by simp) (by simp)
  have hquarter := hkept.quarterBoundary .printer (hkept.quarterBoundary .cless
    (hkept.quarterBoundary .display (hkept.quarterBoundary .keypad hframes)))
  have hheld := hkept.heldQuarter .printer (hkept.heldQuarter .cless
    (hkept.heldQuarter .display (hkept.heldQuarter .keypad hquarter)))
  have hpanel {t : State} (ht : PoolLaw t) : PoolLaw (printerStall (blinkToggle (forcedSwitch t))) := by
    have hport (k : Link) : (blinkToggle (forcedSwitch t)).port k = (forcedSwitch t).port k := by simp
    exact ht.frame (by simp) fun k => by rw [printerStall_inFlight, hport, forcedSwitch_inFlight]
  have hcard {t : State} (ht : PoolLaw t) : PoolLaw (slotBoundary (fieldResetExpiry (exchangeTimeout t))) := by
    have hport (k : Link) : (exchangeTimeout t).port k = t.port k := by simp
    exact ht.frame (by simp) fun k => by rw [slotBoundary_inFlight, fieldResetExpiry_inFlight, hport]
  exact lockIfDue_poolLaw (hcard (hpanel (holdTimerMatch_poolLaw (keyScan_poolLaw _ hheld))))

theorem millisecond_poolLaw (h : PoolLaw s) : PoolLaw (millisecond s) := h.frame rfl (millisecond_inFlight s)

theorem referenceCycle_poolLaw (h : PoolLaw s) : PoolLaw (referenceCycle s) := by
  have hdue := takeDue_poolLaw h
  unfold referenceCycle
  dsimp only
  split
  · exact hdue.blocks rfl rfl
  · exact millisecond_poolLaw (hdue.blocks rfl rfl)

theorem referenceCycles_poolLaw (n : Nat) (h : PoolLaw s) : PoolLaw (referenceCycles n s) := by
  induction n generalizing s with
  | zero => exact h
  | succ n ih => exact ih (referenceCycle_poolLaw h)

theorem fastClockLock_poolLaw (h : PoolLaw s) : PoolLaw (fastClockLock s) := by
  unfold fastClockLock
  split
  · split
    · exact lockIfDue_poolLaw (referenceCycles_poolLaw _ h)
    · exact h
  · exact h

/-- After a part reset every channel is UNBOUND and no frame is in flight (R22, R165). -/
theorem partReset_poolLaw (cause : ResetCause) (s : State) : PoolLaw (partReset cause s) := by
  have hunbound (c : Fin 32) : ((partReset cause s).channel c).binding = none := by
    simp [partReset, resetRelay]
  have hnone (l : Link) (src : FrameSource) : (partReset cause s).inFlightFrom l src = false := by cases l <;> rfl
  have hkept : (partReset cause s).blocksKept = fun _ => 0 := funext fun c => by
    rw [State.blocksKept, reserve_unbound (hunbound c), used_unbound (hunbound c)]
    rfl
  have hreserve : (partReset cause s).reserve = fun _ => 0 := funext fun c => reserve_unbound (hunbound c)
  refine poolLaw_iff.mpr ⟨fun c => ⟨fun b hb => ?_, fun l hl => ?_, fun l hl => ?_⟩, ?_, ?_⟩
  · rw [hunbound] at hb
    cases hb
  · rw [hnone] at hl
    cases hl
  · rw [hnone] at hl
    cases hl
  · simp [hkept]
  · simp [State.reserveSum, hreserve]

/-! ## Channels (R152 to R157, R162 to R164) -/

/-- A bound channel's owner, by its number (R148). -/
theorem classFits_owner {cls : ChanClass} {n : Fin 16} (h : classFits c cls n = true) :
    channelOwner cls n ≠ .rad ∧ (channelOwner cls n = .pay ↔ c.val < 4) := by
  cases cls <;> simp [classFits, channelOwner] at h ⊢ <;> omega

/-- Test 5 of R152: a channel that is bound is not bound again. -/
theorem bindRefusal_none {who : Subject} {cls : ChanClass} {n : Fin 16} (h : bindRefusal who c cls n s = none) :
    (s.channel c).binding = none := by
  unfold bindRefusal at h
  (repeat' split at h) <;> simp_all

/-- A channel is bound where its reserve finds room in the pool and in the reserve sum (R152, R153). -/
theorem bindChannel_poolLaw {b : Binding} (hb : (s.channel c).binding = none) (hlaw : b.lawful c)
    (hqueues : b.outbound = [] ∧ b.inbound = []) (hsum : s.reserveSum + b.reserve ≤ 64)
    (hroom : b.reserve ≤ s.sharedFree) (h : PoolLaw s) : PoolLaw (bindChannel c b s) := by
  obtain ⟨hout, hin⟩ := hqueues
  obtain ⟨-, -, -, hpool, -⟩ := id h
  have hframe (l : Link) (x : FrameSource) : (bindChannel c b s).inFlightFrom l x = s.inFlightFrom l x :=
    inFlightFrom_congr (by simp [bindChannel]) x
  have hnone {src : FrameSource} (hsrc : src = .forward c ∨ src = .deliver c) (l : Link) :
      (bindChannel c b s).inFlightFrom l src = false := by
    rw [hframe]
    exact Bool.eq_false_iff.mpr ((h.channel c).no_frame hb hsrc l)
  have hbound : ((bindChannel c b s).channel c).binding = some b := by simp [bindChannel]
  have hused : (bindChannel c b s).bindingUsed c b = 0 := by
    simp [State.bindingUsed, hout, hin, hnone]
  have hshared : s.sharedFree = 96 - s.blocksInUse - s.reservedFree := rfl
  refine h.update c (fun d hd => ⟨by simp [bindChannel, setChannel_channel, hd], fun l x _ hx => hframe l x ▸ hx⟩)
    ⟨fun x hx => ?_, fun l hl => ?_, fun l hl => ?_⟩ ?_ ?_
  · cases hbound.symm.trans hx
    exact ⟨hlaw, by omega⟩
  · rw [hnone (.inl rfl)] at hl
    cases hl
  · rw [hnone (.inr rfl)] at hl
    cases hl
  · rw [State.blocksKept, reserve_bound hbound, used_bound hbound]
    omega
  · rw [reserve_bound hbound]
    omega

theorem chBindHandler_poolLaw (l : Link) (w : Subject) (body : List Byte) (h : PoolLaw s) :
    PoolLaw (chBindHandler l w body s).1 := by
  unfold chBindHandler
  split
  · split
    next c n cls _ _ _ =>
      split
      · exact h
      next hfits =>
        split
        · exact h
        next hnone =>
          dsimp only
          split
          · exact h
          next hroom =>
            obtain ⟨howner, hpay⟩ := classFits_owner (not_not.mp hfits)
            simp only [clampTo_zero_eq, not_or, not_lt] at hroom ⊢
            rw [clampTo_eq (show min 8 _ ≤ 32 by omega)]
            obtain ⟨hsum, hshared⟩ := hroom
            refine bindChannel_poolLaw (bindRefusal_none hnone) ⟨howner, hpay, ?_, ?_, ?_⟩ ⟨rfl, rfl⟩ hsum hshared h <;>
              dsimp only <;> omega
    next => exact h
  · exact h

theorem unbindChannel_poolLaw (c : Fin 32) (h : PoolLaw s) : PoolLaw (unbindChannel c s) := by
  cases hb : (s.channel c).binding with
  | none => rwa [unbindChannel, hb]
  | some b =>
    have hframe {l : Link} {x : FrameSource} := unbindChannel_inFlightFrom (k := l) (x := x) hb
    refine h.unbind (c := c) (by simp [unbindChannel_channel]) (fun d hd => ⟨by simp [unbindChannel_channel, hd],
      fun l x _ hx => (hframe.mp hx).1⟩) fun l x hx hl => ?_
    obtain ⟨hl, hforward, hdeliver⟩ := hframe.mp hl
    rcases hx with rfl | rfl
    · exact hforward ⟨((h.channel c).forward l hl).1, rfl⟩
    · obtain ⟨y, hy, hlink⟩ := (h.channel c).deliver l hl
      cases hb.symm.trans hy
      exact hdeliver ⟨hlink.symm, rfl⟩

theorem notifySubject_poolLaw (w : Subject) (n : NoticeBody) (h : PoolLaw s) : PoolLaw (notifySubject w n s) :=
  h.frame (by simp) (by simp)

theorem notifyLink_poolLaw (k : Link) (n : NoticeBody) (h : PoolLaw s) : PoolLaw (notifyLink k n s) :=
  h.frame (by simp) (by simp)

theorem chUnbindHandler_poolLaw (l : Link) (w : Subject) (body : List Byte) (h : PoolLaw s) :
    PoolLaw (chUnbindHandler l w body s).1 := by
  have hclosed (c : Fin 32) : PoolLaw (notifyClosedRad c .unbind (unbindChannel c s)) :=
    notifyLink_poolLaw _ _ (unbindChannel_poolLaw c h)
  unfold chUnbindHandler
  split
  · split
    · exact h
    next c _ =>
      split
      · exact h
      · split
        · exact h
        next b _ =>
          dsimp only
          split
          · exact hclosed c
          · exact notifySubject_poolLaw _ _ (hclosed c)
  · exact h

theorem retireChannel_poolLaw (n : Fin 16) (c : Fin 32) (h : PoolLaw s) : PoolLaw (retireChannel n s c) := by
  unfold retireChannel
  split
  · split
    · exact notifySubject_poolLaw _ _ (notifyLink_poolLaw _ _ (unbindChannel_poolLaw c h))
    · exact h
  · exact h

theorem restartChannel_poolLaw (l : Link) (c : Fin 32) (h : PoolLaw s) : PoolLaw (restartChannel l s c) := by
  unfold restartChannel
  split
  · exact notifyLink_poolLaw _ _ (unbindChannel_poolLaw c h)
  · exact h

/-- A binding written again with its owner and its limits, and its frames where they were. -/
theorem setBinding_poolLaw {b b' : Binding} (hb : (s.channel c).binding = some b)
    (hsame : b'.owner = b.owner ∧ b'.reserve = b.reserve ∧ b'.ceiling = b.ceiling)
    (hused : s.bindingUsed c b' ≤ s.bindingUsed c b
      ∨ s.bindingUsed c b' = s.bindingUsed c b + 1 ∧ s.canAllocate c b = true) (h : PoolLaw s) :
    PoolLaw (s.setBinding c (some b')) :=
  h.rebind hb (by simp [setBinding_channel]) hsame
    (fun d hd => ⟨by simp [setBinding_channel, hd], fun _ _ _ hx => by simpa using hx⟩)
    (fun l hl => ((h.channel c).forward l (by simpa using hl)).1)
    (fun l hl => by
      obtain ⟨x, hx, hlink⟩ := (h.channel c).deliver l (by simpa using hl)
      cases hb.symm.trans hx
      exact hlink)
    (by simpa [State.bindingUsed] using hused)

theorem resetChannel_poolLaw (before : State) (c : Fin 32) (h : PoolLaw s) : PoolLaw (resetChannel before s c) := by
  unfold resetChannel
  split
  next b hb =>
    refine notifySubject_poolLaw _ _ (setBinding_poolLaw (b := b) (by simpa using hb) ⟨rfl, rfl, rfl⟩ (.inl ?_)
      (cancelFrom_poolLaw b.owner.link (.deliver c) h))
    exact bindingUsed_le rfl (Nat.zero_le _) fun _ _ _ hx => hx
  next => exact h

/-- A block joins a queue of its channel, where one can be allocated (R150). -/
theorem joinQueue_poolLaw {b b' : Binding} (hb : (s.channel c).binding = some b)
    (hsame : b'.owner = b.owner ∧ b'.reserve = b.reserve ∧ b'.ceiling = b.ceiling)
    (hlength : b'.outbound.length + b'.inbound.length = b.outbound.length + b.inbound.length + 1)
    (hroom : ¬ ¬ s.canAllocate c b = true) (h : PoolLaw s) : PoolLaw (s.setBinding c (some b')) := by
  refine setBinding_poolLaw hb hsame (.inr ⟨?_, not_not.mp hroom⟩) h
  rw [State.bindingUsed, State.bindingUsed, hsame.1]
  omega

theorem sendHandler_poolLaw (l : Link) (w : Subject) (body : List Byte) (h : PoolLaw s) :
    PoolLaw (sendHandler l w body s).1 := by
  unfold sendHandler
  split
  · split
    · exact h
    · split
      · exact h
      next b hb =>
        (repeat' split) <;> try exact h
        next hroom => exact joinQueue_poolLaw hb ⟨rfl, rfl, rfl⟩ (by simp; omega) hroom h
  · exact h

theorem dataHandler_poolLaw (l : Link) (w : Subject) (body : List Byte) (h : PoolLaw s) :
    PoolLaw (dataHandler l w body s).1 := by
  unfold dataHandler
  split
  · split
    · exact h
    · split
      · exact h
      next b hb =>
        (repeat' split) <;> try exact h
        next hroom => exact joinQueue_poolLaw hb ⟨rfl, rfl, rfl⟩ (by simp; omega) hroom h
  · exact h

/-! ## Requests -/

theorem processWhere_poolLaw {mine : Frame → Bool} {k : ReqKind} {handler : Handler}
    (hh : ∀ w b t, PoolLaw t → PoolLaw (handler l w b t).1) (h : PoolLaw s) :
    PoolLaw (processWhere mine k handler l s) := by
  have hdrop : PoolLaw (dropOldest l s) := h.setPort_same rfl
  unfold processWhere
  split
  · split
    · unfold processFrame
      dsimp only
      split
      · exact hdrop.setPort_same rfl
      · exact (hh _ _ _ hdrop).setPort_same rfl
    · exact h
  · exact h

/-- A request that leaves the ports and the relay as they stand. -/
theorem frame_poolLaw {mine : Frame → Bool} {k : ReqKind} {handler : Handler}
    (hh : ∀ w b t, (handler l w b t).1.relay = t.relay ∧ (handler l w b t).1.ports = t.ports) (h : PoolLaw s) :
    PoolLaw (processWhere mine k handler l s) :=
  processWhere_poolLaw (fun w b t ht => by
    obtain ⟨hrelay, hports⟩ := hh w b t
    exact ht.blocks hrelay hports) h

theorem conditionsRequests_poolLaw (l : Link) (w : Subject) (b : List Byte) (h : PoolLaw s) :
    PoolLaw (conditionsHandler l w b s).1 ∧ PoolLaw (conditionsEnableHandler l w b s).1 := by
  unfold conditionsHandler conditionsEnableHandler
  constructor <;> (repeat' split) <;> first | exact h | exact h.setPort_same rfl

theorem clExchangeHandler_poolLaw (l : Link) (w : Subject) (b : List Byte) (h : PoolLaw s) :
    PoolLaw (clExchangeHandler l w b s).1 := by
  unfold clExchangeHandler
  dsimp only
  (repeat' split) <;> first | exact h | exact h.frame (by simp) (by simp [armExchange])

theorem tenantEffects_poolLaw (n : Fin 16) (old new : TenantState) (h : PoolLaw s) :
    PoolLaw (tenantEffects n old new s) := by
  have hend : PoolLaw (if old = .active ∧ new ≠ .active then endAllStanding (.app n) s else s) := by
    split
    · exact poolLaw_keptByCustody.endAllStanding _ h
    · exact h
  unfold tenantEffects
  dsimp only
  split
  · exact List.foldlRecOn _ _ hend fun _ ht c _ => retireChannel_poolLaw n c ht
  · exact hend

theorem policySetHandler_poolLaw (l : Link) (w : Subject) (b : List Byte) (h : PoolLaw s) :
    PoolLaw (policySetHandler l w b s).1 := by
  unfold policySetHandler
  dsimp only
  (repeat' split) <;> first | exact h | exact poolLaw_keptByCustody.policyEffects _ _ (h.blocks rfl rfl)

theorem tenantSetHandler_poolLaw (l : Link) (w : Subject) (b : List Byte) (h : PoolLaw s) :
    PoolLaw (tenantSetHandler l w b s).1 := by
  unfold tenantSetHandler
  dsimp only
  (repeat' split) <;> first | exact h | exact tenantEffects_poolLaw _ _ _ (h.blocks rfl rfl)

theorem claimFree_poolLaw (terms : ClaimTerms) (h : PoolLaw s) : PoolLaw (claimFree terms s).1 := by
  unfold claimFree
  dsimp only
  split
  · exact enterTurnover_poolLaw _ _ (h.blocks rfl rfl)
  · exact h.blocks (by simp) (by simp)

theorem claimTaken_poolLaw (terms : ClaimTerms) (h : PoolLaw s) : PoolLaw (claimTaken terms s).1 := by
  have hqueue : PoolLaw (claimQueue terms s).1 :=
    poolLaw_keptByCustody.waiting _ _ (h.blocks (t := (takeArrival s).2) rfl rfl)
  have hpreempt (g : Grant) : PoolLaw (claimPreempt terms g s).1 :=
    poolLaw_keptByCustody.revokeGrant _ _ _ (h.blocks rfl rfl)
  unfold claimTaken
  dsimp only
  (repeat' split) <;> first | exact h | exact hqueue | exact hpreempt _

theorem claimHandler_poolLaw (l : Link) (w : Subject) (b : List Byte) (h : PoolLaw s) :
    PoolLaw (claimHandler l w b s).1 := by
  have hdecide (terms : ClaimTerms) : PoolLaw (decideClaim terms s).1 := by
    unfold decideClaim
    dsimp only
    (repeat' split) <;> first | exact h | exact claimFree_poolLaw terms h | exact claimTaken_poolLaw terms h
  unfold claimHandler
  dsimp only
  (repeat' split) <;> first | exact h | exact hdecide _

theorem printFlushHandler_poolLaw (l : Link) (w : Subject) (b : List Byte) (h : PoolLaw s) :
    PoolLaw (printFlushHandler l w b s).1 := by
  unfold printFlushHandler
  split
  · exact h.frame (by simp) (by simp)
  · exact h

/-! ### RESTART (R21, R64, R163, R164) -/

theorem restartLink_poolLaw (l : Link) (h : PoolLaw s) : PoolLaw (restartLink l s) := by
  unfold restartLink
  dsimp only
  refine cancelInFlight_poolLaw l ?_
  split
  · exact (h.blocks rfl rfl).setPort_same rfl
  · exact h.setPort_same rfl

theorem restartEntry_poolLaw (l : Link) (r : Resource) (h : PoolLaw s) : PoolLaw (restartEntry l s r) := by
  unfold restartEntry
  extract_lets ws held
  split
  · exact enterTurnover_poolLaw r .revoked (h.blocks rfl rfl)
  · split
    · exact poolLaw_keptByCustody.waiting r ws h
    · exact h

theorem restartHandler_poolLaw (l : Link) (w : Subject) (b : List Byte) (h : PoolLaw s) :
    PoolLaw (restartHandler l w b s).1 := by
  have hlink := restartLink_poolLaw l h
  have hcustody : PoolLaw (restartCustody l (restartLink l s)) := by
    unfold restartCustody
    split
    · exact hlink
    · exact List.foldlRecOn _ _ hlink fun _ ht r _ => restartEntry_poolLaw l r ht
  have hrelay : PoolLaw (restartRelay l s (restartCustody l (restartLink l s))) := by
    unfold restartRelay
    split
    · exact List.foldlRecOn _ _ hcustody fun _ ht c _ => resetChannel_poolLaw s c ht
    · exact List.foldlRecOn _ _ hcustody fun _ ht c _ => restartChannel_poolLaw l c ht
  exact hrelay.blocks (by simp [restartHandler]) (by simp [restartHandler])

theorem processPartReset_poolLaw (l : Link) (h : PoolLaw s) : PoolLaw (processPartReset l s) := by
  unfold processPartReset
  split
  · exact h
  · split
    · exact h
    · split
      · exact partReset_poolLaw .request s
      · split
        · exact h.frame (by simp) (by simp)
        · exact h

/-! ## Every step -/

theorem after_poolLaw (c : Instr) (h : PoolLaw s) : PoolLaw (after c s) := by
  have hkept := poolLaw_keptByCustody
  cases c
  case restart l => exact processWhere_poolLaw (fun w b _ ht => restartHandler_poolLaw l w b ht) h
  case policySet l => exact processWhere_poolLaw (fun w b _ ht => policySetHandler_poolLaw l w b ht) h
  case tenantSet l => exact processWhere_poolLaw (fun w b _ ht => tenantSetHandler_poolLaw l w b ht) h
  case claim l => exact processWhere_poolLaw (fun w b _ ht => claimHandler_poolLaw l w b ht) h
  case release l => exact processWhere_poolLaw (fun w b _ ht => hkept.releaseHandler l w b ht) h
  case withdraw l => exact processWhere_poolLaw (fun w b _ ht => hkept.withdrawHandler l w b ht) h
  case printFlush l => exact processWhere_poolLaw (fun w b _ ht => printFlushHandler_poolLaw l w b ht) h
  case conditions l => exact processWhere_poolLaw (fun w b _ ht => (conditionsRequests_poolLaw l w b ht).1) h
  case conditionsEnable l => exact processWhere_poolLaw (fun w b _ ht => (conditionsRequests_poolLaw l w b ht).2) h
  case clExchange l => exact processWhere_poolLaw (fun w b _ ht => clExchangeHandler_poolLaw l w b ht) h
  case chBind l => exact processWhere_poolLaw (fun w b _ ht => chBindHandler_poolLaw l w b ht) h
  case chUnbind l => exact processWhere_poolLaw (fun w b _ ht => chUnbindHandler_poolLaw l w b ht) h
  case send l => exact processWhere_poolLaw (fun w b _ ht => sendHandler_poolLaw l w b ht) h
  case data l => exact processWhere_poolLaw (fun w b _ ht => dataHandler_poolLaw l w b ht) h
  case partReset l => exact processPartReset_poolLaw l h
  case pinReset => exact partReset_poolLaw .pin s
  case powerUp => exact partReset_poolLaw .power s
  case outboundChoice l => exact outboundChoice_poolLaw l h
  case frameComplete l => exact frameComplete_poolLaw l h
  case frameReceived l b => simp only [after]; split; exacts [moveByte_poolLaw l b h, h]
  case frameLengthAbandoned l b => simp only [after]; split; exacts [moveByte_poolLaw l b h, h]
  case transferEnd l => exact transferEnd_poolLaw l h
  case arrivingByte l a => exact arrive_poolLaw l a h
  case quarterBoundary r => exact hkept.quarterBoundary r h
  case heldQuarter r => exact hkept.heldQuarter r h
  case keyScan contacts => exact keyScan_poolLaw contacts h
  case holdTimerMatch => exact holdTimerMatch_poolLaw h
  case partTimeTick => exact referenceCycles_poolLaw _ h
  case fastClockLock => exact fastClockLock_poolLaw h
  case transferStart | frameStall | unknownKind | fsyncEdge | forcedSwitch | blinkTimer | prdyActive | characterComplete
      | printerStall | writeComplete | clrdyActive | exchangeTimeout | abortComplete | readComplete | fieldResetExpiry
      | clfevEdge | slotBoundary | txRequestRise | txRequestFall => exact h.frame (by simp [after]) (by simp [after])
  case time | policyGet | tenantGet | custodyQuery | renew | setGrain | hold | resume | keySetup | matchSetup | print
      | printSetup | clSetup | airMap | airQuery | chQuery | chQuerySummary
      | doze => exact frame_poolLaw (fun _ _ _ => by simp) h

/-- Settles O59: every command and every reference cycle keeps the law of the relay's pool. -/
theorem poolKeepsItsLaws : Obligations.PoolKeepsItsLaws := fun _ _ hstep hs =>
  step_keeps PoolLaw (fun _ _ h => h) (fun c _ h => after_poolLaw c h) (fun _ h => referenceCycle_poolLaw h) hstep hs

end Sys2Proof.Machine
end

section
/-! SUPPORT. What the relay's requests read of a state whose oldest frame has given up its place, and the bytes of
their bodies; with it SEND and DATA as functions of their bodies (R150, R156, R157): O51. -/

namespace Sys2Proof.Machine

variable {s t : State} {c : Fin 32} {l : Link} {f : Frame} {who : Subject} {b : Binding} {cb nb : Byte}
  {data body reply : List Byte}

/-! ## The pool without the oldest frame (R8, R149) -/

@[simp] theorem dropOldest_inFlightFrom (l k : Link) (src : FrameSource) (s : State) :
    (dropOldest l s).inFlightFrom k src = s.inFlightFrom k src := inFlightFrom_congr (dropOldest_inFlight l s k) src

@[simp] theorem dropOldest_bindingUsed (l : Link) (s : State) (c : Fin 32) (b : Binding) :
    (dropOldest l s).bindingUsed c b = s.bindingUsed c b := by simp [State.bindingUsed]

@[simp] theorem dropOldest_used (l : Link) (s : State) (c : Fin 32) : (dropOldest l s).used c = s.used c := by
  simp [State.used]

@[simp] theorem dropOldest_reserveSum (l : Link) (s : State) : (dropOldest l s).reserveSum = s.reserveSum := rfl

@[simp] theorem dropOldest_blocksInUse (l : Link) (s : State) : (dropOldest l s).blocksInUse = s.blocksInUse := by
  simp [State.blocksInUse, funext (dropOldest_used l s)]

@[simp] theorem dropOldest_reservedFree (l : Link) (s : State) : (dropOldest l s).reservedFree = s.reservedFree := by
  have hreserve (c : Fin 32) : (dropOldest l s).reserve c = s.reserve c := rfl
  simp [State.reservedFree, hreserve]

@[simp] theorem dropOldest_sharedFree (l : Link) (s : State) : (dropOldest l s).sharedFree = s.sharedFree := by
  simp [State.sharedFree, State.freeBlocks]

@[simp] theorem dropOldest_canAllocate (l : Link) (s : State) (c : Fin 32) (b : Binding) :
    (dropOldest l s).canAllocate c b = s.canAllocate c b := by simp [State.canAllocate]

/-! ## Channel numbers (R147) -/

theorem channelOf_eq_none : channelOf cb = none ↔ 32 ≤ cb.toNat := by simp [channelOf]

theorem channelOf_of (h : cb.toNat = c.val) : channelOf cb = some c := by simp [channelOf, h]

theorem channelByte_of (h : cb.toNat = c.val) : channelByte c = cb := by simp [channelByte, byte, ← h]

/-! ## The requests (R156, R157) -/

theorem send_answers (h : Admitted .send l f s) (hb : f.body = body)
    (hh : sendHandler l (requester l f.tenant) body (dropOldest l s) = (t, reply)) :
    exec (.send l) s = .next (placeReply l (replyFrame f reply) t) :=
  congrArg _ (processRequest_admitted h (hb ▸ hh))

theorem data_answers (h : Admitted .data l f s) (hb : f.body = body)
    (hh : dataHandler l (requester l f.tenant) body (dropOldest l s) = (t, reply)) :
    exec (.data l) s = .next (placeReply l (replyFrame f reply) t) :=
  congrArg _ (processRequest_admitted h (hb ▸ hh))

theorem sendHandler_noChannel (h : 32 ≤ cb.toNat) : sendHandler l who (cb :: data) s = refuse .badRequest s := by
  simp [sendHandler, channelOf_eq_none.mpr h]

theorem sendHandler_unbound (hc : cb.toNat = c.val) (hb : (s.channel c).binding = none) :
    sendHandler l who (cb :: data) s = refuse .notBound s := by simp [sendHandler, channelOf_of hc, hb]

/-- Tests 3 to 5 of R156, and the block that joins the outbound queue. -/
theorem sendHandler_bound (hc : cb.toNat = c.val) (hb : (s.channel c).binding = some b) :
    sendHandler l who (cb :: data) s =
      if b.owner ≠ who then refuse .notOwner s
      else if s.isFrozen b.owner then refuse .tenantInactive s
      else if ¬ s.canAllocate c b then refuse .full s
      else (s.setBinding c (some { b with outbound := b.outbound ++ [data] }),
        replyBody .ok [cb, byte (s.used c + 1)]) := by simp [sendHandler, channelOf_of hc, hb]

theorem dataHandler_noChannel (h : 32 ≤ cb.toNat) :
    dataHandler l who (cb :: nb :: data) s = refuse .badRequest s := by simp [dataHandler, channelOf_eq_none.mpr h]

theorem dataHandler_unbound (hc : cb.toNat = c.val) (h : (s.channel c).binding = none ∨ (s.channel c).number ≠ nb) :
    dataHandler l who (cb :: nb :: data) s = refuse .notBound s := by
  cases hb : (s.channel c).binding with
  | none => simp [dataHandler, channelOf_of hc, hb]
  | some b => simp [dataHandler, channelOf_of hc, hb, h.resolve_left (by simp [hb])]

/-- Tests 3 and 4 of R157, and the block that joins the inbound queue. -/
theorem dataHandler_bound (hc : cb.toNat = c.val) (hb : (s.channel c).binding = some b)
    (hn : (s.channel c).number = nb) :
    dataHandler l who (cb :: nb :: data) s =
      if s.isFrozen b.owner then refuse .tenantInactive s
      else if ¬ s.canAllocate c b then refuse .full s
      else (s.setBinding c (some { b with inbound := b.inbound ++ [data] }),
        replyBody .ok [cb, byte (s.used c + 1)]) := by simp [dataHandler, channelOf_of hc, hb, hn]

/-- The room of R150, with the blocks in use as the statement counts them. -/
theorem canAllocate_used (hb : (s.channel c).binding = some b) : s.canAllocate c b = true ↔
    s.used c < b.reserve ∨ (s.used c < b.ceiling ∧ 1 ≤ s.sharedFree) := by rw [canAllocate_iff, used_bound hb]

/-- Settles O51: the tests of SEND and of DATA in order, one clause each. -/
theorem dataIsQueuedInABlock : Obligations.DataIsQueuedInABlock := by
  refine ⟨fun l f cb data s h hb => ⟨fun hbad => ?_, fun c hc => ⟨fun hnone => ?_, fun b hbound => ⟨fun ho => ?_,
    fun ho => ⟨fun hfrozen => ?_, fun hfrozen => ⟨fun hfull => ?_, fun hroom => ?_⟩⟩⟩⟩⟩,
    fun f cb nb data s h hb => ⟨fun hbad => ?_, fun c hc => ⟨fun hnone => ?_, fun b hbound hn => ⟨fun hfrozen => ?_,
    fun hfrozen => ⟨fun hfull => ?_, fun hroom => ?_⟩⟩⟩⟩⟩
  · exact send_answers h hb (sendHandler_noChannel hbad)
  · exact send_answers h hb (sendHandler_unbound hc hnone)
  · exact send_answers h hb
      ((sendHandler_bound (s := dropOldest l s) hc hbound).trans (if_pos ho))
  · exact send_answers h hb
      ((sendHandler_bound (s := dropOldest l s) hc hbound).trans (by simp [ho, ho ▸ hfrozen, refuse]))
  · rw [← canAllocate_used hbound] at hfull
    exact send_answers h hb
      ((sendHandler_bound (s := dropOldest l s) hc hbound).trans (by simp [ho, ho ▸ hfrozen, hfull, refuse]))
  · rw [← canAllocate_used hbound] at hroom
    exact send_answers h hb
      ((sendHandler_bound (s := dropOldest l s) hc hbound).trans (by simp [ho, ho ▸ hfrozen, hroom, State.setBinding]))
  · exact data_answers h hb (dataHandler_noChannel hbad)
  · exact data_answers h hb (dataHandler_unbound hc hnone)
  · exact data_answers h hb ((dataHandler_bound (s := dropOldest .r s) hc hbound hn).trans (if_pos hfrozen))
  · rw [← canAllocate_used hbound] at hfull
    exact data_answers h hb
      ((dataHandler_bound (s := dropOldest .r s) hc hbound hn).trans (by simp [hfrozen, hfull, refuse]))
  · rw [← canAllocate_used hbound] at hroom
    exact data_answers h hb
      ((dataHandler_bound (s := dropOldest .r s) hc hbound hn).trans (by simp [hfrozen, hroom, State.setBinding]))

end Sys2Proof.Machine
end

section
/-! SUPPORT. What CH_QUERY shows, and to whom: one channel, and the pool figures with the map of bound channels (R160,
R161): O50. -/

namespace Sys2Proof.Machine

variable {s t : State} {c : Fin 32} {l : Link} {f : Frame} {reader : Subject} {b : Binding} {cb : Byte}
  {body reply : List Byte}

/-! ## Who may read (R160, R161) -/

/-- An app tenant that sees no figures reads its own channels alone. -/
theorem mayReadChannel_iff : s.mayReadChannel reader c = true ↔
    seesPool reader = true ∨ ∃ b, (s.channel c).binding = some b ∧ b.owner = reader := by
  unfold State.mayReadChannel seesPool
  cases reader with
  | pay | rad => simp
  | app n => cases (s.channel c).binding <;> simp

theorem seesPool_eq_true : seesPool reader = true ↔ ∀ n : Fin 16, n ≠ 0 → reader ≠ .app n := by
  cases reader with
  | pay | rad => simp [seesPool]
  | app n =>
    rw [seesPool, beq_iff_eq]
    exact ⟨fun hn k hk hr => hk (Subject.app.inj hr ▸ hn), fun h => not_not.mp fun hn => h n hn rfl⟩

/-- Of the requesters that a link admits, the tenants above 0 alone see no figures. -/
theorem seesPool_requester {tenant : Byte} (h : if l = .a then tenant.toNat < 16 else tenant = 0) :
    seesPool (requester l tenant) = true ↔ l ≠ .a ∨ tenant = 0 := by
  cases l with
  | p | r => simp [requester, seesPool]
  | a =>
    rw [if_pos rfl] at h
    have hzero : (Fin.ofNat 16 tenant.toNat = 0) ↔ tenant = 0 := by
      rw [Fin.ext_iff, Fin.val_ofNat, Nat.mod_eq_of_lt h]
      exact ⟨fun hn => BitVec.eq_of_toNat_eq hn, fun hn => by rw [hn]; rfl⟩
    simpa [requester, seesPool] using hzero

/-! ## The map of bound channels (R161) -/

/-- Marking channels in a map marks those that are to be marked, and leaves what is marked already. -/
theorem markChannels_getLsbD (p : Fin 32 → Bool) (cs : List (Fin 32)) (m : BitVec 32) (c : Fin 32) :
    (cs.foldl (fun m c => if p c then m ||| BitVec.twoPow 32 c.val else m) m).getLsbD c.val = true ↔
      m.getLsbD c.val = true ∨ c ∈ cs ∧ p c = true := by
  induction cs generalizing m with
  | nil => simp
  | cons d cs ih =>
    rw [List.foldl_cons, ih, List.mem_cons]
    have hbit : (if p d = true then m ||| BitVec.twoPow 32 d.val else m).getLsbD c.val = true ↔
        m.getLsbD c.val = true ∨ c = d ∧ p c = true := by
      split
      next hp =>
        rw [BitVec.getLsbD_or, Bool.or_eq_true, BitVec.getLsbD_twoPow, Bool.and_eq_true, decide_eq_true_eq,
          decide_eq_true_eq]
        refine or_congr Iff.rfl ⟨fun hd => ?_, fun hd => ⟨d.isLt, by rw [hd.1]⟩⟩
        have hcd : c = d := Fin.ext hd.2.symm
        exact ⟨hcd, hcd ▸ hp⟩
      next hp => exact ⟨.inl, fun h => h.resolve_right fun ⟨hcd, hpc⟩ => hp (hcd ▸ hpc)⟩
    rw [hbit, or_assoc, or_and_right]

theorem boundMap_getLsbD (s : State) (reader : Subject) (c : Fin 32) : (s.boundMap reader).getLsbD c.val = true ↔
    ∃ b, (s.channel c).binding = some b ∧ (seesPool reader = true ∨ b.owner = reader) := by
  have hmark := markChannels_getLsbD (fun c => (s.channel c).binding.isSome && s.mayReadChannel reader c)
    allChannels 0 c
  rw [State.boundMap, hmark, Bool.and_eq_true, mayReadChannel_iff]
  cases (s.channel c).binding <;> simp [allChannels]

/-! ## The requests (R160, R161) -/

/-- An admitted request of a kind with two rows, on the row that is for it. -/
theorem processWhere_admitted {mine : Frame → Bool} {k : ReqKind} {handler : Handler} (h : Admitted k l f s)
    (hm : mine f = true) (hh : handler l (requester l f.tenant) f.body (dropOldest l s) = (t, reply)) :
    processWhere mine k handler l s = placeReply l (replyFrame f reply) t := by
  simp [processWhere, oldestOpen_of_waiting h.1, hm, processFrame, admission_of_admitted h, hh]

theorem isKind_of_admitted {k : ReqKind} (h : Admitted k l f s) : f.isKind k = true := by
  obtain ⟨-, hkind, -⟩ := h
  simp [Frame.isKind, hkind, reqKindOf_code]

theorem chQuery_answers (h : Admitted .chQuery l f s) (hb : f.body = [cb]) (hcb : cb ≠ 255)
    (hh : chQueryHandler l (requester l f.tenant) [cb] (dropOldest l s) = (t, reply)) :
    exec (.chQuery l) s = .next (placeReply l (replyFrame f reply) t) :=
  congrArg _ (processWhere_admitted h (by simpa [isKind_of_admitted h, hb, summaryBody] using hcb) (hb ▸ hh))

/-- A reader that may read the channel is shown it. -/
theorem chQuery_shows (h : Admitted .chQuery l f s) (hb : f.body = [cb]) (hcb : cb ≠ 255) (hc : cb.toNat = c.val)
    (hr : s.mayReadChannel (requester l f.tenant) c = true) {data : List Byte}
    (hd : (dropOldest l s).channelBytes l c = data) : exec (.chQuery l) s = .next (reported l f data s) :=
  chQuery_answers (s := s) h hb hcb (by
    have hr' : (dropOldest l s).mayReadChannel (requester l f.tenant) c = true := hr
    simp [chQueryHandler, channelOf_of hc, hr', hd])

theorem channelBytes_unbound (hb : (s.channel c).binding = none) :
    (dropOldest l s).channelBytes l c = [channelByte c, 0, 0xFE, 0, 0, 0, 0, 0, 0, 0, (s.channel c).number] := by
  simp [State.channelBytes, hb, nobodyCode]

theorem channelBytes_bound (hb : (s.channel c).binding = some b) : (dropOldest l s).channelBytes l c =
    [channelByte c, 1, if l = .r ∧ b.owner.isApp = true then 0xFF else b.owner.code, b.cls.code, byte b.level,
      byte b.reserve, byte b.ceiling, byte (s.used c), byte b.inbound.length, byte b.outbound.length,
      (s.channel c).number] := by simp [State.channelBytes, hb, ownerCode, hiddenCode]

theorem chQuerySummary_answers (h : Admitted .chQuery l f s) (hb : f.body = [255]) :
    exec (.chQuerySummary l) s = .next (reported l f
      ((if seesPool (requester l f.tenant) = true then
          [byte (96 - s.blocksInUse), byte s.reservedFree, byte (96 - s.blocksInUse - s.reservedFree),
            byte s.reserveSum]
        else [0, 0, 0, 0]) ++ bytes4 (s.boundMap (requester l f.tenant))) s) := by
  have hmap : (dropOldest l s).boundMap (requester l f.tenant) = s.boundMap (requester l f.tenant) := rfl
  refine congrArg _ (processWhere_admitted h (by simp [isKind_of_admitted h, hb, summaryBody]) ?_)
  simp [chQuerySummaryHandler, State.freeBlocks, State.sharedFree, Config.poolBlocks, hmap]

/-- Settles O50: who may read a channel and what is shown of it, and the summary. -/
theorem channelQueriesShowWhatTheReaderMaySee : Obligations.ChannelQueriesShowWhatTheReaderMaySee := by
  refine ⟨fun l f cb s h hb hcb => ⟨fun hbad => ?_, fun c hc => ⟨fun n hn hreq hno => ?_, fun hown => ?_⟩⟩,
    fun l f s h hb => ⟨s.boundMap (requester l f.tenant), ?_, fun c => ?_⟩⟩
  · exact chQuery_answers h hb hcb (by simp [chQueryHandler, channelOf_eq_none.mpr hbad, refuse])
  · have hr : (dropOldest l s).mayReadChannel (.app n) c = false := by
      rw [Bool.eq_false_iff, ne_eq, mayReadChannel_iff, seesPool_eq_true]
      rintro (hsees | ⟨b, hbound, howner⟩)
      · exact hsees n hn rfl
      · exact hno b hbound howner
    exact chQuery_answers h hb hcb (by simp [chQueryHandler, channelOf_of hc, hreq, hr, refuse])
  · have hr : s.mayReadChannel (requester l f.tenant) c = true := by
      rw [mayReadChannel_iff, or_iff_not_imp_left, seesPool_eq_true]
      intro hsees
      push Not at hsees
      obtain ⟨n, hn, hreq⟩ := hsees
      rw [hreq]
      exact hown n hn hreq
    rw [← channelByte_of hc]
    exact ⟨fun hnone => chQuery_shows h hb hcb hc hr (channelBytes_unbound hnone),
      fun b hbound => chQuery_shows h hb hcb hc hr (channelBytes_bound hbound)⟩
  · obtain ⟨-, -, htenant, -⟩ := id h
    have hsees := chQuerySummary_answers h hb
    simp only [seesPool_requester htenant] at hsees
    exact hsees
  · obtain ⟨-, -, htenant, -⟩ := h
    simp only [boundMap_getLsbD, seesPool_requester htenant, or_assoc]

end Sys2Proof.Machine
end

section
/-! SUPPORT. CH_BIND and CH_UNBIND as functions of their bodies, and what an unbind leaves of the channels, the frames
in flight and the notices (R148, R152 to R155): O49. -/

namespace Sys2Proof.Machine

variable {s t : State} {c : Fin 32} {n : Fin 16} {cls : ChanClass} {l k : Link} {f : Frame} {who : Subject}
  {b : Binding} {cb tb kb lb rb mb : Byte} {body reply : List Byte} {code : ReplyCode}

/-! ## CH_BIND (R152, R153) -/

theorem channelOf_eq_some (h : channelOf cb = some c) : c.val = cb.toNat := by
  unfold channelOf at h
  split at h <;> cases h
  rfl

theorem tenantOf_eq_some (h : tenantOf tb = some n) : n.val = tb.toNat := by
  unfold tenantOf at h
  split at h <;> cases h
  rfl

theorem tenantOf_eq_zero (h : tenantOf tb = some n) : n = 0 ↔ tb = 0 := by
  rw [Fin.ext_iff, tenantOf_eq_some h]
  exact (BitVec.toNat_inj (y := 0))

theorem classOf_eq_none : classOf kb = none ↔ 3 ≤ kb.toNat := by
  unfold classOf
  (repeat' split) <;> simp only [reduceCtorEq, false_iff, true_iff] <;> bv_omega

theorem classOf_eq_some (h : classOf kb = some cls) :
    (kb = 0 ↔ cls = .payment) ∧ (kb = 1 ↔ cls = .control) ∧ (kb = 2 ↔ cls = .tenant) := by
  unfold classOf at h
  (repeat' split at h) <;> cases h <;> (subst_vars; decide)

/-- The numbers below 4 are PAYMENT's, and a TENANT channel alone names a tenant (R148). -/
theorem classFits_iff : classFits c cls n = true ↔ (cls = .payment ↔ c.val < 4) ∧ (cls = .tenant ↔ n ≠ 0) := by
  cases cls <;> simp [classFits]

theorem channelOwner_eq (hfits : classFits c cls n = true) (hk : classOf kb = some cls) :
    channelOwner cls n = if kb = 0 then .pay else .app n := by
  obtain ⟨-, htenant⟩ := classFits_iff.mp hfits
  simp only [(classOf_eq_some hk).1]
  cases cls with
  | payment => rfl
  | tenant => rfl
  | control =>
    have hn : n = 0 := not_not.mp fun hn => nomatch htenant.mpr hn
    rw [hn]
    rfl

theorem maxLevel_eq (hk : classOf kb = some cls) : cls.maxLevel = if kb = 0 then 3 else if kb = 1 then 2 else 1 := by
  simp only [(classOf_eq_some hk).1, (classOf_eq_some hk).2.1]
  cases cls <;> rfl

theorem chBind_answers (h : Admitted .chBind l f s) (hb : f.body = body)
    (hh : chBindHandler l (requester l f.tenant) body (dropOldest l s) = (t, reply)) :
    exec (.chBind l) s = .next (placeReply l (replyFrame f reply) t) :=
  congrArg _ (processRequest_admitted h (hb ▸ hh))

/-- Test 1 of R152: a field that names nothing, or class, number and tenant that disagree. -/
theorem chBindHandler_bad (h : 32 ≤ cb.toNat ∨ 3 ≤ kb.toNat ∨ 16 ≤ tb.toNat ∨ (kb = 0 ↔ 4 ≤ cb.toNat)
    ∨ (kb = 2 ↔ tb = 0)) :
    chBindHandler l who [cb, tb, kb, lb, rb, mb] s = refuse .badRequest s := by
  unfold chBindHandler
  dsimp only
  split
  next c n cls hc hn hk =>
    refine if_pos fun hfits => ?_
    obtain ⟨hpayment, htenant⟩ := classFits_iff.mp hfits
    obtain ⟨hkpayment, -, hktenant⟩ := classOf_eq_some hk
    rw [← hkpayment, channelOf_eq_some hc] at hpayment
    rw [← hktenant, ne_eq, tenantOf_eq_zero hn] at htenant
    rcases h with hbad | hbad | hbad | hbad | hbad
    · rw [channelOf_eq_none.mpr hbad] at hc
      cases hc
    · rw [classOf_eq_none.mpr hbad] at hk
      cases hk
    · rw [tenantOf_eq_none.mpr hbad] at hn
      cases hn
    · exact absurd (hbad.symm.trans hpayment) (by omega)
    · exact iff_not_self (hbad.symm.trans htenant)
  next => rfl

/-- Behind test 1, a test that refuses (tests 2 to 5 of R152). -/
theorem chBindHandler_refused (hc : cb.toNat = c.val) (hn : tb.toNat = n.val) (hk : classOf kb = some cls)
    (hfits : classFits c cls n = true) (hr : bindRefusal who c cls n s = some code) :
    chBindHandler l who [cb, tb, kb, lb, rb, mb] s = refuse code s := by
  simp [chBindHandler, channelOf_of hc, tenantOf_of hn, hk, hfits, hr]

/-- The binding that a body of six bytes asks for, with its values limited (R148, R152). -/
def bindingOf (cls : ChanClass) (n : Fin 16) (lb rb mb : Byte) : Binding where
  owner := channelOwner cls n
  cls := cls
  level := min cls.maxLevel lb.toNat
  reserve := min 8 rb.toNat
  ceiling := max (min 8 rb.toNat) (min 32 mb.toNat)
  outbound := []
  inbound := []

/-- Behind tests 1 to 5, the room for the reserve decides (test 6 of R152, R153). -/
theorem chBindHandler_limits (hc : cb.toNat = c.val) (hn : tb.toNat = n.val) (hk : classOf kb = some cls)
    (hfits : classFits c cls n = true) (hr : bindRefusal who c cls n s = none) (hb : b = bindingOf cls n lb rb mb) :
    chBindHandler l who [cb, tb, kb, lb, rb, mb] s =
      if 64 < s.reserveSum + b.reserve ∨ s.sharedFree < b.reserve then refuse .noReserve s
      else (bindChannel c b s,
        replyBody (if b.level = lb.toNat ∧ b.reserve = rb.toNat ∧ b.ceiling = mb.toNat then .ok else .clamped)
          [cb, tb, kb, byte b.level, byte b.reserve, byte b.ceiling, (s.channel c).number + 1]) := by
  have hcode : okOr (b.level != lb.toNat || b.reserve != rb.toNat || b.ceiling != mb.toNat) =
      if b.level = lb.toNat ∧ b.reserve = rb.toNat ∧ b.ceiling = mb.toNat then .ok else .clamped :=
    okOr_limited _ (by simp; tauto)
  rw [← hcode, hb]
  simp only [chBindHandler, channelOf_of hc, tenantOf_of hn, hk, hfits, hr, clampTo_zero_eq,
    clampTo_eq (show min 8 rb.toNat ≤ 32 by omega), not_true_eq_false, if_false]
  rfl

/-! ## CH_UNBIND (R154, R155) -/

theorem chUnbind_answers (h : Admitted .chUnbind l f s) (hb : f.body = body)
    (hh : chUnbindHandler l (requester l f.tenant) body (dropOldest l s) = (t, reply)) :
    exec (.chUnbind l) s = .next (placeReply l (replyFrame f reply) t) :=
  congrArg _ (processRequest_admitted h (hb ▸ hh))

/-- CH_CLOSED UNBIND of a channel, as it reaches a tenant's link or another's (R155). -/
def closedNotice (tenant : Fin 16) (c : Fin 32) (s : State) : Notice :=
  { tenant := tenant, body := .chClosed c (s.channel c).number .unbind }

/-- What CH_UNBIND leaves: the channel unbound, the R-link told, and the owner told where it is not the requester. -/
def unbindTold (c : Fin 32) (owner who : Subject) (s : State) : State :=
  let closed := notify .r (closedNotice 0 c s) (unbindChannel c s)
  if owner = who then closed else notify owner.link (closedNotice owner.tenantField c s) closed

theorem chUnbindHandler_bound (hc : cb.toNat = c.val) (hw : who = channelBinder c)
    (hb : (s.channel c).binding = some b) : chUnbindHandler l who [cb] s =
      (unbindTold c b.owner who s, replyBody .ok [cb, byte (s.used c)]) := by
  simp [chUnbindHandler, channelOf_of hc, hw, hb, unbindTold, closedNotice, notifyClosedRad, notifyClosedOwner,
    notifyLink, notifySubject, unbindChannel_channel]

section
variable {owner : Subject} {src : FrameSource} {d : Fin 32}

theorem unbindTold_relay (c : Fin 32) (owner who : Subject) (s : State) :
    (unbindTold c owner who s).relay = (unbindChannel c s).relay := by
  unfold unbindTold
  dsimp only
  split <;> simp

theorem unbindTold_channel : (unbindTold c owner who s).channel d =
    if d = c then { s.channel d with binding := none } else s.channel d := by
  rw [channel_congr (unbindTold_relay c owner who s), unbindChannel_channel]

theorem unbindTold_lastServed : (unbindTold c owner who s).relay.lastServed = s.relay.lastServed := by
  rw [unbindTold_relay, unbindChannel]
  split
  · rfl
  · simp [State.setBinding, State.setChannel]

theorem unbindTold_inFlightFrom :
    (unbindTold c owner who s).inFlightFrom k src = (unbindChannel c s).inFlightFrom k src := by
  refine inFlightFrom_congr ?_ src
  unfold unbindTold
  dsimp only
  split <;> simp

/-- Of the two notices the R-link's is produced first (log entry 25). -/
theorem unbindTold_notices_rad (hroom : (s.port .r).notices.length < 16) : ∃ more,
    ((unbindTold c owner who s).port .r).notices = (s.port .r).notices ++ closedNotice 0 c s :: more := by
  have hrad : ((notify .r (closedNotice 0 c s) (unbindChannel c s)).port .r).notices
      = (s.port .r).notices ++ [closedNotice 0 c s] := by
    rw [notify_notices (by rwa [unbindChannel_notices]), unbindChannel_notices]
  unfold unbindTold
  dsimp only
  split
  · exact ⟨[], hrad⟩
  · obtain ⟨more, hmore, -⟩ := notify_appends (P := fun _ => True) (l := .r) (k := owner.link)
      (n := closedNotice owner.tenantField c s) (s := notify .r (closedNotice 0 c s) (unbindChannel c s)) trivial
    exact ⟨more, by rw [hmore, hrad, List.append_assoc, List.singleton_append]⟩

theorem unbindTold_notices_owner (ho : owner ≠ who) (hk : owner.link ≠ .r)
    (hroom : (s.port owner.link).notices.length < 16) : ((unbindTold c owner who s).port owner.link).notices
      = (s.port owner.link).notices ++ [closedNotice owner.tenantField c s] := by
  have hsame : ((notify .r (closedNotice 0 c s) (unbindChannel c s)).port owner.link).notices
      = (s.port owner.link).notices := by rw [notify_port_other _ _ _ _ hk, unbindChannel_notices]
  rw [unbindTold, if_neg ho, notify_notices (by rwa [hsame]), hsame]

theorem unbindTold_notices_own (hk : k ≠ .r) :
    ((unbindTold c who who s).port k).notices = (s.port k).notices := by
  rw [unbindTold, if_pos rfl, notify_port_other _ _ _ _ hk, unbindChannel_notices]

end

theorem link_ne_rad {owner : Subject} (h : owner ≠ .rad) : owner.link ≠ .r := by
  cases owner with
  | rad => exact absurd rfl h
  | pay | app => nofun

/-! ## The statement -/

theorem bindRefusal_stranger (h : who ≠ channelBinder c) : bindRefusal who c cls n s = some .notPermitted := if_pos h

/-- Tests 3 and 4 of R152 are a TENANT channel's alone. -/
theorem bindRefusal_tenant (hw : who = channelBinder c) : bindRefusal who c .tenant n s =
    if (s.tenant n).state ≠ .active then some .tenantInactive
    else if (s.tenant n).allowance ≤ s.tenantCount n then some .notPermitted
    else if (s.channel c).binding.isSome then some .already else none := by simp [bindRefusal, hw]

theorem bindRefusal_last (hw : who = channelBinder c)
    (ht : cls = .tenant → (s.tenant n).state = .active ∧ s.tenantCount n < (s.tenant n).allowance) :
    bindRefusal who c cls n s = if (s.channel c).binding.isSome then some .already else none := by
  unfold bindRefusal
  rw [if_neg (not_not.mpr hw), if_neg fun h => h.2 (ht h.1).1, if_neg fun h => Nat.not_le.mpr (ht h.1).2 h.2]

/-- A bind that passes the tests, or is refused by the first that fails (R152, R153). -/
theorem chBind_outcome (h : Admitted .chBind l f s) (hb : f.body = [cb, tb, kb, lb, rb, mb]) (hc : cb.toNat = c.val)
    (hn : tb.toNat = n.val) (hk : classOf kb = some cls) (hfits : classFits c cls n = true)
    (hlimits : b = bindingOf cls n lb rb mb) :
    (∀ code, bindRefusal (requester l f.tenant) c cls n s = some code →
        exec (.chBind l) s = .next (refused l f code s))
      ∧ (bindRefusal (requester l f.tenant) c cls n s = none →
        (64 < s.reserveSum + b.reserve ∨ s.sharedFree < b.reserve →
          exec (.chBind l) s = .next (refused l f .noReserve s))
        ∧ (s.reserveSum + b.reserve ≤ 64 → b.reserve ≤ s.sharedFree →
          exec (.chBind l) s = .next (replied l f
            (if b.level = lb.toNat ∧ b.reserve = rb.toNat ∧ b.ceiling = mb.toNat then .ok else .clamped)
            [cb, tb, kb, byte b.level, byte b.reserve, byte b.ceiling, (s.channel c).number + 1]
            (bindChannel c b (dropOldest l s))))) := by
  refine ⟨fun code hr => chBind_answers h hb (chBindHandler_refused hc hn hk hfits hr), fun hr => ?_⟩
  have hanswer := chBindHandler_limits (l := l) (s := dropOldest l s) hc hn hk hfits hr hlimits
  rw [dropOldest_reserveSum, dropOldest_sharedFree] at hanswer
  exact ⟨fun hfull => chBind_answers h hb (hanswer.trans (if_pos hfull)),
    fun hsum hfree => chBind_answers h hb (hanswer.trans (if_neg (by omega)))⟩

/-- Settles O49: the tests of CH_BIND in order and the bind, and CH_UNBIND with what it tells. -/
theorem channelsAreBoundAndUnbound : Obligations.ChannelsAreBoundAndUnbound := by
  refine ⟨fun l f cb tb kb lb rb mb s h hb => ⟨fun hbad => chBind_answers h hb (chBindHandler_bad hbad),
    fun c n cls hc hn hk hpay htenant binder hbinder => ?_⟩, fun l f cb s h hb => ⟨fun hbad => ?_,
    fun c hc binder hbinder => ⟨fun hw => ?_, fun hw => ⟨fun hnone => ?_, fun b hbound => ?_⟩⟩⟩⟩
  · change binder = channelBinder c at hbinder
    subst hbinder
    obtain ⟨hkpay, -, hktenant⟩ := classOf_eq_some hk
    have hfits : classFits c cls n = true := classFits_iff.mpr ⟨hkpay.symm.trans hpay, hktenant.symm.trans htenant⟩
    obtain ⟨hrefused, -⟩ := chBind_outcome h hb hc hn hk hfits rfl
    refine ⟨fun hw => hrefused _ (bindRefusal_stranger hw), fun hw => ⟨fun hk2 hstate => ?_,
      fun hk2 hstate hfull => ?_, fun hactive => ?_⟩⟩
    · cases hktenant.mp hk2
      exact hrefused _ ((bindRefusal_tenant hw).trans (if_pos hstate))
    · cases hktenant.mp hk2
      exact hrefused _ ((bindRefusal_tenant hw).trans (by simp [hstate, hfull]))
    · have hlast := bindRefusal_last (n := n) hw fun ht => hactive (hktenant.mpr ht)
      refine ⟨fun hbound => hrefused _ (hlast.trans (if_pos (Option.isSome_iff_ne_none.mpr hbound))),
        fun hunbound b hbinding => ?_⟩
      have hlimits : b = bindingOf cls n lb rb mb := by
        rw [hbinding, bindingOf, channelOwner_eq hfits hk, maxLevel_eq hk, Nat.min_comm lb.toNat]
      have hclass : b.cls = cls := by rw [hbinding]
      rw [← hclass]
      exact (chBind_outcome h hb hc hn hk hfits hlimits).2 (hlast.trans (by simp [hunbound]))
  · exact chUnbind_answers h hb (by simp [chUnbindHandler, channelOf_eq_none.mpr hbad, refuse])
  · change binder = channelBinder c at hbinder
    exact chUnbind_answers h hb (by simp [chUnbindHandler, channelOf_of hc, hbinder ▸ hw, refuse])
  · change binder = channelBinder c at hbinder
    exact chUnbind_answers h hb (by simp [chUnbindHandler, channelOf_of hc, hbinder ▸ hw, hnone, refuse])
  · change binder = channelBinder c at hbinder
    have hanswer := chUnbind_answers h hb
      (chUnbindHandler_bound (s := dropOldest l s) hc (hw.trans hbinder) hbound)
    rw [dropOldest_used] at hanswer
    have hnotices (k : Link) : ((dropOldest l s).port k).notices = (s.port k).notices := dropOldest_notices k
    have hframe {k : Link} {x : FrameSource} :=
      unbindChannel_inFlightFrom (s := dropOldest l s) (k := k) (x := x) hbound
    refine ⟨_, hanswer, by simp [unbindTold_channel], fun d hd => by simp [unbindTold_channel, hd],
      used_unbound (by simp [unbindTold_channel]), ?_, ?_, fun hroom => ?_, fun ho hrad hroom => ?_,
      fun ho k hk => ?_, unbindTold_lastServed⟩
    · rw [unbindTold_inFlightFrom, Bool.eq_false_iff]
      exact fun hf => (hframe.mp hf).2.1 ⟨rfl, rfl⟩
    · rw [unbindTold_inFlightFrom, Bool.eq_false_iff]
      exact fun hf => (hframe.mp hf).2.2 ⟨rfl, rfl⟩
    · rw [← hnotices] at hroom ⊢
      exact unbindTold_notices_rad hroom
    · rw [← hnotices] at hroom ⊢
      exact unbindTold_notices_owner ho (link_ne_rad hrad) hroom
    · rw [ho, unbindTold_notices_own hk, hnotices]

end Sys2Proof.Machine
end

section
/-! SUPPORT. The timebase (R168, R169): no due event moves the accumulator or part time, none changes anything where
nothing is due, and so what the cycles of one millisecond come to (O3). -/

namespace Sys2Proof.Machine

variable {s : State}

/-! ## The accumulator and part time through the due events (R168) -/

/-- Where the reference stands: the accumulator and part time (R168). -/
def Timebase.instant (c : Timebase) : Nat × BitVec 32 := (c.accumulator, c.partTime)

@[simp] theorem wake_instant (c : WakeCause) (s : State) : (wake c s).clock.instant = s.clock.instant := by
  unfold wake
  split <;> rfl

@[simp] theorem matchFound_instant (s : State) : (matchFound s).clock.instant = s.clock.instant := by
  unfold matchFound
  split <;> simp

@[simp] theorem scanWoken_instant (sample : BitVec 24) (s : State) :
    (scanWoken sample s).clock.instant = s.clock.instant := by
  have hclock : (scanDelivered sample s).clock = s.clock := (scanDelivered_frame sample s).1
  unfold scanWoken
  dsimp only
  split <;> simp [hclock]

@[simp] theorem keyScan_instant (sample : BitVec 24) (s : State) :
    (keyScan sample s).clock.instant = s.clock.instant := by
  unfold keyScan
  split
  · rw [scanEvent_steps]
    split <;> simp
  · rfl

@[simp] theorem holdTimerMatch_instant (s : State) : (holdTimerMatch s).clock.instant = s.clock.instant := by
  unfold holdTimerMatch
  split
  · split <;> simp
  · rfl

@[simp] theorem lockIfDue_instant (s : State) : (lockIfDue s).clock.instant = s.clock.instant := by
  unfold lockIfDue
  split
  · split
    · rw [lockEvent_clock]
      rfl
    · rfl
  · rfl

/-- Due events take no time. -/
@[simp] theorem takeDue_instant (s : State) : (takeDue s).clock.instant = s.clock.instant := by
  simp [takeDue]

theorem millisecond_cycled_instant (s : State) (accumulator : Nat) :
    (millisecond (cycled s accumulator)).clock.accumulator = accumulator
      ∧ (millisecond (cycled s accumulator)).clock.partTime = s.clock.partTime + 1 := by
  simp [millisecond, cycled]

/-! ## One reference cycle, and the cycles of a millisecond (R168) -/

theorem referenceCycle_of_below (h : (takeDue s).clock.accumulator + 125 < 4096) :
    referenceCycle s = cycled (takeDue s) ((takeDue s).clock.accumulator + 125) := if_pos h

theorem referenceCycle_of_reached (h : 4096 ≤ (takeDue s).clock.accumulator + 125) :
    referenceCycle s = millisecond (cycled (takeDue s) ((takeDue s).clock.accumulator + 125 - 4096)) :=
  if_neg (Nat.not_lt.mpr h)

theorem takeDue_accumulator (s : State) : (takeDue s).clock.accumulator = s.clock.accumulator :=
  congrArg Prod.fst (takeDue_instant s)

theorem takeDue_partTime (s : State) : (takeDue s).clock.partTime = s.clock.partTime :=
  congrArg Prod.snd (takeDue_instant s)

theorem referenceCycle_instant_of_below (h : s.clock.accumulator + 125 < 4096) :
    (referenceCycle s).clock.accumulator = s.clock.accumulator + 125
      ∧ (referenceCycle s).clock.partTime = s.clock.partTime := by
  rw [referenceCycle_of_below (by rwa [takeDue_accumulator]), takeDue_accumulator]
  exact ⟨rfl, takeDue_partTime s⟩

theorem referenceCycle_instant_of_reached (h : 4096 ≤ s.clock.accumulator + 125) :
    (referenceCycle s).clock.accumulator = s.clock.accumulator + 125 - 4096
      ∧ (referenceCycle s).clock.partTime = s.clock.partTime + 1 := by
  rw [referenceCycle_of_reached (by rwa [takeDue_accumulator]), takeDue_accumulator]
  obtain ⟨hacc, htime⟩ := millisecond_cycled_instant (takeDue s) (s.clock.accumulator + 125 - 4096)
  exact ⟨hacc, htime.trans (by rw [takeDue_partTime])⟩

/-- The cycles to the tick are the first number of cycles that reaches 4096. -/
theorem cyclesToTick_spec {a : Nat} (h : a < 4096) :
    ∃ k, cyclesToTick a = k + 1 ∧ a + 125 * k < 4096 ∧ 4096 ≤ a + 125 * (k + 1) := by
  have hdef : cyclesToTick a = (4096 - a + 124) / 125 := by simp [cyclesToTick, Config.cycleModulus, Config.cycleStep]
  exact ⟨cyclesToTick a - 1, by omega, by omega, by omega⟩

/-- Only the last of the cycles to the tick advances part time. -/
theorem referenceCycles_instant {k : Nat} (hbelow : s.clock.accumulator + 125 * k < 4096)
    (hreached : 4096 ≤ s.clock.accumulator + 125 * (k + 1)) :
    (referenceCycles (k + 1) s).clock.accumulator = s.clock.accumulator + 125 * (k + 1) - 4096
      ∧ (referenceCycles (k + 1) s).clock.partTime = s.clock.partTime + 1 := by
  induction k generalizing s with
  | zero => exact referenceCycle_instant_of_reached hreached
  | succ k ih =>
    obtain ⟨hacc, htime⟩ := referenceCycle_instant_of_below (s := s) (by omega)
    obtain ⟨hacc', htime'⟩ := ih (s := referenceCycle s) (by omega) (by omega)
    rw [referenceCycles, hacc', htime', hacc, htime]
    exact ⟨by omega, rfl⟩

theorem partTimeTick_instant (h : s.clock.accumulator < 4096) :
    (partTimeTick s).clock.accumulator < 125 ∧ (partTimeTick s).clock.partTime = s.clock.partTime + 1 := by
  obtain ⟨k, hk, hbelow, hreached⟩ := cyclesToTick_spec h
  obtain ⟨hacc, htime⟩ := referenceCycles_instant hbelow hreached
  rw [partTimeTick, hk]
  exact ⟨by omega, htime⟩

/-! ## Events that are not due -/

theorem frameStall_not_due {l : Link} (h : ∀ bs t, (s.port l).receiver = .inFrame bs t → t.due = false) :
    frameStall l s = s := by
  unfold frameStall
  split
  next hr => exact if_neg (by simp [h _ _ hr])
  next => rfl

theorem keyScan_not_due {sample : BitVec 24} (h : s.keys.scanDue = false) : keyScan sample s = s :=
  if_neg (by simp [h])

theorem holdTimerMatch_not_due (h : isDue s.keys.holdTimer = false) : holdTimerMatch s = s := by
  unfold holdTimerMatch
  split
  next ht => exact if_neg (by simpa [isDue, ht] using h)
  next => rfl

theorem forcedSwitch_not_due (h : isDue s.display.forcedTimer = false) : forcedSwitch s = s :=
  if_neg (by simp [h])

theorem blinkToggle_not_due (h : isDue s.display.blinkTimer = false) : blinkToggle s = s := by
  unfold blinkToggle
  split
  next ht => exact if_neg (by simpa [isDue, ht] using h)
  next => rfl

theorem fieldResetExpiry_not_due (h : ∀ f, s.bridge.fieldReset = some f → f.timer.due = false) :
    fieldResetExpiry s = s := by
  unfold fieldResetExpiry
  split
  next hf => exact if_neg (by simp [h _ hf])
  next => rfl

theorem lockIfDue_of_early (h : ∀ n, s.clock.fastClock = .locking n → n < 80) : lockIfDue s = s := by
  cases hf : s.clock.fastClock with
  | locking n => exact lockIfDue_of_not_due hf (h n hf)
  | off | locked => simp [lockIfDue, hf]

/-- Where nothing is due and the lock is still to come, a cycle begins with no event. -/
theorem takeDue_of_nothingDue (h : NothingDue s) (hlock : ∀ n, s.clock.fastClock = .locking n → n < 80) :
    takeDue s = s := by
  obtain ⟨hstall, hgrant, hhold, hscan, hforced, hblink, hprinter, hexchange, hfield, hslot⟩ := h
  have hframe (l : Link) : frameStall l s = s := frameStall_not_due (hstall l)
  have hquarter (r : Resource) : quarterBoundary r s = s :=
    quarterBoundary_not_due fun g hg => .inr (.inr (hgrant r g hg).1)
  have hheld (r : Resource) : heldQuarter r s = s :=
    heldQuarter_not_due fun g n t len p hg hh => .inl ((hgrant r g hg).2 n t len p hh)
  unfold takeDue
  simp only [hframe, hquarter, hheld, keyScan_not_due hscan, holdTimerMatch_not_due hhold,
    forcedSwitch_not_due hforced, blinkToggle_not_due hblink, printerStall_not_due (.inl hprinter),
    exchangeTimeout_not_due hexchange, fieldResetExpiry_not_due hfield, slotBoundary_not_due hslot,
    lockIfDue_of_early hlock]

/-! ## A millisecond in which nothing is due -/

/-- The fast clock after a number of cycles, none of which comes after its 80th (R169). -/
def FastClock.counted (cycles : Nat) : FastClock → FastClock
  | .locking n => .locking (n + cycles)
  | f => f

theorem FastClock.counted_counted (f : FastClock) (j k : Nat) : (f.counted j).counted k = f.counted (j + k) := by
  cases f with
  | locking n => exact congrArg FastClock.locking (Nat.add_assoc n j k)
  | off | locked => rfl

theorem FastClock.cycle_eq_counted {f : FastClock} (h : ∀ n, f = .locking n → n < 80) : f.cycle = f.counted 1 := by
  cases f with
  | locking n => exact congrArg FastClock.locking (if_pos (h n rfl))
  | off | locked => rfl

theorem FastClock.early_counted {f : FastClock} {k : Nat} (h : ∀ n, f = .locking n → n + (k + 1) ≤ 80) (n : Nat)
    (hn : f.counted 1 = .locking n) : n + k ≤ 80 := by
  cases f with
  | locking m =>
    cases hn
    have := h m rfl
    omega
  | off | locked => cases hn

/-- A state a number of cycles later, with the accumulator at a value, where no event has come about. -/
def cyclesLater (cycles accumulator : Nat) (s : State) : State :=
  { s with clock := { s.clock with
      accumulator := accumulator
      fastClock := s.clock.fastClock.counted cycles } }

theorem cyclesLater_accumulator (cycles accumulator : Nat) (s : State) :
    (cyclesLater cycles accumulator s).clock.accumulator = accumulator := rfl

theorem cyclesLater_cyclesLater (j k a b : Nat) (s : State) :
    cyclesLater k b (cyclesLater j a s) = cyclesLater (j + k) b s := by
  simp [cyclesLater, FastClock.counted_counted]

/-- `NothingDue` does not read the clock. -/
theorem NothingDue.cyclesLater (h : NothingDue s) (cycles accumulator : Nat) :
    NothingDue (cyclesLater cycles accumulator s) := h

theorem cycled_takeDue_of_nothingDue (h : NothingDue s) (hlock : ∀ n, s.clock.fastClock = .locking n → n < 80)
    (accumulator : Nat) : cycled (takeDue s) accumulator = cyclesLater 1 accumulator s := by
  rw [takeDue_of_nothingDue h hlock, cycled, FastClock.cycle_eq_counted hlock, cyclesLater]

/-- The cycles to the tick, where nothing is due on the way: one millisecond, and nothing before it. -/
theorem referenceCycles_of_nothingDue {k : Nat} (h : NothingDue s) (hbelow : s.clock.accumulator + 125 * k < 4096)
    (hreached : 4096 ≤ s.clock.accumulator + 125 * (k + 1))
    (hlock : ∀ n, s.clock.fastClock = .locking n → n + (k + 1) ≤ 80) :
    referenceCycles (k + 1) s =
      millisecond (cyclesLater (k + 1) (s.clock.accumulator + 125 * (k + 1) - 4096) s) := by
  induction k generalizing s with
  | zero =>
    have hone := cycled_takeDue_of_nothingDue h hlock
    have hacc := takeDue_accumulator s
    rw [referenceCycles, referenceCycles, referenceCycle_of_reached (by omega), hone, hacc]
  | succ k ih =>
    have hone := cycled_takeDue_of_nothingDue h fun n hn => (by have := hlock n hn; omega)
    have hacc := takeDue_accumulator s
    have hfirst : referenceCycle s = cyclesLater 1 (s.clock.accumulator + 125) s := by
      rw [referenceCycle_of_below (by omega), hone, hacc]
    have hrest := ih (h.cyclesLater 1 (s.clock.accumulator + 125)) (by rw [cyclesLater_accumulator]; omega)
      (by rw [cyclesLater_accumulator]; omega) (FastClock.early_counted hlock)
    have hsum : s.clock.accumulator + 125 + 125 * (k + 1) = s.clock.accumulator + 125 * (k + 1 + 1) := by omega
    calc referenceCycles (k + 1 + 1) s
        = referenceCycles (k + 1) (cyclesLater 1 (s.clock.accumulator + 125) s) := by rw [referenceCycles, hfirst]
      _ = millisecond (cyclesLater (1 + (k + 1)) (s.clock.accumulator + 125 + 125 * (k + 1) - 4096) s) := by
        rw [hrest, cyclesLater_cyclesLater, cyclesLater_accumulator]
      _ = millisecond (cyclesLater (k + 1 + 1) (s.clock.accumulator + 125 * (k + 1 + 1) - 4096) s) := by
        rw [hsum, Nat.add_comm 1]

theorem partTimeTick_of_nothingDue (h : NothingDue s) (hacc : s.clock.accumulator < 4096)
    (hlock : ∀ n, s.clock.fastClock = .locking n → n + cyclesToTick s.clock.accumulator ≤ 80) :
    partTimeTick s = millisecond (cyclesLater (cyclesToTick s.clock.accumulator)
      (s.clock.accumulator + 125 * cyclesToTick s.clock.accumulator - 4096) s) := by
  obtain ⟨k, hk, hbelow, hreached⟩ := cyclesToTick_spec hacc
  rw [partTimeTick, hk]
  exact referenceCycles_of_nothingDue h hbelow hreached fun n hn => hk ▸ hlock n hn

/-! ## The statement -/

/-- Settles O3: one reference cycle by where the sum stands, and the cycles to the tick, by induction on those that
come before the last. -/
theorem timebaseAdvances : Obligations.TimebaseAdvances := by
  refine ⟨fun s hp => ⟨referenceCycle s, ?_, referenceCycle_instant_of_below, referenceCycle_instant_of_reached⟩,
    fun s hacc => ?_, fun s cycles h hacc hcycles hlock => ?_⟩
  · rw [step, hp]
  · obtain ⟨hbelow, htime⟩ := partTimeTick_instant hacc
    obtain ⟨hpolicy, htenants, hrelay, hlines, -⟩ := partTimeTick_frame s
    exact ⟨partTimeTick s, rfl, htime, hbelow, hrelay, hpolicy, htenants, hlines⟩
  · change cycles = cyclesToTick s.clock.accumulator at hcycles
    subst hcycles
    rw [exec_after, after, partTimeTick_of_nothingDue h hacc hlock]
    cases hf : s.clock.fastClock <;> simp [cyclesLater, FastClock.counted, hf]

end Sys2Proof.Machine
end

section
/-! SUPPORT. The queue (log entry 19): a step takes the command at its front (O1). -/

namespace Sys2Proof.Machine

/-- A step on a queue that holds a command runs the front command with the queue's rest. -/
theorem step_of_pending_cons {c : Instr} {rest : List Instr} {s : State} (h : s.pending = c :: rest) :
    step s = exec c { s with pending := rest } := by
  rw [step, h]

/-- Settles O1: the queue's rest is the queue `s` had before `c` was put in front of it. -/
theorem frontCommandRuns : Obligations.FrontCommandRuns :=
  fun _ _ => step_of_pending_cons rfl

end Sys2Proof.Machine
end

section
/-! SUPPORT. Leases within their values (R66 to R74): that a lease starts so, and that every change of one keeps it so;
and any law that leases changed so keep, with what else keeps it: the events of the lease, the ending of a standing, a
policy write, and the requests on custody and on leases. -/

namespace Sys2Proof.Machine

/-! ## One lease -/

theorem Gran.weight_dvd_four (g : Gran) : 4 % g.weight = 0 := by cases g <;> rfl

theorem startLease_lawful (who : Subject) (p : Nat) (o : BitVec 32) (f : Bool) (g : Gran) (q : Nat) :
    (startLease who p o f g q).lawful := by
  simp [Grant.lawful, startLease, Config.startBalance]

section
variable {g : Grant}

/-- A phase that moves on by the weight in force stays a multiple of it (R71). -/
theorem nextPhase_lawful (h : g.phase % g.gran.weight = 0) :
    (g.phase + g.gran.weight) % 4 < 4 ∧ (g.phase + g.gran.weight) % 4 % g.gran.weight = 0 := by
  refine ⟨Nat.mod_lt _ (by decide), ?_⟩
  rw [Nat.mod_mod_of_dvd _ (Nat.dvd_of_mod_eq_zero g.gran.weight_dvd_four), Nat.add_mod_right, h]

/-- A renewal (R71): the balance is limited at +16, and at phase 0 nothing is left pending. -/
theorem Grant.renew_lawful (h : g.lawful) : g.renew.lawful := by
  obtain ⟨-, hmult, hlow, hhigh, howed, -, hhold⟩ := h
  obtain ⟨hphase, hmult'⟩ := nextPhase_lawful hmult
  unfold Grant.renew
  dsimp only [Config.periodQuarters, Config.maxBalance]
  split
  next hzero =>
    simp only [Grant.lawful, Grant.applyPending, hzero]
    exact ⟨by omega, by simp, by omega, by omega, by omega, by simp, hhold⟩
  next hne => exact ⟨hphase, hmult', by dsimp only; omega, by dsimp only; omega, by dsimp only; omega, fun _ => hne, hhold⟩

theorem Grant.setGrain_lawful (want : Gran) (h : g.lawful) : (g.setGrain want).lawful := by
  obtain ⟨hphase, hmult, hlow, hhigh, howed, -, hhold⟩ := h
  unfold Grant.setGrain
  split
  · exact ⟨hphase, hmult, hlow, hhigh, howed, nofun, hhold⟩
  · split
    next hzero => exact ⟨hphase, by simp [hzero], hlow, hhigh, howed, nofun, hhold⟩
    next hne => exact ⟨hphase, hmult, hlow, hhigh, howed, fun _ => hne, hhold⟩

theorem Grant.beginHold_lawful (q : Nat) (h : g.lawful) : (g.beginHold q).lawful := by
  obtain ⟨hphase, hmult, hlow, hhigh, howed, hpending, -⟩ := h
  exact ⟨hphase, hmult, hlow, hhigh, howed, hpending, fun _ he => by cases he; exact hphase⟩

/-- A hold that ends leaves phase 0 and a whole period owed, or nothing (R74). -/
theorem Grant.resume_lawful (h : g.lawful) : g.resume.lawful := by
  unfold Grant.resume
  split
  · exact h
  · obtain ⟨-, -, hlow, hhigh, -⟩ := h
    refine ⟨by simp, by simp, hlow, hhigh, ?_, by simp [Grant.applyPending], nofun⟩
    dsimp only [Config.periodQuarters]
    split <;> omega

/-- A hold by HOLD that counts on, or stands, keeps the phase at its entry (R73, R75). -/
theorem Grant.lawful.holdOn {n m : Nat} {t u : Timer} {len q p : Nat} (h : g.lawful)
    (hh : g.hold = some (.byHold n t len p)) : ({ g with hold := some (.byHold m u q p) } : Grant).lawful := by
  obtain ⟨hphase, hmult, hlow, hhigh, howed, hpending, hhold⟩ := h
  have hentry : p < 4 := hhold _ hh
  exact ⟨hphase, hmult, hlow, hhigh, howed, hpending, fun _ he => by cases he; exact hentry⟩

theorem Grant.dozeHold_lawful (h : g.lawful) : g.dozeHold.lawful := by
  unfold Grant.dozeHold
  split
  · obtain ⟨hphase, hmult, hlow, hhigh, howed, hpending, -⟩ := h
    exact ⟨hphase, hmult, hlow, hhigh, howed, hpending, fun _ he => by cases he; exact hphase⟩
  next hh => exact h.holdOn hh
  · exact h

theorem Grant.dozeResume_lawful (h : g.lawful) : g.dozeResume.lawful := by
  unfold Grant.dozeResume
  split
  · exact Grant.resume_lawful h
  · exact h

theorem Grant.tick_lawful (m : Regime) (h : g.lawful) : (g.tick m).lawful := by
  unfold Grant.tick
  split
  · split <;> exact h
  next hh =>
    split
    · exact h
    · exact h.holdOn hh
  · exact h

theorem Grant.admitGrans_lawful (allowed : GranSet) (h : g.lawful) : (g.admitGrans allowed).lawful := by
  obtain ⟨hphase, hmult, hlow, hhigh, howed, -, hhold⟩ := id h
  unfold Grant.admitGrans
  split
  · exact ⟨by simp, by simp, hlow, hhigh, howed, nofun, hhold⟩
  · split
    · split
      · exact h
      · exact ⟨hphase, hmult, hlow, hhigh, howed, nofun, hhold⟩
    · exact h

end

/-! ## What the changes of a lease keep -/

/-- A law kept by a lease that changes lawfully, by a notice, by a grant that ends, and by a waiting list that
changes. -/
structure KeptByLeases (P : State → Prop) : Prop where
  lease : ∀ {s r g g'}, (s.entry r).grant = some g → (g.lawful → g'.lawful) → P s → P (s.setGrant r g')
  notice : ∀ {s} who b, P s → P (notifySubject who b s)
  turnover : ∀ {s} r k, P s → P (enterTurnover r k s)
  waiting : ∀ {s} r ws, P s → P (changeWaiting r ws s)

namespace KeptByLeases

variable {P : State → Prop} {s : State} {r : Resource} {who : Subject}

/-! ### Events of the lease (R67, R68, R73) -/

theorem revokeGrant (hP : KeptByLeases P) (r : Resource) (why : RevokeReason) (p : Nat) (h : P s) :
    P (revokeGrant r why p s) := by
  unfold Machine.revokeGrant
  split
  · exact hP.turnover r .revoked (hP.notice _ _ h)
  · exact h

theorem expireHold (hP : KeptByLeases P) {g g' : Grant} (hg : (s.entry r).grant = some g)
    (hl : g.lawful → g'.lawful) (h : P s) : P (expireHold r g' s) :=
  hP.notice _ _ (hP.lease hg (fun ha => Grant.resume_lawful (hl ha)) h)

/-- A balance that is not at its lowest loses one quarter (R68). -/
theorem quarterBoundary (hP : KeptByLeases P) (r : Resource) (h : P s) : P (quarterBoundary r s) := by
  unfold Machine.quarterBoundary
  split
  · exact h
  next g hg =>
    dsimp only
    split
    · split
      next => exact hP.revokeGrant r .lapsed 0 (hP.lease hg id h)
      next hb =>
        have hpaid : g.lawful → ({ g with
            quarterTimer := .zero, quarterLength := (s.policyOf g.holder r).quarterLength
            balance := g.balance - 1 } : Grant).lawful := by
          rintro ⟨hphase, hmult, hlow, hhigh, hrest⟩
          have hb' : g.balance ≠ -23 := hb
          exact ⟨hphase, hmult, by dsimp only; omega, by dsimp only; omega, hrest⟩
        split
        · exact hP.notice _ _ (hP.lease hg hpaid h)
        · exact hP.lease hg hpaid h
    · exact h

theorem heldQuarter (hP : KeptByLeases P) (r : Resource) (h : P s) : P (heldQuarter r s) := by
  unfold Machine.heldQuarter
  split
  · exact h
  next g hg =>
    split
    next hh =>
      dsimp only
      split
      · split
        · exact hP.expireHold hg (fun hl => hl.holdOn hh) h
        · exact hP.lease hg (fun hl => hl.holdOn hh) h
      · exact h
    next => exact h

/-! ### Standings that end, and policy writes (R31 to R38) -/

theorem tellStandingEnds (hP : KeptByLeases P) (who : Subject) (r : Resource) (h : P s) :
    P (tellStandingEnds who r s) := by
  unfold Machine.tellStandingEnds
  (repeat' split) <;> first | exact h | exact hP.notice _ _ h

theorem dropStanding (hP : KeptByLeases P) (who : Subject) (r : Resource) (h : P s) : P (dropStanding who r s) := by
  unfold Machine.dropStanding
  split
  · exact hP.turnover r .revoked h
  · split
    · exact hP.waiting r _ h
    · exact h

theorem endAllStanding (hP : KeptByLeases P) (who : Subject) (h : P s) : P (endAllStanding who s) :=
  List.foldlRecOn _ _ (List.foldlRecOn _ _ h fun _ ht r _ => hP.tellStandingEnds who r ht)
    fun _ ht r _ => hP.dropStanding who r ht

theorem applyHoldLimit (hP : KeptByLeases P) (limit : Nat) (h : P s) : P (applyHoldLimit r limit s) := by
  unfold Machine.applyHoldLimit
  split
  · exact h
  next hg => (repeat' split) <;> first | exact h | exact hP.expireHold hg id h

/-- R33, then R35, then R32: each changes the holder's lease lawfully, or its priority alone. -/
theorem policyOnHolder (hP : KeptByLeases P) (old new : PolicyEntry) (h : P s) :
    P (policyOnHolder who r old new s) := by
  unfold Machine.policyOnHolder
  split
  · exact h
  next g hg =>
    split
    · have hgrans : P (if new.grans ≠ old.grans then s.setGrant r (g.admitGrans new.grans) else s) := by
        split
        · exact hP.lease hg (Grant.admitGrans_lawful _) h
        · exact h
      have hlimit {t : State} (ht : P t) : P
          (if new.holdLimit < old.holdLimit then Machine.applyHoldLimit r new.holdLimit t else t) := by
        split
        · exact hP.applyHoldLimit _ ht
        · exact ht
      dsimp only
      split
      · split
        next hg' => exact hP.lease hg' id (hlimit hgrans)
        next => exact hlimit hgrans
      · exact hlimit hgrans
    · exact h

theorem policyEffects (hP : KeptByLeases P) (old new : PolicyEntry) (h : P s) :
    P (policyEffects who r old new s) := by
  unfold Machine.policyEffects policyOnWaiter
  dsimp only
  split
  · exact hP.dropStanding who r (hP.tellStandingEnds who r h)
  · split
    · exact hP.waiting r _ (hP.policyOnHolder old new h)
    · exact hP.policyOnHolder old new h

/-! ### Requests (R52, R58, R69 to R74) -/

theorem releaseHandler (hP : KeptByLeases P) (l : Link) (w : Subject) (b : List Byte) (h : P s) :
    P (releaseHandler l w b s).1 := by
  unfold Machine.releaseHandler
  (repeat' split) <;> first | exact h | exact hP.turnover _ .released h

theorem withdrawHandler (hP : KeptByLeases P) (l : Link) (w : Subject) (b : List Byte) (h : P s) :
    P (withdrawHandler l w b s).1 := by
  unfold Machine.withdrawHandler
  (repeat' split) <;> first | exact h | exact hP.waiting _ _ h

/-- A grant record of the requester's own, changed lawfully. -/
theorem ownLease (hP : KeptByLeases P) {g g' : Grant} (hg : s.grantOf who r = some g) (hl : g.lawful → g'.lawful)
    (h : P s) : P (s.setGrant r g') := hP.lease (Option.filter_eq_some_iff.mp hg).1 hl h

theorem renewHandler (hP : KeptByLeases P) (l : Link) (w : Subject) (b : List Byte) (h : P s) :
    P (renewHandler l w b s).1 := by
  unfold Machine.renewHandler
  (repeat' split) <;> first | exact h | exact hP.ownLease (by assumption) Grant.renew_lawful h

theorem setGrainHandler (hP : KeptByLeases P) (l : Link) (w : Subject) (b : List Byte) (h : P s) :
    P (setGrainHandler l w b s).1 := by
  unfold Machine.setGrainHandler
  (repeat' split) <;> first | exact h | exact hP.ownLease (by assumption) (Grant.setGrain_lawful _) h

theorem holdHandler (hP : KeptByLeases P) (l : Link) (w : Subject) (b : List Byte) (h : P s) :
    P (holdHandler l w b s).1 := by
  unfold Machine.holdHandler
  dsimp only
  (repeat' split) <;> first | exact h | exact hP.ownLease (by assumption) (Grant.beginHold_lawful _) h

theorem resumeHandler (hP : KeptByLeases P) (l : Link) (w : Subject) (b : List Byte) (h : P s) :
    P (resumeHandler l w b s).1 := by
  unfold Machine.resumeHandler
  (repeat' split) <;> first | exact h | exact hP.ownLease (by assumption) Grant.resume_lawful h

end KeptByLeases

end Sys2Proof.Machine
end

section
/-! SUPPORT. The laws of the queues, the leases and the clock (R5, R8, R11, R66 to R74, R85, R106, R169 to R173): a change
of state that takes no queue beyond its places and keeps the two other laws, and that every shared operation is one. -/

namespace Sys2Proof.Machine

/-- A port whose queues are no longer than before or within their places; a reply slot is taken by the processing of a
frame alone (R5, R8, R11). -/
structure Port.QueuesKept (p q : Port) : Prop where
  rxBuffer : q.rxBuffer.length ≤ max 2 p.rxBuffer.length
  replies : q.replies.length ≤ p.replies.length
  notices : q.notices.length ≤ max 16 p.notices.length

/-- A change of state that takes no queue beyond its places, and keeps the leases and the clock within their laws. -/
structure RangeKept (s t : State) : Prop where
  ports : ∀ l, (s.port l).QueuesKept (t.port l)
  keys : t.keys.fifo.length ≤ max 32 s.keys.fifo.length
  printer : t.printer.fifo.length ≤ max 4096 s.printer.fifo.length
  leases : LeaseLaw s → LeaseLaw t
  clock : ClockLaw s → ClockLaw t

theorem Port.QueuesKept.refl (p : Port) : p.QueuesKept p := ⟨by omega, le_rfl, by omega⟩

theorem Port.QueuesKept.trans {p q r : Port} (h : p.QueuesKept q) (h' : q.QueuesKept r) : p.QueuesKept r := by
  obtain ⟨hrx, hreplies, hnotices⟩ := h
  obtain ⟨hrx', hreplies', hnotices'⟩ := h'
  exact ⟨by omega, by omega, by omega⟩

theorem RangeKept.queueLaw {s t : State} (h : RangeKept s t) (hs : QueueLaw s) : QueueLaw t := by
  obtain ⟨hports, hkeys, hprinter⟩ := hs
  have := h.keys
  have := h.printer
  refine ⟨fun l => ?_, by omega, by omega⟩
  obtain ⟨hrx, hreplies, hnotices⟩ := h.ports l
  have := hports l
  omega

section
variable {u s t : State} {r : Resource} {l : Link}

theorem RangeKept.refl (s : State) : RangeKept s s := ⟨fun l => .refl _, by omega, by omega, id, id⟩

theorem RangeKept.trans (h : RangeKept u s) (h' : RangeKept s t) : RangeKept u t where
  ports := fun l => (h.ports l).trans (h'.ports l)
  keys := by have := h.keys; have := h'.keys; omega
  printer := by have := h.printer; have := h'.printer; omega
  leases := h'.leases ∘ h.leases
  clock := h'.clock ∘ h.clock

/-! ## What the laws read -/

/-- What the three laws read of a state beside its queues of notices. -/
structure SameRange (s t : State) : Prop where
  keys : t.keys.fifo = s.keys.fifo
  fifo : t.printer.fifo = s.printer.fifo
  transmission : t.printer.inTransmission = s.printer.inTransmission
  entries : t.custody.entries = s.custody.entries
  clock : t.clock = s.clock

theorem LeaseLaw.congr (h : LeaseLaw s) (he : t.custody.entries = s.custody.entries) : LeaseLaw t := by
  simpa only [LeaseLaw, State.entry, he] using h

/-- The fast clock as the regime has it, and a character's transmission in DOZE (R169, R173). -/
def RegimeFits : Regime → FastClock → Bool → Prop
  | .run, f, _ => f = .locked
  | .waking, f, _ => ∃ n, f = .locking n
  | .doze, f, printing => f = .off ∨ (f = .locked ∧ printing = true)

theorem clockLaw_iff : ClockLaw s ↔
    RegimeFits s.clock.regime s.clock.fastClock s.printer.inTransmission.isSome
      ∧ (s.clock.dozePending = true → s.clock.regime = .run) ∧ s.clock.accumulator < 4096 := by
  unfold ClockLaw
  cases s.clock.regime <;> rfl

theorem RegimeFits.imp {m : Regime} {f : FastClock} {b c : Bool} (h : RegimeFits m f b) (hbc : b = true → c = true) :
    RegimeFits m f c := by
  cases m with
  | run => exact h
  | waking => exact h
  | doze => exact h.imp_right fun ⟨hf, hb⟩ => ⟨hf, hbc hb⟩

theorem ClockLaw.congr (h : ClockLaw s) (hc : t.clock = s.clock)
    (ht : s.printer.inTransmission.isSome → t.printer.inTransmission.isSome) : ClockLaw t := by
  rw [clockLaw_iff] at h ⊢
  rw [hc]
  exact ⟨h.1.imp ht, h.2⟩

theorem SameRange.rangeKept (h : SameRange s t) (hp : ∀ l, (s.port l).QueuesKept (t.port l)) : RangeKept s t where
  ports := hp
  keys := by rw [h.keys]; omega
  printer := by rw [h.fifo]; omega
  leases := fun hs => hs.congr h.entries
  clock := fun hs => hs.congr h.clock (by rw [h.transmission]; exact id)

/-- An operation that leaves the ports, and what the laws read beside them. -/
theorem RangeKept.same (h : RangeKept u s) (hp : t.ports = s.ports) (hs : SameRange s t) : RangeKept u t :=
  h.trans (hs.rangeKept fun l => by rw [port_congr hp]; exact .refl _)

/-- An operation on one port. -/
theorem RangeKept.setPort (h : RangeKept u s) {p : Port} (hp : (s.port l).QueuesKept p) :
    RangeKept u (s.setPort l p) := by
  refine h.trans (SameRange.rangeKept ⟨rfl, rfl, rfl, rfl, rfl⟩ fun k => ?_)
  rw [setPort_port]
  split
  next hk => exact hk ▸ hp
  next => exact .refl _

/-! ## Conditions, notices and frames (R11, R15, R16) -/

theorem setCondition_range (k : Link) (c : Condition) (h : RangeKept u s) : RangeKept u (setCondition k c s) :=
  h.setPort ⟨le_max_right _ _, le_rfl, le_max_right _ _⟩

/-- A notice that finds no place is lost (R11). -/
theorem notify_range (k : Link) (n : Notice) (h : RangeKept u s) : RangeKept u (notify k n s) := by
  unfold notify
  split
  next hroom =>
    have hroom' : (s.port k).notices.length < 16 := hroom
    exact h.setPort ⟨le_max_right _ _, le_rfl, by rw [List.length_append, List.length_singleton]; omega⟩
  next => exact setCondition_range _ _ h

theorem notifySubject_range (who : Subject) (b : NoticeBody) (h : RangeKept u s) :
    RangeKept u (notifySubject who b s) := notify_range _ _ h

theorem notifyLink_range (k : Link) (b : NoticeBody) (h : RangeKept u s) : RangeKept u (notifyLink k b s) :=
  notify_range _ _ h

/-- A frame in flight that is dropped leaves every queue. -/
theorem dropFlight_range (k : Link) (h : RangeKept u s) :
    RangeKept u (s.setPort k { s.port k with inFlight := none }) :=
  h.setPort ⟨le_max_right _ _, le_rfl, le_max_right _ _⟩

/-- A doze that is no longer pending (R171). -/
theorem clearPending_range (h : RangeKept u s) :
    RangeKept u { s with clock := { s.clock with dozePending := false } } := by
  refine h.trans ⟨fun _ => .refl _, le_max_right _ _, le_max_right _ _, fun hs => hs.congr rfl, fun hs => ?_⟩
  rw [clockLaw_iff] at hs ⊢
  exact ⟨hs.1, nofun, hs.2.2⟩

theorem bridgeResultGone_range (h : RangeKept u s) : RangeKept u (bridgeResultGone s) :=
  h.same (by simp) ⟨by simp, by simp, by simp, by simp, by simp⟩

theorem cancelInFlight_range (k : Link) (h : RangeKept u s) : RangeKept u (cancelInFlight k s) := by
  unfold cancelInFlight
  split
  · exact h
  · dsimp only
    split
    · exact bridgeResultGone_range (dropFlight_range k h)
    · split
      · exact clearPending_range (dropFlight_range k h)
      · exact dropFlight_range k h
    · exact dropFlight_range k h

theorem cancelFrom_range (k : Link) (src : FrameSource) (h : RangeKept u s) : RangeKept u (cancelFrom k src s) := by
  unfold cancelFrom
  split
  · exact cancelInFlight_range k h
  · exact h

/-- A wake cause in DOZE (R174). -/
theorem wake_range (c : WakeCause) (h : RangeKept u s) : RangeKept u (wake c s) := by
  unfold wake
  split
  next hd =>
    refine h.trans ⟨fun _ => .refl _, le_max_right _ _, le_max_right _ _, fun hs => hs.congr rfl, ?_⟩
    rintro ⟨-, hpending, hacc⟩
    exact ⟨⟨0, rfl⟩, fun hp => absurd ((hpending hp).symm.trans hd) nofun, hacc⟩
  next => exact h

/-! ## Custody entries -/

/-- An entry whose grant, if it has one, is within the values of a lease. -/
theorem RangeKept.setEntry (h : RangeKept u s) {e : CustodyEntry}
    (he : LeaseLaw s → ∀ g, e.grant = some g → g.lawful) : RangeKept u (s.setEntry r e) := by
  refine h.trans ⟨fun _ => .refl _, le_max_right _ _, le_max_right _ _,
    fun hs q g hg => ?_, id⟩
  rw [setEntry_entry] at hg
  split at hg
  · exact he hs g hg
  · exact hs q g hg

theorem RangeKept.setWaiting (h : RangeKept u s) (ws : List Waiter) : RangeKept u (s.setWaiting r ws) :=
  h.setEntry fun hs g hg => hs r g hg

theorem RangeKept.setGrant (h : RangeKept u s) {g g' : Grant} (hg : (s.entry r).grant = some g)
    (hl : g.lawful → g'.lawful) : RangeKept u (s.setGrant r g') :=
  h.setEntry fun hs x hx => by cases hx; exact hl (hs r g hg)

theorem mapGrants_range {f : Grant → Grant} (hf : ∀ g, g.lawful → (f g).lawful) (h : RangeKept u s) :
    RangeKept u (mapGrants f s) := by
  refine h.trans ⟨fun _ => .refl _, by simp, by simp, fun hs q g hg => ?_, id⟩
  rw [mapGrants_entry, mapGrant_grant, Option.map_eq_some_iff] at hg
  obtain ⟨x, hx, rfl⟩ := hg
  exact hf x (hs q x hx)

/-! ## Grants and turnovers (R48, R51 to R56) -/

/-- What the serving blocks do as a grant starts leaves what the laws read. -/
theorem grantStarted_range (who : Subject) (h : RangeKept u s) : RangeKept u (grantStarted r who s) := by
  refine h.same (by simp) ⟨?_, ?_, ?_, by simp, by simp⟩ <;>
    cases r <;> simp [grantStarted, recomputeLamp] <;> split <;> simp [resetMatcher]

theorem startGrant_range (who : Subject) (p : Nat) (o : BitVec 32) (f : Bool) (g : Gran) (h : RangeKept u s) :
    RangeKept u (startGrant r who p o f g s) :=
  grantStarted_range who (h.setEntry fun _ x hx => by cases hx; exact startLease_lawful ..)

theorem completeTurnover_range (h : RangeKept u s) : RangeKept u (completeTurnover r s) := by
  unfold completeTurnover
  split
  · have hfree : RangeKept u (s.setEntry r { state := .free, waiting := [] }) := h.setEntry fun _ _ hg => by simp at hg
    dsimp only
    split
    · exact hfree.same (by simp) ⟨by simp, by simp, by simp, by simp, by simp⟩
    · exact hfree
  · exact notifySubject_range _ _ (startGrant_range _ _ _ _ _ (h.setWaiting _))

/-- A flush empties the key FIFO (R88). -/
theorem keypadTurnover_range (old : Option Subject) (h : RangeKept u s) : RangeKept u (keypadTurnover old s) := by
  have hcancel : RangeKept u (match old with | some h => cancelFrom h.link .key s | none => s) := by
    split
    · exact cancelFrom_range _ _ h
    · exact h
  unfold keypadTurnover
  dsimp only
  refine completeTurnover_range (hcancel.trans ?_)
  exact ⟨fun _ => .refl _, by simp [resetMatcher], le_max_right _ _, fun hs => hs.congr rfl,
    fun hs => hs.congr rfl id⟩

theorem reportDisplayHead_range (h : RangeKept u s) : RangeKept u (reportDisplayHead s) := by
  unfold reportDisplayHead
  split
  · dsimp only
    split
    · exact completeTurnover_range (h.same rfl ⟨rfl, rfl, rfl, rfl, rfl⟩)
    · exact h.same rfl ⟨rfl, rfl, rfl, rfl, rfl⟩
  · exact h

/-! ## The printer port (R106, R111, R112) -/

/-- A printer port whose FIFO is within its places, and whose character in transmission goes on. -/
theorem RangeKept.setPrinter (h : RangeKept u s) {p : PrinterPort} (hf : p.fifo.length ≤ max 4096 s.printer.fifo.length)
    (ht : s.printer.inTransmission.isSome → p.inTransmission.isSome) : RangeKept u { s with printer := p } :=
  h.trans ⟨fun _ => .refl _, le_max_right _ _, hf, fun hs => hs.congr rfl, fun hs => hs.congr rfl ht⟩

theorem beginCharacter_range (h : RangeKept u s) : RangeKept u (beginCharacter s) := by
  unfold beginCharacter
  split
  · split
    · split
      · exact h.setPrinter (le_max_right _ _) fun _ => rfl
      · exact h
    · split
      next hf => exact h.setPrinter (by rw [hf, List.length_cons]; dsimp only; omega) fun _ => rfl
      next => exact h
  · exact h

theorem endDrain_range (h : RangeKept u s) : RangeKept u (endDrain s) := by
  unfold endDrain
  split
  · exact h.setPrinter (le_max_right _ _) id
  · exact h

theorem endSeparator_range (h : RangeKept u s) : RangeKept u (endSeparator s) := by
  unfold endSeparator
  split
  · exact completeTurnover_range (h.setPrinter (le_max_right _ _) id)
  · exact h

theorem runPrinter_range (h : RangeKept u s) : RangeKept u (runPrinter s) :=
  beginCharacter_range (endSeparator_range (endDrain_range h))

theorem printerTurnover_range (k : EndingKind) (h : RangeKept u s) : RangeKept u (printerTurnover k s) :=
  runPrinter_range (h.setPrinter (by cases k <;> simp) id)

/-! ## The bridge's turnover, and every turnover (R51, R125) -/

theorem clessTurnover_range (old : Option Subject) (h : RangeKept u s) : RangeKept u (clessTurnover old s) := by
  have hcancel : RangeKept u (match old with | some h => cancelFrom h.link .clResult s | none => s) := by
    split
    · exact cancelFrom_range _ _ h
    · exact h
  unfold clessTurnover
  dsimp only
  split
  case h_2 => exact h.same (by simp) ⟨by simp, by simp, by simp, by simp, by simp⟩
  case h_7 => exact hcancel.same rfl ⟨rfl, rfl, rfl, rfl, rfl⟩
  all_goals exact h.same rfl ⟨rfl, rfl, rfl, rfl, rfl⟩

theorem enterTurnover_range (r : Resource) (k : EndingKind) (h : RangeKept u s) : RangeKept u (enterTurnover r k s) := by
  have hset : RangeKept u (s.setEntry r { s.entry r with state := .turnover k }) := h.setEntry fun _ _ hg => by simp at hg
  unfold enterTurnover
  cases r with
  | keypad => exact keypadTurnover_range _ hset
  | display => exact reportDisplayHead_range hset
  | cless => exact clessTurnover_range _ hset
  | printer => exact printerTurnover_range k hset

theorem changeWaiting_range (r : Resource) (ws : List Waiter) (h : RangeKept u s) :
    RangeKept u (changeWaiting r ws s) := by
  unfold changeWaiting
  dsimp only
  split
  · exact reportDisplayHead_range (h.setWaiting ws)
  · exact h.setWaiting ws

/-- The changes of a lease keep the three laws, and so do the events and requests they make up. -/
theorem rangeKept_keptByLeases (u : State) : KeptByLeases (RangeKept u) where
  lease := fun hg hl h => h.setGrant hg hl
  notice := notifySubject_range
  turnover := enterTurnover_range
  waiting := changeWaiting_range

/-! ## The attention takeover (R60) -/

theorem withdrawAppWaiters_range (r : Resource) (h : RangeKept u s) : RangeKept u (withdrawAppWaiters r s) :=
  List.foldlRecOn _ _ h fun _ ht _ _ => notifySubject_range _ _ ht

theorem placePay_range (r : Resource) (h : RangeKept u s) : RangeKept u (placePay r s) := by
  unfold placePay
  split
  · exact h.setWaiting _
  · exact (h.same (t := (takeArrival s).2) rfl ⟨rfl, rfl, rfl, rfl, rfl⟩).setWaiting _

theorem takeOver_range (r : Resource) (h : RangeKept u s) : RangeKept u (takeOver r s) := by
  unfold takeOver
  split
  · split
    · exact h
    · exact enterTurnover_range r _
        (placePay_range r (withdrawAppWaiters_range r (notifySubject_range _ _ h)))
  · have hplaced := placePay_range r (withdrawAppWaiters_range r h)
    dsimp only
    split
    · exact reportDisplayHead_range hplaced
    · exact hplaced
  · have hplaced := placePay_range r h
    dsimp only
    split
    · exact keypadTurnover_range none hplaced
    · exact enterTurnover_range .display _ hplaced
    · exact completeTurnover_range hplaced

theorem attentionTakeover_range (h : RangeKept u s) : RangeKept u (attentionTakeover s) :=
  notifyLink_range _ _ (notifyLink_range _ _ (takeOver_range .display (takeOver_range .keypad h)))

theorem reportMatch_range (h : RangeKept u s) : RangeKept u (reportMatch s) := by
  unfold reportMatch
  split
  · exact attentionTakeover_range h
  · exact h.same rfl ⟨rfl, rfl, rfl, rfl, rfl⟩

end

end Sys2Proof.Machine
end

section
/-! SUPPORT. That every event, every request and every reference cycle keeps the laws of the queues, the leases and the
clock, and so every step (O53). -/

namespace Sys2Proof.Machine

variable {u s t : State} {r : Resource} {l : Link}

/-- A port with the same queues. -/
theorem Port.QueuesKept.same {p q : Port} (hrx : q.rxBuffer = p.rxBuffer) (hreplies : q.replies = p.replies)
    (hnotices : q.notices = p.notices) : p.QueuesKept q :=
  ⟨by rw [hrx]; exact le_max_right _ _, by rw [hreplies], by rw [hnotices]; exact le_max_right _ _⟩

/-! ## Events of the panel, the printer and the bridge -/

theorem switchDisplay_range (x : Source) (h : RangeKept u s) : RangeKept u (switchDisplay x s) :=
  completeTurnover_range (h.same (by simp) ⟨by simp, by simp, by simp, by simp, by simp⟩)

theorem fsyncEdge_range (h : RangeKept u s) : RangeKept u (fsyncEdge s) := by
  unfold fsyncEdge
  split
  · exact switchDisplay_range _ h
  · exact h

theorem forcedSwitch_range (h : RangeKept u s) : RangeKept u (forcedSwitch s) := by
  unfold forcedSwitch
  split
  · split
    · exact switchDisplay_range _ (setCondition_range _ _ h)
    · exact h
  · exact h

theorem prdyLevel_range (level : Bool) (h : RangeKept u s) : RangeKept u (prdyLevel level s) := by
  have hline : RangeKept u { s with lines := { s.lines with prdy := level } } := h.same rfl ⟨rfl, rfl, rfl, rfl, rfl⟩
  unfold prdyLevel
  dsimp only
  split
  · exact beginCharacter_range hline
  · exact hline

/-- What a completing character reports (R108, R113) leaves the port's character and every queue but the notices. -/
theorem reportDrained_range (h : RangeKept u s) : RangeKept u (reportDrained s) := by
  unfold reportDrained
  split
  · split
    · exact notifySubject_range _ _ (h.setPrinter (le_max_right _ _) id)
    · exact h
  · exact h

theorem restartStall_range (h : RangeKept u s) : RangeKept u (restartStall s) := by
  unfold restartStall
  split
  · exact h
  · exact h.setPrinter (le_max_right _ _) id

/-- In DOZE the fast clock ran for the character that has gone, and stops with it (R173). -/
theorem stopFastClock_law (hs : s.clock = u.clock) (h : ClockLaw u) : ClockLaw (stopFastClock s) := by
  rw [clockLaw_iff] at h ⊢
  obtain ⟨hregime, hpending, hacc⟩ := h
  unfold stopFastClock
  split
  next hd =>
    have hdoze : u.clock.regime = .doze := hs ▸ hd.1
    refine ⟨?_, fun hp => hs ▸ hpending (hs ▸ hp), hs ▸ hacc⟩
    rw [hd.1]
    exact .inl rfl
  next hd =>
    refine ⟨?_, hs ▸ ⟨hpending, hacc⟩⟩
    rw [hs]
    cases hr : u.clock.regime with
    | run => rw [hr] at hregime; exact hregime
    | waking => rw [hr] at hregime; exact hregime
    | doze =>
      rw [hr] at hregime
      refine .inl (hregime.resolve_right fun hl => hd ⟨hs ▸ hr, ?_⟩)
      simp [State.fastLocked, hs, hl.1]

theorem characterComplete_range (h : RangeKept u s) : RangeKept u (characterComplete s) := by
  unfold characterComplete
  split
  · exact h
  next =>
    refine runPrinter_range (h.trans ?_)
    have hgone : RangeKept { s with printer := { s.printer with inTransmission := none } }
        (reportDrained (restartStall { s with printer := { s.printer with inTransmission := none } })) :=
      reportDrained_range (restartStall_range (.refl _))
    obtain ⟨hports, -, hfifo, hleases, -⟩ := hgone
    refine ⟨fun k => ?_, by simp, by simpa using hfifo, fun hs => ?_, stopFastClock_law (by simp)⟩
    · rw [port_congr (stopFastClock_frame _).1]
      exact hports k
    · exact (hleases (hs.congr rfl)).congr (by simp)

theorem printerStall_range (h : RangeKept u s) : RangeKept u (printerStall s) := by
  unfold printerStall
  split
  · exact completeTurnover_range (setCondition_range _ _ (h.setPrinter (Nat.zero_le _) id))
  · exact h

theorem judgeGate_range (h : RangeKept u s) : RangeKept u (judgeGate s) :=
  h.same (by simp) ⟨by simp, by simp, by simp, by simp, by simp⟩

theorem fieldResetExpiry_range (h : RangeKept u s) : RangeKept u (fieldResetExpiry s) := by
  have hoff : RangeKept u { s with bridge := { s.bridge with fieldReset := none } } :=
    h.same rfl ⟨rfl, rfl, rfl, rfl, rfl⟩
  unfold fieldResetExpiry
  split
  · split
    · dsimp only
      split
      · exact judgeGate_range (completeTurnover_range hoff)
      · exact judgeGate_range hoff
    · exact h
  · exact h

theorem clfevEdge_range (level : Bool) (h : RangeKept u s) : RangeKept u (clfevEdge level s) := by
  have hline : RangeKept u { s with lines := { s.lines with clfev := level } } := h.same rfl ⟨rfl, rfl, rfl, rfl, rfl⟩
  unfold clfevEdge
  split
  · exact h
  · dsimp only
    split
    · exact hline
    · exact wake_range _ (notifySubject_range _ _ hline)

/-- A withdrawn radio grant may set a condition, and no more of a port (R140). -/
theorem withdrawGrant_range (f : RadioFn) (h : RangeKept u s) : RangeKept u (withdrawGrant f s) := by
  unfold withdrawGrant
  exact setCondition_range _ _ (h.same rfl ⟨rfl, rfl, rfl, rfl, rfl⟩)

theorem boundaryJudgeAll_range (h : RangeKept u s) : RangeKept u (boundaryJudgeAll s) := by
  have hone (f : RadioFn) {t : State} (ht : RangeKept u t) : RangeKept u (boundaryJudge f t) := by
    unfold boundaryJudge
    (repeat' split) <;> first
      | exact ht
      | exact withdrawGrant_range f ht
      | exact ht.same (by simp) ⟨by simp, by simp, by simp, by simp, by simp⟩
  exact hone .bt (hone .wlan (hone .cell h))

theorem armingJudgeAll_range (h : RangeKept u s) : RangeKept u (armingJudgeAll s) := by
  have hone (f : RadioFn) {t : State} (ht : RangeKept u t) : RangeKept u (armingJudge f t) := by
    unfold armingJudge
    split
    · exact withdrawGrant_range f ht
    · exact ht
  exact hone .bt (hone .wlan (hone .cell h))

theorem slotBoundary_range (h : RangeKept u s) : RangeKept u (slotBoundary s) := by
  unfold slotBoundary
  split
  · refine judgeGate_range (boundaryJudgeAll_range ?_)
    exact h.same rfl ⟨rfl, rfl, rfl, rfl, rfl⟩
  · exact h

/-! ## Scans and the matcher (R80 to R93) -/

/-- The FIFO takes a record only where it has room (R85). -/
theorem deliverRecord_range (k : KeyRecord) (h : RangeKept u s) : RangeKept u (deliverRecord s k) := by
  have hfifo : RangeKept u (recordToFifo k s) := by
    unfold recordToFifo
    split
    · exact h
    · split
      next hroom =>
        have hroom' : s.keys.fifo.length < 32 := hroom
        refine h.trans ⟨fun _ => .refl _, ?_, le_max_right _ _, fun hs => hs.congr rfl, fun hs => hs.congr rfl id⟩
        rw [List.length_append, List.length_singleton]
        omega
      next => exact setCondition_range _ _ (h.same rfl ⟨rfl, rfl, rfl, rfl, rfl⟩)
  unfold deliverRecord echoPress
  split
  · exact setCondition_range _ _ hfifo
  · exact hfifo

theorem matchFound_range (h : RangeKept u s) : RangeKept u (matchFound s) := by
  unfold matchFound
  split
  · exact reportMatch_range (wake_range _ h)
  · exact reportMatch_range h

theorem scanMatched_leaves_fifo (sample : BitVec 24) (s : State) :
    (scanMatched sample s).1.fifo = (scanDelivered sample s).keys.fifo := by
  unfold scanMatched
  split
  · rfl
  · obtain ⟨p, b, t, hrest⟩ := matchRecords_leaves s.clock.partTime (scanOf sample s).records
      (scanDelivered sample s).keys
    rw [hrest]

theorem scanWoken_range (sample : BitVec 24) (h : RangeKept u s) : RangeKept u (scanWoken sample s) := by
  have hdelivered : RangeKept u (scanDelivered sample s) :=
    List.foldlRecOn _ _ (h.same rfl ⟨rfl, rfl, rfl, rfl, rfl⟩) fun _ ht k _ => deliverRecord_range k ht
  have hmatched : RangeKept u { scanDelivered sample s with keys := (scanMatched sample s).1 } :=
    hdelivered.same rfl ⟨scanMatched_leaves_fifo sample s, rfl, rfl, rfl, rfl⟩
  unfold scanWoken
  dsimp only
  split
  · exact wake_range _ hmatched
  · exact hmatched

theorem keyScan_range (sample : BitVec 24) (h : RangeKept u s) : RangeKept u (keyScan sample s) := by
  unfold keyScan
  split
  · rw [scanEvent_steps]
    split
    · exact matchFound_range (scanWoken_range sample h)
    · exact scanWoken_range sample h
  · exact h

theorem holdTimerMatch_range (h : RangeKept u s) : RangeKept u (holdTimerMatch s) := by
  unfold holdTimerMatch
  split
  · split
    · exact matchFound_range (h.same rfl ⟨rfl, rfl, rfl, rfl, rfl⟩)
    · exact h
  · exact h

/-! ## Transfers: what is received (R4 to R7) -/

theorem rxEnds_range (l : Link) (o : RxOutcome) (h : RangeKept u s) : RangeKept u (s.rxEnds l o) :=
  h.setPort (.same rfl rfl rfl)

/-- A frame joins the buffer only where it has room (R5). -/
theorem judgeFrame_range (l : Link) (bytes : List Byte) (h : RangeKept u s) : RangeKept u (judgeFrame l bytes s) := by
  unfold judgeFrame
  split
  · exact setCondition_range _ _ (rxEnds_range l _ h)
  · split
    · exact setCondition_range _ _ (rxEnds_range l _ h)
    next hroom =>
      have hroom' : (s.port l).rxBuffer.length < 2 := by simpa [Port.rxRoom, Config.rxPlaces] using hroom
      refine wake_range _ ((rxEnds_range l .taken h).setPort ⟨?_, le_rfl, le_max_right _ _⟩)
      simp only [State.rxEnds, setPort_port_self, List.length_append, List.length_singleton]
      omega

theorem receiveByte_range (l : Link) (b : Byte) (h : RangeKept u s) : RangeKept u (receiveByte l b s) := by
  unfold receiveByte
  split
  · split
    · exact h.setPort (.same rfl rfl rfl)
    · exact h
  · unfold collectByte
    split
    · exact setCondition_range _ _ (rxEnds_range l _ h)
    · split
      · exact judgeFrame_range l _ h
      · exact h.setPort (.same rfl rfl rfl)
  · exact h

theorem frameStall_range (l : Link) (h : RangeKept u s) : RangeKept u (frameStall l s) := by
  unfold frameStall
  split
  · split
    · exact setCondition_range _ _ (setCondition_range _ _ (h.setPort (.same rfl rfl rfl)))
    · exact h
  · exact h

theorem transferStart_range (l : Link) (h : RangeKept u s) : RangeKept u (transferStart l s) := by
  unfold transferStart
  split
  · exact h
  · exact h.setPort (.same rfl rfl rfl)

/-! ## Transfers: what is sent (R12 to R14), and the doze it brings about -/

/-- A frame that becomes the frame in flight leaves every queue, and its source only becomes shorter (R13). -/
theorem chooseFrame_range (l : Link) (h : RangeKept u s) : RangeKept u (chooseFrame l s) := by
  have hbegin (f : Frame) (src : FrameSource) {t : State} (ht : RangeKept u t) : RangeKept u (beginFrame l f src t) :=
    ht.setPort (.same rfl rfl rfl)
  have hnotice (n : Notice) : RangeKept u (sendNotice l n s) :=
    hbegin _ _ (h.setPort ⟨le_max_right _ _, le_rfl, le_max_of_le_right List.length_erase_le⟩)
  unfold chooseFrame
  dsimp only
  split
  · exact h.setPort (.same rfl rfl rfl)
  · split
    · exact hnotice _
    next hr => exact hbegin _ _ (h.setPort ⟨le_max_right _ _, by simp [hr], le_max_right _ _⟩)
    · exact hnotice _
    · split
      · exact hbegin _ _ (h.trans ⟨fun _ => .refl _, by simp, le_max_right _ _, fun hs => hs.congr rfl,
          fun hs => hs.congr rfl id⟩)
      · exact hbegin _ _ (h.same rfl ⟨rfl, rfl, rfl, rfl, rfl⟩)
      · unfold sendRelay
        split
        · exact hbegin _ _ (h.same (by simp) ⟨by simp, by simp, by simp, by simp, by simp⟩)
        · exact h
      · exact h

theorem beginByte_range (l : Link) (h : RangeKept u s) : RangeKept u (beginByte l s) := h.setPort (.same rfl rfl rfl)

theorem outboundChoice_range (l : Link) (h : RangeKept u s) : RangeKept u (outboundChoice l s) := by
  unfold outboundChoice
  split
  next t0 _ =>
    have hmade : RangeKept u (s.setPort l { s.port l with
        transfer := some { t0 with choiceMade := true, shifting := none } }) := h.setPort (.same rfl rfl rfl)
    split
    · dsimp only
      split
      · exact beginByte_range l (chooseFrame_range l hmade)
      · exact beginByte_range l hmade
    · exact h
  · exact h

/-- The state that enters DOZE, but for its holds: a doze was pending in RUN, with the fast clock LOCKED (R169, R173). -/
theorem enterDoze_range (hp : s.clock.dozePending = true) (h : RangeKept u s) :
    RangeKept u (enterDoze { s with clock := { s.clock with dozePending := false } }) := by
  refine mapGrants_range (fun _ => Grant.dozeHold_lawful) (h.trans ⟨fun _ => .refl _, le_max_right _ _,
    le_max_right _ _, fun hs => hs.congr rfl, fun hs => ?_⟩)
  rw [clockLaw_iff] at hs ⊢
  obtain ⟨hregime, hpending, hacc⟩ := hs
  rw [hpending hp] at hregime
  refine ⟨?_, nofun, hacc⟩
  dsimp only
  split
  next ht => exact .inr ⟨hregime, ht⟩
  next => exact .inl rfl

theorem dozeReplyCompleted_range (h : RangeKept u s) : RangeKept u (dozeReplyCompleted s) := by
  unfold dozeReplyCompleted
  split
  next hp =>
    dsimp only
    split
    · exact enterDoze_range hp h
    · exact notifyLink_range _ _ (clearPending_range h)
  · exact h

theorem frameComplete_range (l : Link) (h : RangeKept u s) : RangeKept u (frameComplete l s) := by
  unfold frameComplete
  split
  · split
    · unfold reportCompletion
      split
      · split
        · exact dozeReplyCompleted_range (dropFlight_range l h)
        · exact dropFlight_range l h
      · exact bridgeResultGone_range (dropFlight_range l h)
      · exact dropFlight_range l h
    · exact h
  · exact h

theorem clockEdge_range (l : Link) (h : RangeKept u s) : RangeKept u (clockEdge l s) := by
  unfold clockEdge
  split
  · exact h
  · unfold restartStallTimer
    have hbyte := beginByte_range l (outboundChoice_range l (frameComplete_range l h))
    split
    · exact hbyte.setPort (.same rfl rfl rfl)
    · exact hbyte

theorem moveByte_range (l : Link) (b : Byte) (h : RangeKept u s) : RangeKept u (moveByte l b s) := by
  unfold moveByte
  split
  · exact h
  · exact receiveByte_range l b ((clockEdge_range l h).setPort (.same rfl rfl rfl))

theorem arrive_range (l : Link) (a : Arrival) (h : RangeKept u s) : RangeKept u (arrive l a s) := by
  cases a with
  | edge => exact clockEdge_range l h
  | byte b => exact moveByte_range l b h

theorem transferEnd_range (l : Link) (h : RangeKept u s) : RangeKept u (transferEnd l s) := by
  have htruncate {t : State} (ht : RangeKept u t) : RangeKept u (truncateAtEnd l t) := by
    unfold truncateAtEnd
    split
    · exact setCondition_range _ _ (ht.setPort (.same rfl rfl rfl))
    · exact ht
  unfold transferEnd
  split
  · exact h
  · exact (htruncate (frameComplete_range l h)).setPort (.same rfl rfl rfl)

/-! ## The timebase -/

/-- The lock brings RUN with the fast clock LOCKED (R175). -/
theorem lockEvent_range (h : RangeKept u s) : RangeKept u (lockEvent s) := by
  have hlocked : RangeKept u { s with clock := { s.clock with fastClock := .locked, regime := .run } } :=
    h.trans ⟨fun _ => .refl _, le_max_right _ _, le_max_right _ _, fun hs => hs.congr rfl,
      fun ⟨_, _, hacc⟩ => ⟨rfl, fun _ => rfl, hacc⟩⟩
  have htakeover {t : State} (ht : RangeKept u t) : RangeKept u (runPendingTakeover t) := by
    unfold runPendingTakeover
    split
    · exact attentionTakeover_range (ht.same rfl ⟨rfl, rfl, rfl, rfl, rfl⟩)
    · exact ht
  have hclear {t : State} (ht : RangeKept u t) :
      RangeKept u { t with clock := { t.clock with wakeCause := none, dozeEntry := none } } :=
    ht.trans ⟨fun _ => .refl _, le_max_right _ _, le_max_right _ _, fun hs => hs.congr rfl,
      fun hs => clockLaw_iff.mpr (clockLaw_iff.mp hs)⟩
  have hrun := htakeover (mapGrants_range (fun _ => Grant.dozeResume_lawful) hlocked)
  unfold lockEvent
  dsimp only
  split
  · exact hclear (notifyLink_range _ _ (notifyLink_range _ _ (notifyLink_range _ _ hrun)))
  · exact hclear hrun

theorem lockIfDue_range (h : RangeKept u s) : RangeKept u (lockIfDue s) := by
  unfold lockIfDue
  split
  · split
    · exact lockEvent_range h
    · exact h
  · exact h

theorem Port.tick_queues (p : Port) : p.QueuesKept p.tick := by
  unfold Port.tick
  split <;> exact .same rfl rfl rfl

theorem millisecond_range (h : RangeKept u s) : RangeKept u (millisecond s) := by
  refine mapGrants_range (fun _ => Grant.tick_lawful _) (h.trans ⟨fun l => ?_, le_max_right _ _, le_max_right _ _,
    fun hs => hs.congr rfl, id⟩)
  cases l <;> exact Port.tick_queues _

/-- Every due event, in the order in which the model takes them (log entry 5). -/
theorem takeDue_range (h : RangeKept u s) : RangeKept u (takeDue s) := by
  have hkept := rangeKept_keptByLeases u
  have hframes := frameStall_range .r (frameStall_range .a (frameStall_range .p h))
  have hquarter := hkept.quarterBoundary .printer (hkept.quarterBoundary .cless
    (hkept.quarterBoundary .display (hkept.quarterBoundary .keypad hframes)))
  have hheld := hkept.heldQuarter .printer (hkept.heldQuarter .cless
    (hkept.heldQuarter .display (hkept.heldQuarter .keypad hquarter)))
  have hblink {t : State} (ht : RangeKept u t) : RangeKept u (blinkToggle t) :=
    ht.same (by simp) ⟨by simp, by simp, by simp, by simp, by simp⟩
  have htimeout {t : State} (ht : RangeKept u t) : RangeKept u (exchangeTimeout t) :=
    ht.same (by simp) ⟨by simp, by simp, by simp, by simp, by simp⟩
  exact lockIfDue_range (slotBoundary_range (fieldResetExpiry_range (htimeout (printerStall_range (hblink
    (forcedSwitch_range (holdTimerMatch_range (keyScan_range _ hheld))))))))

theorem RegimeFits.cycle {m : Regime} {f : FastClock} {b : Bool} (h : RegimeFits m f b) : RegimeFits m f.cycle b := by
  cases m with
  | run => cases h; rfl
  | waking => obtain ⟨n, rfl⟩ := h; exact ⟨_, rfl⟩
  | doze =>
    rcases h with rfl | ⟨rfl, hb⟩
    · exact .inl rfl
    · exact .inr ⟨rfl, hb⟩

/-- One cycle of the reference leaves the accumulator below 4096 (R168). -/
theorem cycled_range {n : Nat} (hn : s.clock.accumulator < 4096 → n < 4096) (h : RangeKept u s) : RangeKept u
    { s with clock := { s.clock with fastClock := s.clock.fastClock.cycle, accumulator := n } } := by
  refine h.trans ⟨fun _ => .refl _, le_max_right _ _, le_max_right _ _, fun hs => hs.congr rfl, fun hs => ?_⟩
  rw [clockLaw_iff] at hs ⊢
  obtain ⟨hregime, hpending, hacc⟩ := hs
  exact ⟨hregime.cycle, hpending, hn hacc⟩

theorem referenceCycle_range (h : RangeKept u s) : RangeKept u (referenceCycle s) := by
  unfold referenceCycle
  dsimp only
  split
  next hbelow => exact cycled_range (fun _ => hbelow) (takeDue_range h)
  next => exact millisecond_range (cycled_range (fun hacc => by simp only [Config.cycleStep, Config.cycleModulus]; omega)
    (takeDue_range h))

theorem referenceCycles_range (n : Nat) (h : RangeKept u s) : RangeKept u (referenceCycles n s) := by
  induction n generalizing s with
  | zero => exact h
  | succ n ih => exact ih (referenceCycle_range h)

theorem fastClockLock_range (h : RangeKept u s) : RangeKept u (fastClockLock s) := by
  unfold fastClockLock
  split
  · split
    · exact lockIfDue_range (referenceCycles_range _ h)
    · exact h
  · exact h

end Sys2Proof.Machine
end

section
/-! SUPPORT. That every request keeps the laws of the queues, the leases and the clock, and so every step (O53); and that
the state after reset meets every law (O60). -/

namespace Sys2Proof.Machine

variable {u s t : State} {r : Resource} {l : Link}

/-- Each of the three laws holds after a change where it held before. -/
structure KeepsRanges (s t : State) : Prop where
  queues : QueueLaw s → QueueLaw t
  leases : LeaseLaw s → LeaseLaw t
  clock : ClockLaw s → ClockLaw t

theorem RangeKept.keepsRanges (h : RangeKept s t) : KeepsRanges s t := ⟨h.queueLaw, h.leases, h.clock⟩

theorem KeepsRanges.refl (s : State) : KeepsRanges s s := ⟨id, id, id⟩

/-! ## The processing of a frame (R8 to R10) -/

/-- The oldest frame gives up its place. -/
theorem dropOldest_range (l : Link) (h : RangeKept u s) : RangeKept u (dropOldest l s) :=
  h.setPort ⟨by rw [List.length_tail]; omega, le_rfl, le_max_right _ _⟩

/-- A reply enters a slot that was free (R8). -/
theorem placeReply_keepsRanges (f : Frame) (hroom : (s.port l).replies.length < 4) (h : RangeKept s t) :
    KeepsRanges s (placeReply l f t) := by
  refine ⟨fun hs => ?_, h.leases, h.clock⟩
  obtain ⟨hports, hkeys, hprinter⟩ := h.queueLaw hs
  refine ⟨fun k => ?_, hkeys, hprinter⟩
  rw [placeReply, setPort_port]
  split
  · obtain ⟨hrx, -, hnotices⟩ := hports l
    have := (h.ports l).replies
    exact ⟨hrx, by rw [List.length_append, List.length_singleton]; omega, hnotices⟩
  · exact hports k

/-- Processing is open in RUN alone, with a reply slot free (R8). -/
theorem mayProcess_iff : s.mayProcess l = true ↔ s.clock.regime = .run ∧ (s.port l).replies.length < 4 := by
  rw [State.mayProcess, Bool.and_eq_true, State.running, beq_iff_eq, decide_eq_true_iff]
  rfl

theorem open_of_oldestOpen {f : Frame} (h : s.oldestOpen l = some f) :
    s.clock.regime = .run ∧ (s.port l).replies.length < 4 := by
  unfold State.oldestOpen at h
  split at h
  next hm => exact mayProcess_iff.mp hm
  next => cases h

/-- What an admitted request's handler keeps in RUN, the processing of a frame keeps. -/
theorem processWhere_keepsRanges {mine : Frame → Bool} {k : ReqKind} {handler : Handler}
    (hh : ∀ w b t, t.clock.regime = .run → RangeKept t (handler l w b t).1) :
    KeepsRanges s (processWhere mine k handler l s) := by
  unfold processWhere
  split
  next f hf =>
    obtain ⟨hrun, hroom⟩ := open_of_oldestOpen hf
    have hdrop : RangeKept s (dropOldest l s) := dropOldest_range l (.refl s)
    split
    · unfold processFrame
      dsimp only
      split
      · exact placeReply_keepsRanges _ hroom hdrop
      · exact placeReply_keepsRanges _ hroom (hdrop.trans (hh _ _ _ (by simpa using hrun)))
    · exact .refl s
  next => exact .refl s

/-- A request that leaves the ports and what the laws read. -/
theorem quiet_keepsRanges {mine : Frame → Bool} {k : ReqKind} {handler : Handler}
    (hp : ∀ w b t, (handler l w b t).1.ports = t.ports) (hs : ∀ w b t, SameRange t (handler l w b t).1) :
    KeepsRanges s (processWhere mine k handler l s) :=
  processWhere_keepsRanges fun w b t _ => (RangeKept.refl t).same (hp w b t) (hs w b t)

theorem processUnknown_keepsRanges (l : Link) (s : State) : KeepsRanges s (processUnknown l s) := by
  unfold processUnknown
  split
  next hf =>
    split
    · exact placeReply_keepsRanges _ (open_of_oldestOpen hf).2 (dropOldest_range l (.refl s))
    · exact .refl s
  next => exact .refl s

/-! ## Part resets (R22, R177) -/

theorem partReset_entry (c : ResetCause) (s : State) (r : Resource) :
    (partReset c s).entry r = { state := .free, waiting := [] } := by cases r <;> rfl

theorem partReset_port (c : ResetCause) (s : State) (l : Link) :
    (partReset c s).port l = resetPort c (s.port l).transfer := by cases l <;> rfl

/-- A part reset leaves every queue within its places, no lease, and the fast clock LOCKING in WAKING. -/
theorem partReset_ranges (c : ResetCause) (s : State) :
    QueueLaw (partReset c s) ∧ LeaseLaw (partReset c s) ∧ ClockLaw (partReset c s) := by
  refine ⟨⟨fun l => ?_, Nat.zero_le _, Nat.zero_le _⟩, fun r g hg => ?_, ⟨0, rfl⟩, nofun, Nat.zero_lt_succ _⟩
  · rw [partReset_port]
    simp [resetPort]
  · rw [partReset_entry] at hg
    cases hg

theorem partReset_keepsRanges (c : ResetCause) (s t : State) : KeepsRanges t (partReset c s) := by
  obtain ⟨hqueues, hleases, hclock⟩ := partReset_ranges c s
  exact ⟨fun _ => hqueues, fun _ => hleases, fun _ => hclock⟩

theorem processPartReset_keepsRanges (l : Link) (s : State) : KeepsRanges s (processPartReset l s) := by
  unfold processPartReset
  split
  · exact .refl s
  · split
    · exact .refl s
    · split
      · exact partReset_keepsRanges _ _ _
      · split
        next hm =>
          exact placeReply_keepsRanges _ (mayProcess_iff.mp hm).2 (dropOldest_range l (.refl s))
        next => exact .refl s

/-! ## Channels (R152 to R154, R162 to R164) -/

theorem unbindChannel_range (c : Fin 32) (h : RangeKept u s) : RangeKept u (unbindChannel c s) := by
  unfold unbindChannel
  split
  next => exact h
  next x _ =>
    exact (cancelFrom_range x.owner.link (.deliver c) (cancelFrom_range .r (.forward c) h)).same (by simp)
      ⟨by simp, by simp, by simp, by simp, by simp⟩

theorem retireChannel_range (n : Fin 16) (c : Fin 32) (h : RangeKept u s) : RangeKept u (retireChannel n s c) := by
  unfold retireChannel
  split
  · split
    · exact notifySubject_range _ _ (notifyLink_range _ _ (unbindChannel_range c h))
    · exact h
  · exact h

theorem restartChannel_range (l : Link) (c : Fin 32) (h : RangeKept u s) : RangeKept u (restartChannel l s c) := by
  unfold restartChannel
  split
  · exact notifyLink_range _ _ (unbindChannel_range c h)
  · exact h

theorem resetChannel_range (before : State) (c : Fin 32) (h : RangeKept u s) :
    RangeKept u (resetChannel before s c) := by
  unfold resetChannel
  split
  next x _ =>
    exact notifySubject_range _ _ ((cancelFrom_range x.owner.link (.deliver c) h).same (by simp)
      ⟨by simp, by simp, by simp, by simp, by simp⟩)
  next => exact h

theorem chBindHandler_range (l : Link) (w : Subject) (b : List Byte) (h : RangeKept u s) :
    RangeKept u (chBindHandler l w b s).1 := by
  have hbind (c : Fin 32) (x : Binding) : RangeKept u (bindChannel c x s) :=
    notifyLink_range _ _ (h.same (by simp) ⟨by simp, by simp, by simp, by simp, by simp⟩)
  unfold chBindHandler
  dsimp only
  (repeat' split) <;> first | exact h | exact hbind _ _

theorem chUnbindHandler_range (l : Link) (w : Subject) (b : List Byte) (h : RangeKept u s) :
    RangeKept u (chUnbindHandler l w b s).1 := by
  have hclosed (c : Fin 32) : RangeKept u (notifyClosedRad c .unbind (unbindChannel c s)) :=
    notifyLink_range _ _ (unbindChannel_range c h)
  unfold chUnbindHandler
  dsimp only
  (repeat' split) <;> first | exact h | exact hclosed _ | exact notifySubject_range _ _ (hclosed _)

/-! ## Policy and tenants (R31 to R39) -/

theorem policySetHandler_range (l : Link) (w : Subject) (b : List Byte) (h : RangeKept u s) :
    RangeKept u (policySetHandler l w b s).1 := by
  unfold policySetHandler
  dsimp only
  (repeat' split) <;> first
    | exact h
    | exact (rangeKept_keptByLeases u).policyEffects _ _ (h.same rfl ⟨rfl, rfl, rfl, rfl, rfl⟩)

theorem tenantEffects_range (n : Fin 16) (old new : TenantState) (h : RangeKept u s) :
    RangeKept u (tenantEffects n old new s) := by
  have hend : RangeKept u (if old = .active ∧ new ≠ .active then endAllStanding (.app n) s else s) := by
    split
    · exact (rangeKept_keptByLeases u).endAllStanding _ h
    · exact h
  unfold tenantEffects
  dsimp only
  split
  · exact List.foldlRecOn _ _ hend fun _ ht c _ => retireChannel_range n c ht
  · exact hend

theorem tenantSetHandler_range (l : Link) (w : Subject) (b : List Byte) (h : RangeKept u s) :
    RangeKept u (tenantSetHandler l w b s).1 := by
  unfold tenantSetHandler
  dsimp only
  (repeat' split) <;> first
    | exact h
    | exact tenantEffects_range _ _ _ (h.same rfl ⟨rfl, rfl, rfl, rfl, rfl⟩)

/-! ## Claims (R46 to R50) -/

theorem claimHandler_range (l : Link) (w : Subject) (b : List Byte) (h : RangeKept u s) :
    RangeKept u (claimHandler l w b s).1 := by
  have harrival : RangeKept u (takeArrival s).2 := h.same rfl ⟨rfl, rfl, rfl, rfl, rfl⟩
  have hfree (c : ClaimTerms) : RangeKept u (claimFree c s).1 := by
    unfold claimFree
    dsimp only
    split
    · exact enterTurnover_range .display .revoked (harrival.setWaiting _)
    · exact startGrant_range _ _ _ _ _ harrival
  have htaken (c : ClaimTerms) : RangeKept u (claimTaken c s).1 := by
    have hqueue : RangeKept u (claimQueue c s).1 := changeWaiting_range _ _ harrival
    have hpreempt (g : Grant) : RangeKept u (claimPreempt c g s).1 :=
      (rangeKept_keptByLeases u).revokeGrant _ _ _ (harrival.setWaiting _)
    unfold claimTaken
    dsimp only
    (repeat' split) <;> first | exact h | exact hqueue | exact hpreempt _
  unfold claimHandler decideClaim
  dsimp only
  (repeat' split) <;> first | exact h | exact hfree _ | exact htaken _

/-! ## The requests of a block (R18, R19, R107 to R109, R117, R170) -/

theorem conditionsHandler_range (l : Link) (w : Subject) (b : List Byte) (h : RangeKept u s) :
    RangeKept u (conditionsHandler l w b s).1 ∧ RangeKept u (conditionsEnableHandler l w b s).1 := by
  unfold conditionsHandler conditionsEnableHandler
  constructor <;> (repeat' split) <;> first | exact h | exact h.setPort (.same rfl rfl rfl)

/-- Bytes are appended only where the FIFO has room for all of them (R107). -/
theorem printHandler_range (l : Link) (w : Subject) (b : List Byte) (h : RangeKept u s) :
    RangeKept u (printHandler l w b s).1 := by
  unfold printHandler
  split
  · exact h
  · split
    · exact h
    · split
      · exact h
      next hroom =>
        refine beginCharacter_range (h.setPrinter ?_ id)
        simp only [PrinterPort.space, Config.printerPlaces] at hroom
        rw [List.length_append]
        omega

theorem printFlushHandler_range (l : Link) (w : Subject) (b : List Byte) (h : RangeKept u s) :
    RangeKept u (printFlushHandler l w b s).1 := by
  unfold printFlushHandler
  split
  · exact runPrinter_range (h.setPrinter (Nat.zero_le _) id)
  · exact h

theorem clExchangeHandler_range (l : Link) (w : Subject) (b : List Byte) (h : RangeKept u s) :
    RangeKept u (clExchangeHandler l w b s).1 := by
  have harmed (e n : Nat) (c : List Byte) : RangeKept u (armExchange w e n c s) :=
    judgeGate_range (armingJudgeAll_range (h.same rfl ⟨rfl, rfl, rfl, rfl, rfl⟩))
  unfold clExchangeHandler
  dsimp only
  (repeat' split) <;> first | exact h | exact harmed _ _ _

/-- A doze becomes pending in RUN alone (R8, R170). -/
theorem dozeHandler_range (l : Link) (w : Subject) (b : List Byte) (hrun : s.clock.regime = .run) :
    RangeKept s (dozeHandler l w b s).1 := by
  unfold dozeHandler
  split
  · exact .refl s
  · split
    · exact .refl s
    · refine ⟨fun _ => .refl _, le_max_right _ _, le_max_right _ _, fun hs => hs.congr rfl, fun hs => ?_⟩
      rw [clockLaw_iff] at hs ⊢
      exact ⟨hs.1, fun _ => hrun, hs.2.2⟩

/-! ## RESTART (R21, R64, R145, R163, R164) -/

theorem restartLink_range (l : Link) (h : RangeKept u s) : RangeKept u (restartLink l s) := by
  have hclear {t : State} (ht : RangeKept u t) :
      RangeKept u (t.setPort l { t.port l with replies := [], notices := [], conditions := 0 }) :=
    ht.setPort ⟨le_max_right _ _, Nat.zero_le _, Nat.zero_le _⟩
  unfold restartLink
  dsimp only
  split
  · exact cancelInFlight_range l (hclear (clearPending_range h))
  · exact cancelInFlight_range l (hclear h)

theorem restartEntry_range (l : Link) (r : Resource) (h : RangeKept u s) : RangeKept u (restartEntry l s r) := by
  unfold restartEntry
  extract_lets ws held
  split
  · exact enterTurnover_range r .revoked (h.setWaiting ws)
  · split
    · exact changeWaiting_range r _ h
    · exact h

theorem restartHandler_range (l : Link) (w : Subject) (b : List Byte) (h : RangeKept u s) :
    RangeKept u (restartHandler l w b s).1 := by
  have hcustody : RangeKept u (restartCustody l (restartLink l s)) := by
    have hlink := restartLink_range l h
    unfold restartCustody
    split
    · exact hlink
    · exact List.foldlRecOn _ _ hlink fun _ ht r _ => restartEntry_range l r ht
  have hrelay : RangeKept u (restartRelay l s (restartCustody l (restartLink l s))) := by
    unfold restartRelay
    split
    · exact List.foldlRecOn _ _ hcustody fun _ ht c _ => resetChannel_range s c ht
    · exact List.foldlRecOn _ _ hcustody fun _ ht c _ => restartChannel_range l c ht
  exact hrelay.same (by simp [restartHandler])
    ⟨by simp [restartHandler], by simp [restartHandler], by simp [restartHandler], by simp [restartHandler],
      by simp [restartHandler]⟩

/-! ## Every step -/

theorem after_keepsRanges (c : Instr) (s : State) : KeepsRanges s (after c s) := by
  have hkept (u : State) := rangeKept_keptByLeases u
  have hrefl := RangeKept.refl s
  cases c
  case restart l => exact processWhere_keepsRanges fun w b t _ => restartHandler_range l w b (.refl t)
  case policySet l => exact processWhere_keepsRanges fun w b t _ => policySetHandler_range l w b (.refl t)
  case tenantSet l => exact processWhere_keepsRanges fun w b t _ => tenantSetHandler_range l w b (.refl t)
  case claim l => exact processWhere_keepsRanges fun w b t _ => claimHandler_range l w b (.refl t)
  case release l => exact processWhere_keepsRanges fun w b t _ => (hkept t).releaseHandler l w b (.refl t)
  case withdraw l => exact processWhere_keepsRanges fun w b t _ => (hkept t).withdrawHandler l w b (.refl t)
  case renew l => exact processWhere_keepsRanges fun w b t _ => (hkept t).renewHandler l w b (.refl t)
  case setGrain l => exact processWhere_keepsRanges fun w b t _ => (hkept t).setGrainHandler l w b (.refl t)
  case hold l => exact processWhere_keepsRanges fun w b t _ => (hkept t).holdHandler l w b (.refl t)
  case resume l => exact processWhere_keepsRanges fun w b t _ => (hkept t).resumeHandler l w b (.refl t)
  case conditions l => exact processWhere_keepsRanges fun w b t _ => (conditionsHandler_range l w b (.refl t)).1
  case conditionsEnable l => exact processWhere_keepsRanges fun w b t _ => (conditionsHandler_range l w b (.refl t)).2
  case print l => exact processWhere_keepsRanges fun w b t _ => printHandler_range l w b (.refl t)
  case printFlush l => exact processWhere_keepsRanges fun w b t _ => printFlushHandler_range l w b (.refl t)
  case clExchange l => exact processWhere_keepsRanges fun w b t _ => clExchangeHandler_range l w b (.refl t)
  case chBind l => exact processWhere_keepsRanges fun w b t _ => chBindHandler_range l w b (.refl t)
  case chUnbind l => exact processWhere_keepsRanges fun w b t _ => chUnbindHandler_range l w b (.refl t)
  case doze l => exact processWhere_keepsRanges fun w b t hrun => dozeHandler_range l w b hrun
  case unknownKind l => exact processUnknown_keepsRanges l s
  case partReset l => exact processPartReset_keepsRanges l s
  case pinReset => exact partReset_keepsRanges .pin s s
  case powerUp => exact partReset_keepsRanges .power s s
  case transferStart l => exact (transferStart_range l hrefl).keepsRanges
  case outboundChoice l => exact (outboundChoice_range l hrefl).keepsRanges
  case frameComplete l => exact (frameComplete_range l hrefl).keepsRanges
  case frameReceived l b => simp only [after]; split; exacts [(moveByte_range l b hrefl).keepsRanges, .refl s]
  case frameLengthAbandoned l b => simp only [after]; split; exacts [(moveByte_range l b hrefl).keepsRanges, .refl s]
  case transferEnd l => exact (transferEnd_range l hrefl).keepsRanges
  case frameStall l => exact (frameStall_range l hrefl).keepsRanges
  case arrivingByte l a => exact (arrive_range l a hrefl).keepsRanges
  case quarterBoundary r => exact ((hkept s).quarterBoundary r hrefl).keepsRanges
  case heldQuarter r => exact ((hkept s).heldQuarter r hrefl).keepsRanges
  case keyScan contacts => exact (keyScan_range contacts hrefl).keepsRanges
  case holdTimerMatch => exact (holdTimerMatch_range hrefl).keepsRanges
  case fsyncEdge => exact (fsyncEdge_range hrefl).keepsRanges
  case forcedSwitch => exact (forcedSwitch_range hrefl).keepsRanges
  case prdyActive level => exact (prdyLevel_range level hrefl).keepsRanges
  case characterComplete => exact (characterComplete_range hrefl).keepsRanges
  case printerStall => exact (printerStall_range hrefl).keepsRanges
  case fieldResetExpiry => exact (fieldResetExpiry_range hrefl).keepsRanges
  case clfevEdge level => exact (clfevEdge_range level hrefl).keepsRanges
  case slotBoundary => exact (slotBoundary_range hrefl).keepsRanges
  case partTimeTick => exact (referenceCycles_range _ hrefl).keepsRanges
  case fastClockLock => exact (fastClockLock_range hrefl).keepsRanges
  case blinkTimer | writeComplete | clrdyActive | exchangeTimeout | abortComplete | readComplete | txRequestRise
      | txRequestFall =>
    exact (hrefl.same (by simp [after]) ⟨by simp [after], by simp [after], by simp [after], by simp [after],
      by simp [after]⟩).keepsRanges
  case matchSetup l =>
    refine quiet_keepsRanges (fun _ _ _ => by simp) fun w b t => ⟨?_, by simp, by simp, by simp, by simp⟩
    unfold matchSetupHandler
    dsimp only
    (repeat' split) <;> rfl
  case keySetup l =>
    refine quiet_keepsRanges (fun _ _ _ => by simp) fun w b t => ⟨?_, by simp, by simp, by simp, by simp⟩
    unfold keySetupHandler
    (repeat' split) <;> rfl
  case time | policyGet | tenantGet | custodyQuery | printSetup | clSetup | airMap | airQuery | chQuery | chQuerySummary
      | send | data =>
    exact quiet_keepsRanges (fun _ _ _ => by simp) fun _ _ _ =>
      ⟨by simp, by simp [printSetupHandler], by simp [printSetupHandler], by simp, by simp⟩

/-- Settles O53: every command and every reference cycle keeps each of the three laws. -/
theorem queuesLeasesAndRegimeStayInRange : Obligations.QueuesLeasesAndRegimeStayInRange := by
  have hcycle (s : State) : KeepsRanges s (referenceCycle s) := (referenceCycle_range (.refl s)).keepsRanges
  refine ⟨fun _ _ hstep hs => ?_, fun _ _ hstep hs => ?_, fun _ _ hstep hs => ?_⟩
  · exact step_keeps QueueLaw (fun _ _ h => h) (fun c s => (after_keepsRanges c s).queues) (fun s => (hcycle s).queues)
      hstep hs
  · exact step_keeps LeaseLaw (fun _ _ h => h) (fun c s => (after_keepsRanges c s).leases) (fun s => (hcycle s).leases)
      hstep hs
  · exact step_keeps ClockLaw (fun _ _ h => h) (fun c s => (after_keepsRanges c s).clock) (fun s => (hcycle s).clock)
      hstep hs

end Sys2Proof.Machine
end

section
/-! SUPPORT. The part resets (R22, R177): the state after reset is what a part reset of it leaves, so it meets every law
that a part reset brings about (O60). -/

namespace Sys2Proof.Machine

theorem partReset_reset : partReset .power State.reset = State.reset := rfl

/-- Settles O60: each law holds after every part reset, and so of the state after reset. -/
theorem resetMeetsEveryLaw : Obligations.ResetMeetsEveryLaw := by
  obtain ⟨hqueues, hleases, hclock⟩ := partReset_ranges .power State.reset
  obtain ⟨hcustody, hstanding⟩ := lawfulStanding_iff.mpr (partReset_standing .power State.reset)
  obtain ⟨hdisplay, hlamp⟩ := partReset_panel .power State.reset
  exact ⟨hqueues, hcustody, hstanding, hleases, partReset_keyLaw .power State.reset, hdisplay, hlamp,
    partReset_cardLaw .power State.reset, partReset_printerLaw .power State.reset, partReset_airLaw .power State.reset,
    partReset_poolLaw .power State.reset, hclock⟩

end Sys2Proof.Machine
end

section
/-! SUPPORT. The reach of each command (O2): no command touches the queue, or a block that the rules of its effect do not
name. -/

namespace Sys2Proof.Machine

variable {s t : State} {l : Link} {bs : List Block}

/-- The queue stands, and so does every block but the ones named. -/
def ChangesOnly (bs : List Block) (s t : State) : Prop := t.pending = s.pending ∧ ∀ b, b ∉ bs → b.same s t

/-- The same of the queue and of the blocks that are no port. -/
def ChangesOnlyBeyondPorts (bs : List Block) (s t : State) : Prop :=
  t.pending = s.pending ∧ (.clock ∉ bs → t.clock = s.clock) ∧ (.policy ∉ bs → t.policy = s.policy)
    ∧ (.tenants ∉ bs → t.tenants = s.tenants) ∧ (.custody ∉ bs → t.custody = s.custody)
    ∧ (.keys ∉ bs → t.keys = s.keys) ∧ (.display ∉ bs → t.display = s.display)
    ∧ (.printer ∉ bs → t.printer = s.printer) ∧ (.bridge ∉ bs → t.bridge = s.bridge)
    ∧ (.air ∉ bs → t.air = s.air) ∧ (.relay ∉ bs → t.relay = s.relay) ∧ (.lines ∉ bs → t.lines = s.lines)

theorem changesOnly_of (hports : ∀ k, .port k ∉ bs → t.port k = s.port k) (h : ChangesOnlyBeyondPorts bs s t) :
    ChangesOnly bs s t := by
  obtain ⟨hq, hclock, hpolicy, htenants, hcustody, hkeys, hdisplay, hprinter, hbridge, hair, hrelay, hlines⟩ := h
  refine ⟨hq, fun b hb => ?_⟩
  cases b
  exacts [(hclock hb).symm, (hports _ hb).symm, (hpolicy hb).symm, (htenants hb).symm, (hcustody hb).symm,
    (hkeys hb).symm, (hdisplay hb).symm, (hprinter hb).symm, (hbridge hb).symm, (hair hb).symm, (hrelay hb).symm,
    (hlines hb).symm]

/-- A command that leaves the ports as they stand. -/
theorem changesOnly_of_ports (hports : t.ports = s.ports) (h : ChangesOnlyBeyondPorts bs s t) : ChangesOnly bs s t :=
  changesOnly_of (fun k _ => port_congr hports k) h

/-- A command that may reach every port. -/
theorem changesOnly_of_all (hports : ∀ k, .port k ∈ bs) (h : ChangesOnlyBeyondPorts bs s t) : ChangesOnly bs s t :=
  changesOnly_of (fun k hk => absurd (hports k) hk) h

theorem Block.same_refl (b : Block) (s : State) : b.same s s := by cases b <;> rfl

theorem Block.same_trans {b : Block} {u : State} (h : b.same s t) (h' : b.same t u) : b.same s u := by
  cases b <;> exact Eq.trans h h'

theorem ChangesOnly.refl (bs : List Block) (s : State) : ChangesOnly bs s s := ⟨rfl, fun b _ => b.same_refl s⟩

theorem ChangesOnly.trans {u : State} (h : ChangesOnly bs s t) (h' : ChangesOnly bs t u) : ChangesOnly bs s u :=
  ⟨h'.1.trans h.1, fun b hb => Block.same_trans (h.2 b hb) (h'.2 b hb)⟩

@[simp] theorem mem_portBlocks (b : Block) : b ∈ portBlocks ↔ ∃ k, b = .port k := by
  constructor
  · intro h
    simp only [portBlocks, List.mem_cons, List.not_mem_nil, or_false] at h
    rcases h with rfl | rfl | rfl <;> exact ⟨_, rfl⟩
  · rintro ⟨k, rfl⟩
    cases k <;> decide

/-! ## Requests -/

theorem setPort_changesOnly (hl : .port l ∈ bs) (p : Port) : ChangesOnly bs s (s.setPort l p) := by
  refine changesOnly_of (fun k hk => setPort_port_other _ _ _ _ ?_) (by simp [ChangesOnlyBeyondPorts])
  rintro rfl
  exact hk hl

/-- A request changes what its handler changes, and its own port (R8). -/
theorem processWhere_changesOnly {mine : Frame → Bool} {k : ReqKind} {handler : Handler} (hl : .port l ∈ bs)
    (hh : ∀ w b t, ChangesOnly bs t (handler l w b t).1) : ChangesOnly bs s (processWhere mine k handler l s) :=
  processWhere_invariant (ChangesOnly bs s) (fun _ _ ht => ht.trans (setPort_changesOnly hl _))
    (fun _ _ _ ht => ht.trans (hh _ _ _)) (.refl bs s)

theorem conditionsHandler_changesOnly (l : Link) (w : Subject) (b : List Byte) (s : State) :
    ChangesOnly [.port l] s (conditionsHandler l w b s).1
      ∧ ChangesOnly [.port l] s (conditionsEnableHandler l w b s).1 := by
  unfold conditionsHandler conditionsEnableHandler
  constructor <;> (repeat' split) <;> first
    | exact .refl _ s
    | exact setPort_changesOnly (List.mem_singleton_self _) _

theorem clExchangeHandler_port_other (l : Link) (w : Subject) (b : List Byte) (s : State) {k : Link} (hk : k ≠ .p) :
    (clExchangeHandler l w b s).1.port k = s.port k := by
  have harmed (e n : Nat) (c : List Byte) : (armExchange w e n c s).port k = s.port k := by
    rw [armExchange, port_congr (judgeGate_frame _).2.1, armingJudgeAll_port_other k _ hk]
    rfl
  unfold clExchangeHandler
  dsimp only
  (repeat' split) <;> first | rfl | exact harmed _ _ _

theorem chBindHandler_port_other (l : Link) (w : Subject) (b : List Byte) (s : State) {k : Link} (hk : k ≠ .r) :
    (chBindHandler l w b s).1.port k = s.port k := by
  have hbind (c : Fin 32) (x : Binding) : (bindChannel c x s).port k = s.port k := notifyLink_port_other _ _ _ _ hk
  unfold chBindHandler
  dsimp only
  (repeat' split) <;> first | rfl | exact hbind _ _

/-- A RESTART of the R-link leaves custody (R64). -/
@[simp] theorem restartCustody_r (s : State) : restartCustody .r s = s := rfl

theorem restartHandler_r_changesOnly (w : Subject) (b : List Byte) (s : State) :
    ChangesOnly (reach (.restart .r)) s (restartHandler .r w b s).1 := by
  have hlink : ChangesOnly (reach (.restart .r)) s (restartLink .r s) :=
    changesOnly_of_all (by simp [reach]) (by simp [ChangesOnlyBeyondPorts, reach])
  have hrelay (t : State) : ChangesOnly (reach (.restart .r)) t (restartRelay .r s t) :=
    changesOnly_of_all (by simp [reach]) (by simp [ChangesOnlyBeyondPorts, reach])
  have hair (t : State) : ChangesOnly (reach (.restart .r)) t (restartAir .r t) :=
    changesOnly_of_all (by simp [reach]) (by simp [ChangesOnlyBeyondPorts, reach])
  simp only [restartHandler, restartCustody_r]
  exact (hlink.trans (hrelay _)).trans (hair _)

/-! ## Commands that reach the ports of their own link and of the P-link -/

theorem slotBoundary_port_other (s : State) {k : Link} (hk : k ≠ .p) : (slotBoundary s).port k = s.port k := by
  unfold slotBoundary
  split
  · rw [port_congr (judgeGate_frame _).2.1, boundaryJudgeAll_port_other k _ hk]
    rfl
  · rfl

/-- A byte and an edge reach what a transfer reaches, and the relay, whose block the choice may send (R13). -/
theorem arrive_changesOnly (l : Link) (a : Arrival) (s : State) :
    ChangesOnly (transferBlocks l ++ [.relay]) s (arrive l a s) :=
  changesOnly_of (fun k hk => arrive_port_other l k a s (by rintro rfl; simp [transferBlocks] at hk)
      (by rintro rfl; simp [transferBlocks] at hk))
    (by simp [ChangesOnlyBeyondPorts, transferBlocks])

/-! ## Every command -/

theorem after_changesOnly (c : Instr) (s : State) : ChangesOnly (reach c) s (after c s) := by
  cases c
  case time | policyGet | tenantGet | custodyQuery | airQuery | chQuery | chQuerySummary | renew | setGrain | hold
      | resume | keySetup | matchSetup | print | printSetup | clSetup | airMap | send | data | doze =>
    exact processWhere_changesOnly (by simp [reach]) fun w b t =>
      changesOnly_of_ports (by simp) (by simp [ChangesOnlyBeyondPorts, reach])
  case policySet | tenantSet | claim | release | withdraw | printFlush | chUnbind =>
    exact processWhere_changesOnly (by simp [reach, turnoverBlocks]) fun w b t =>
      changesOnly_of_all (by simp [reach, turnoverBlocks]) (by simp [ChangesOnlyBeyondPorts, reach, turnoverBlocks])
  case conditions l =>
    exact processWhere_changesOnly (by simp [reach]) fun w b t => (conditionsHandler_changesOnly l w b t).1
  case conditionsEnable l =>
    exact processWhere_changesOnly (by simp [reach]) fun w b t => (conditionsHandler_changesOnly l w b t).2
  case clExchange l =>
    exact processWhere_changesOnly (by simp [reach]) fun w b t => changesOnly_of
      (fun k hk => clExchangeHandler_port_other l w b t (by rintro rfl; simp [reach] at hk))
      (by simp [ChangesOnlyBeyondPorts, reach])
  case chBind l =>
    exact processWhere_changesOnly (by simp [reach]) fun w b t => changesOnly_of
      (fun k hk => chBindHandler_port_other l w b t (by rintro rfl; simp [reach] at hk))
      (by simp [ChangesOnlyBeyondPorts, reach])
  case restart l =>
    cases l with
    | r => exact processWhere_changesOnly (by simp [reach]) fun w b t => restartHandler_r_changesOnly w b t
    | p | a =>
      exact processWhere_changesOnly (by simp [reach, turnoverBlocks]) fun w b t =>
        changesOnly_of_all (by simp [reach, turnoverBlocks]) (by simp [ChangesOnlyBeyondPorts, reach, turnoverBlocks])
  case partReset | pinReset | powerUp =>
    exact changesOnly_of_all (by simp [reach, turnoverBlocks])
      (by simp [ChangesOnlyBeyondPorts, reach, turnoverBlocks, after, partReset])
  case quarterBoundary | heldQuarter | keyScan | holdTimerMatch | fsyncEdge | forcedSwitch | characterComplete
      | printerStall | fieldResetExpiry | clfevEdge | partTimeTick | fastClockLock =>
    exact changesOnly_of_all (by simp [reach, turnoverBlocks])
      (by simp [ChangesOnlyBeyondPorts, reach, turnoverBlocks, after])
  case blinkTimer | prdyActive | writeComplete | clrdyActive | exchangeTimeout | abortComplete | readComplete
      | txRequestRise | txRequestFall =>
    exact changesOnly_of_ports (by simp [after]) (by simp [ChangesOnlyBeyondPorts, reach, after])
  case slotBoundary =>
    exact changesOnly_of (fun k hk => slotBoundary_port_other s (by rintro rfl; simp [reach] at hk))
      (by simp [ChangesOnlyBeyondPorts, reach, after])
  case arrivingByte l a => exact arrive_changesOnly l a s
  case frameReceived l b => simp only [after]; split; exacts [arrive_changesOnly l (.byte b) s, .refl _ s]
  case frameLengthAbandoned l b => simp only [after]; split; exacts [arrive_changesOnly l (.byte b) s, .refl _ s]
  case frameComplete l =>
    exact changesOnly_of (fun k hk => frameComplete_port_other l k s (by rintro rfl; simp [reach, transferBlocks] at hk)
      (by rintro rfl; simp [reach, transferBlocks] at hk)) (by simp [ChangesOnlyBeyondPorts, reach, transferBlocks, after])
  case transferEnd l =>
    exact changesOnly_of (fun k hk => transferEnd_port_other l k s (by rintro rfl; simp [reach, transferBlocks] at hk)
      (by rintro rfl; simp [reach, transferBlocks] at hk)) (by simp [ChangesOnlyBeyondPorts, reach, transferBlocks, after])
  case outboundChoice l =>
    exact changesOnly_of (fun k hk => outboundChoice_port_other l k s (by rintro rfl; simp [reach] at hk))
      (by simp [ChangesOnlyBeyondPorts, reach, after])
  case transferStart l =>
    exact changesOnly_of (fun k hk => transferStart_port_other l k s (by rintro rfl; simp [reach] at hk))
      (by simp [ChangesOnlyBeyondPorts, reach, after])
  case frameStall l =>
    exact changesOnly_of (fun k hk => frameStall_port_other l k s (by rintro rfl; simp [reach] at hk))
      (by simp [ChangesOnlyBeyondPorts, reach, after])
  case unknownKind l =>
    exact changesOnly_of (fun k hk => processUnknown_port_other l k s (by rintro rfl; simp [reach] at hk))
      (by simp [ChangesOnlyBeyondPorts, reach, after])

/-- Settles O2: each command's operation changes the ports and the blocks of its reach alone. -/
theorem commandsKeepWithinTheirReach : Obligations.CommandsKeepWithinTheirReach :=
  fun c s => ⟨after c s, exec_after c s, (after_changesOnly c s).1, (after_changesOnly c s).2⟩

end Sys2Proof.Machine
end

section
/-! SUPPORT. The processing of a request whose kind is assigned or not (R8 to R10): the row of each kind, the first
failing admission check, and the requests of every link (R18 to R20). -/

namespace Sys2Proof.Machine

variable {s t : State} {l : Link} {f : Frame} {k : ReqKind}

/-! ## The row of a request kind -/

/-- Every row but PART_RESET's is the shared processing, for the frames it is for. -/
theorem requestRow_processWhere (f : Frame) (hk : k ≠ .partReset) :
    ∃ (mine : Frame → Bool) (handler : Handler), (f.kind = k.code → mine f = true)
      ∧ ∀ l s, exec (requestRow k f l) s = .next (processWhere mine k handler l s) := by
  have hmine (h : f.kind = k.code) : f.isKind k = true := by simp [Frame.isKind, h, reqKindOf_code]
  cases k
  case partReset => exact absurd rfl hk
  case chQuery =>
    by_cases hb : f.body = summaryBody
    · exact ⟨fun f => f.isKind .chQuery && f.body == summaryBody, chQuerySummaryHandler, fun h => by simp [hmine h, hb],
        fun l s => by rw [requestRow, if_pos hb, exec_after]; rfl⟩
    · exact ⟨fun f => f.isKind .chQuery && f.body != summaryBody, chQueryHandler, fun h => by simp [hmine h, hb],
        fun l s => by rw [requestRow, if_neg hb, exec_after]; rfl⟩
  all_goals exact ⟨_, _, hmine, fun _ _ => rfl⟩

/-- A request that fails an admission check is refused with that check's code (R9). -/
theorem requestRow_refuses {code : ReplyCode} (h : Waiting l f s) (hk : f.kind = k.code)
    (hc : admission k l f = some code) : exec (requestRow k f l) s = .next (refused l f code s) := by
  by_cases hreset : k = .partReset
  case pos =>
    subst hreset
    obtain ⟨hrun, hslot, hhead⟩ := h
    obtain ⟨rest, hrx⟩ := List.head?_eq_some_iff.mp hhead
    have hopen : s.mayProcess l = true := mayProcess_iff.mpr ⟨hrun, hslot⟩
    have hkind : ¬ (reqKindOf f.kind ≠ some .partReset ∨ s.running = false) := by
      simp [hk, reqKindOf_code, State.running, hrun]
    have hrefused : processPartReset l s = refused l f code s := by
      simp only [processPartReset, hrx, if_neg hkind, hc, hopen, if_true]
      rfl
    exact congrArg _ hrefused
  case neg =>
    obtain ⟨mine, handler, hmine, hrow⟩ := requestRow_processWhere f hreset
    rw [hrow, processWhere, oldestOpen_of_waiting h]
    simp only [hmine hk, if_true, processFrame, hc]
    rfl

/-! ## Where processing is closed -/

/-- Processing is closed at a link outside RUN, with no slot free, and on an empty receive buffer (R8). -/
theorem oldestOpen_of_closed
    (h : s.clock.regime ≠ .run ∨ 4 ≤ (s.port l).replies.length ∨ (s.port l).rxBuffer = []) : s.oldestOpen l = none := by
  rw [Option.eq_none_iff_forall_ne_some]
  intro f hf
  obtain ⟨hrun, hslots⟩ := open_of_oldestOpen hf
  rcases h with hregime | hfull | hempty
  · exact hregime hrun
  · omega
  · simp [State.oldestOpen, hempty] at hf

theorem processWhere_of_closed {mine : Frame → Bool} {handler : Handler} (h : s.oldestOpen l = none) :
    processWhere mine k handler l s = s := by rw [processWhere, h]

theorem processUnknown_of_closed (h : s.oldestOpen l = none) : processUnknown l s = s := by rw [processUnknown, h]

theorem requestRow_of_closed (f : Frame) (hk : k ≠ .partReset) (h : s.oldestOpen l = none) :
    exec (requestRow k f l) s = .next s := by
  obtain ⟨mine, handler, -, hrow⟩ := requestRow_processWhere f hk
  rw [hrow, processWhere_of_closed h]

/-! ## A frame of no assigned kind -/

theorem reqKindOf_eq_none {b : Byte} (h : ∀ k : ReqKind, b ≠ k.code) : reqKindOf b = none := by
  rw [reqKindOf, List.find?_eq_none]
  intro k _ hk
  exact h k (eq_of_beq hk).symm

theorem processUnknown_waiting (h : Waiting l f s) (hk : ∀ k : ReqKind, f.kind ≠ k.code) :
    processUnknown l s = placeReply l (unknownKindReply f) (dropOldest l s) := by
  simp [processUnknown, oldestOpen_of_waiting h, reqKindOf_eq_none hk]

/-! ## Admission (R9) -/

/-- The tenant field a link allows (R9, checks 2 and 3). -/
abbrev TenantFits (l : Link) (tenant : Byte) : Prop := if l = .a then tenant.toNat < 16 else tenant = 0

theorem admission_tenant (k : ReqKind) (h : ¬ TenantFits l f.tenant) : admission k l f = some .badRequest := by
  unfold TenantFits at h
  split at h
  next hl => rw [admission, if_neg (fun hc => hc.1 hl), if_pos ⟨hl, Nat.not_lt.mp h⟩]
  next hl => rw [admission, if_pos ⟨hl, h⟩]

theorem admission_fits (k : ReqKind) (h : TenantFits l f.tenant) : admission k l f =
    if ¬ k.permitted l f.tenant then some .notPermitted
    else if ¬ k.lengthOk f.body.length then some .badRequest else none := by
  unfold TenantFits at h
  split at h
  next hl => rw [admission, if_neg (fun hc => hc.1 hl), if_neg (fun hc => absurd hc.2 (Nat.not_le.mpr h))]
  next hl => rw [admission, if_neg (fun hc => hc.2 h), if_neg (fun hc => hl hc.1)]

theorem admission_notPermitted (h : TenantFits l f.tenant) (hp : k.permitted l f.tenant = false) :
    admission k l f = some .notPermitted := by rw [admission_fits k h, if_pos (by simp [hp])]

theorem admission_length (h : TenantFits l f.tenant) (hp : k.permitted l f.tenant = true)
    (hn : k.lengthOk f.body.length = false) : admission k l f = some .badRequest := by
  rw [admission_fits k h, if_neg (not_not.mpr hp), if_pos (by simp [hn])]

/-- Settles O14: the first failing check, for the row of every kind, and the closed processing. -/
theorem admissionRefusesInOrder : Obligations.AdmissionRefusesInOrder := by
  refine ⟨⟨fun k l f s h hk => ⟨fun ht => ?_, fun ht hp => ?_, fun ht hp hn => ?_⟩, fun l f s h hk => ?_⟩,
    fun k l f s hk hclosed => ?_⟩
  · exact requestRow_refuses h hk (admission_tenant k ht)
  · exact requestRow_refuses h hk (admission_notPermitted ht hp)
  · exact requestRow_refuses h hk (admission_length ht hp hn)
  · exact congrArg _ (processUnknown_waiting h hk)
  · have hnone := oldestOpen_of_closed hclosed
    exact ⟨requestRow_of_closed f hk hnone, congrArg _ (processUnknown_of_closed hnone)⟩

/-! ## TIME (R20) -/

/-- Settles O15: TIME is permitted everywhere, and its reply is part time. -/
theorem timeAnswersPartTime : Obligations.TimeAnswersPartTime := by
  intro l f s h hk hb htenant
  have hadmitted : Admitted .time l f s := ⟨h, hk, htenant, rfl, by rw [hb]; rfl⟩
  exact congrArg _ (processRequest_admitted hadmitted rfl)

/-! ## CONDITIONS and CONDITIONS_ENABLE (R18, R19) -/

theorem maskOf_of_lt {hi lo : Byte} (h : number2 hi lo < 1024) :
    maskOf hi lo = some (BitVec.ofNat 10 (number2 hi lo)) := if_pos h

theorem maskOf_of_le {hi lo : Byte} (h : 1024 ≤ number2 hi lo) : maskOf hi lo = none := if_neg (Nat.not_lt.mpr h)

theorem bytes2_number2 (hi lo : Byte) : bytes2 (number2 hi lo) = [hi, lo] := by
  have hlo := lo.isLt
  simp only [bytes2, number2, byte, List.cons.injEq, and_true]
  constructor <;> apply BitVec.eq_of_toNat_eq <;> simp <;> omega

theorem overrunStands_iff : s.overrunStands = true ↔
    s.air.grants.cell = .overrun ∨ s.air.grants.wlan = .overrun ∨ s.air.grants.bt = .overrun := by
  simp [State.overrunStands, allRadio, State.overrunMark, PerRadio.get]

theorem dropOldest_conditions (l : Link) (s : State) : ((dropOldest l s).port l).conditions = (s.port l).conditions := by
  rw [dropOldest, setPort_port_self]

/-- The clear set leaves, and RADIO_OVERRUN stands again on the P-link while a function carries its mark. -/
theorem conditionsAfter_dropOldest (l : Link) (clear : BitVec 10) (s : State) :
    (dropOldest l s).conditionsAfter l clear =
      if l = .p ∧ (s.port l).conditions &&& clear &&& 0x080 ≠ 0
          ∧ (s.air.grants.cell = .overrun ∨ s.air.grants.wlan = .overrun ∨ s.air.grants.bt = .overrun) then
        (s.port l).conditions &&& ~~~clear ||| 0x080
      else (s.port l).conditions &&& ~~~clear := by
  have hstands : (dropOldest l s).overrunStands = s.overrunStands := rfl
  rw [State.conditionsAfter, dropOldest_conditions, hstands]
  exact if_congr (and_congr_right' (and_congr bne_iff_ne overrunStands_iff)) rfl rfl

theorem conditions_reply {hi lo : Byte} {body : List Byte} (h : Admitted .conditions l f s) (hb : f.body = [hi, lo])
    (hh : conditionsHandler l (requester l f.tenant) [hi, lo] (dropOldest l s) = (t, body)) :
    exec (.conditions l) s = .next (placeReply l (replyFrame f body) t) :=
  congrArg _ (processRequest_admitted h (hb ▸ hh))

theorem conditionsEnable_reply {hi lo : Byte} {body : List Byte} (h : Admitted .conditionsEnable l f s)
    (hb : f.body = [hi, lo])
    (hh : conditionsEnableHandler l (requester l f.tenant) [hi, lo] (dropOldest l s) = (t, body)) :
    exec (.conditionsEnable l) s = .next (placeReply l (replyFrame f body) t) :=
  congrArg _ (processRequest_admitted h (hb ▸ hh))

/-- Settles O16: both requests, with a mask that is refused and one that is taken. -/
theorem conditionSetsAreReadAndReplaced : Obligations.ConditionSetsAreReadAndReplaced := by
  refine ⟨fun l f hi lo s h hb => ⟨fun hmask => ?_, fun hmask => ?_⟩,
    fun l f hi lo s h hb => ⟨fun hmask => ?_, fun hmask => ?_⟩⟩
  · exact conditions_reply h hb (by simp only [conditionsHandler, maskOf_of_le hmask, refuse])
  · dsimp only
    rw [← conditionsAfter_dropOldest]
    exact conditions_reply h hb (by
      simp only [conditionsHandler, maskOf_of_lt hmask, dropOldest_conditions, maskBytes])
  · exact conditionsEnable_reply h hb (by simp only [conditionsEnableHandler, maskOf_of_le hmask, refuse])
  · have hecho : maskBytes (BitVec.ofNat 10 (number2 hi lo)) = [hi, lo] := by
      rw [maskBytes, BitVec.toNat_ofNat, Nat.mod_eq_of_lt hmask, bytes2_number2]
    exact conditionsEnable_reply h hb (by simp only [conditionsEnableHandler, maskOf_of_lt hmask, hecho])

end Sys2Proof.Machine
end

section
/-! SUPPORT. One millisecond of part time, block by block (R168; O4). -/

namespace Sys2Proof.Machine

variable {s : State}

/-! ## Timers (log entry 4) -/

theorem Timer.tick_below {limit : Nat} {t : Timer} (h : t.elapsed + 1 < limit) :
    t.tick limit = { elapsed := t.elapsed + 1, due := false } := if_pos h

theorem Timer.tick_reached {limit : Nat} {t : Timer} (h : limit ≤ t.elapsed + 1) : t.tick limit = { t with due := true } :=
  if_neg (Nat.not_lt.mpr h)

theorem mapGrant_waiting (f : Grant → Grant) (e : CustodyEntry) : (e.mapGrant f).waiting = e.waiting := by
  unfold CustodyEntry.mapGrant; split <;> rfl

theorem mapGrant_standing {f : Grant → Grant} (hf : ∀ g, (f g).hold.isSome = g.hold.isSome) (e : CustodyEntry) :
    (e.mapGrant f).standing = e.standing := by
  unfold CustodyEntry.mapGrant
  split
  next g hg => simp only [CustodyEntry.standing, hg, hf]
  next => rfl

/-! ## The grants of a millisecond (R67, R73) -/

theorem Grant.tick_hold_isSome (m : Regime) (g : Grant) : (g.tick m).hold.isSome = g.hold.isSome := by
  unfold Grant.tick
  split
  next h => split <;> simp [h]
  next h => split <;> simp [h]
  next => rfl

/-! ## The blocks of a millisecond -/

theorem millisecond_entry (s : State) (r : Resource) :
    (millisecond s).entry r = (s.entry r).mapGrant (Grant.tick s.clock.regime) := by
  unfold millisecond
  rw [mapGrants_entry]
  rfl

theorem millisecond_port (s : State) (l : Link) : (millisecond s).port l = (s.port l).tick := by cases l <;> rfl

theorem Port.tick_eq (p : Port) : p.tick = { p with receiver := match p.receiver with
    | .inFrame bs stall => .inFrame bs (stall.tick 20)
    | other => other } := by
  obtain ⟨receiver, _, _, _, _, _, _, _, _⟩ := p
  cases receiver <;> rfl

theorem KeyUnit.tick_scan (m : Regime) (now : BitVec 32) (k : KeyUnit) : k.tick m now = { k with
    holdTimer := k.holdTimer.map (Timer.tick k.matching.holdTime)
    scanDue := decide (now.toNat % (if m = .run then 4 else 32) = 0) } := rfl

/-- Settles O4: a timer's two cases, and each block of `millisecond`. -/
theorem millisecondRunsItsTimers : Obligations.MillisecondRunsItsTimers := by
  refine ⟨fun limit t => ⟨Timer.tick_below, Timer.tick_reached⟩, fun s => ⟨millisecond s, rfl, rfl, fun r => ?_,
    fun r g hg => ?_, fun l => ?_, KeyUnit.tick_scan _ _ _, rfl, rfl, rfl, rfl, rfl, rfl, rfl, rfl, rfl, rfl⟩⟩
  · rw [millisecond_entry]
    exact ⟨mapGrant_waiting _ _, mapGrant_standing (Grant.tick_hold_isSome _) _⟩
  · rw [millisecond_entry, mapGrant_grant, hg]
    rfl
  · exact (millisecond_port s l).trans (Port.tick_eq _)

end Sys2Proof.Machine
end

section
/-! SUPPORT. What a part reset leaves in every block (R22, R24, R28, R177 and the tables at the heads of the chapters;
O18, O19). -/

namespace Sys2Proof.Machine

variable {s t : State} {f : Frame} {l : Link}

/-! ## The three causes (R22) -/

/-- An admitted PART_RESET resets the part, whether or not a reply slot is free. -/
theorem processPartReset_admitted (hrun : s.clock.regime = .run) (hhead : (s.port .p).rxBuffer.head? = some f)
    (hkind : f.kind = 0x05) (htenant : f.tenant = 0) (hbody : f.body = []) :
    processPartReset .p s = partReset .request s := by
  obtain ⟨rest, hrx⟩ := List.head?_eq_some_iff.mp hhead
  have hmine : ¬ (reqKindOf f.kind ≠ some .partReset ∨ s.running = false) := by
    rw [hkind, show (0x05 : Byte) = ReqKind.partReset.code from rfl, reqKindOf_code]
    simp [State.running, hrun]
  have hadmitted : admission .partReset .p f = none := by
    rw [admission_fits .partReset (l := .p) htenant, hbody]
    rfl
  simp only [processPartReset, hrx, if_neg hmine, hadmitted]

/-- Settles O18: each cause is the part reset of that cause. -/
theorem partResetFromEveryCause : Obligations.PartResetFromEveryCause :=
  ⟨fun _ => rfl, fun _ => rfl, fun _ _ hrun hhead hkind htenant hbody =>
    congrArg _ (processPartReset_admitted hrun hhead hkind htenant hbody)⟩

/-! ## The values (R24, R28) -/

theorem partReset_clock (cause : ResetCause) (s : State) : (partReset cause s).clock = resetClock := rfl

theorem partReset_port_empty (cause : ResetCause) (s : State) (l : Link) :
    ((partReset cause s).port l).rxBuffer = [] ∧ ((partReset cause s).port l).replies = []
      ∧ ((partReset cause s).port l).inFlight = none ∧ ((partReset cause s).port l).lastRx = .taken
      ∧ ((partReset cause s).port l).conditions = 0 ∧ ((partReset cause s).port l).enables = 0x3FF
      ∧ ((partReset cause s).port l).notices = [{ tenant := 0, body := .started cause }] := by
  cases l <;> exact ⟨rfl, rfl, rfl, rfl, rfl, rfl, rfl⟩

theorem onAll_get {α : Type} (x : α) (r : Resource) : (onAll x).get r = x := by cases r <;> rfl

theorem partReset_policyOf (cause : ResetCause) (s : State) (r : Resource) :
    (partReset cause s).policyOf .pay r = payDefault ∧ (partReset cause s).policyOf (.app 0) r = platformDefault
      ∧ (∀ n : Fin 16, n ≠ 0 → (partReset cause s).policyOf (.app n) r = tenantDefault)
      ∧ (partReset cause s).policyOf .rad r = radFixed := by
  refine ⟨onAll_get _ r, onAll_get _ r, fun n hn => ?_, onAll_get _ r⟩
  have hrow : resetPolicy.row (.app n) = onAll tenantDefault := by
    simp [PolicyTable.row, resetPolicy, Fin.val_eq_zero_iff, eq_comm, hn]
  exact (congrArg (·.get r) hrow).trans (onAll_get _ r)

theorem partReset_tenant (cause : ResetCause) (s : State) (n : Fin 16) (hn : n ≠ 0) :
    (partReset cause s).tenant n = { state := .retired, allowance := 0 } := by
  simp [State.tenant, partReset, resetTenants, hn, eq_comm]

theorem partReset_keys (cause : ResetCause) (s : State) (i : Fin 24) :
    (partReset cause s).keys.keys[i] = { standing := .up, count := 0 } := by
  simp [partReset, resetKeys]

theorem resetRadioGrant_cases (g : RadioGrant) : resetRadioGrant g = .idle ∨ resetRadioGrant g = .waiting := by
  unfold resetRadioGrant
  split
  · exact .inl rfl
  · exact .inr rfl

theorem partReset_grant (cause : ResetCause) (s : State) (fn : RadioFn) :
    (partReset cause s).air.grants.get fn = .idle ∨ (partReset cause s).air.grants.get fn = .waiting := by
  cases fn <;> exact resetRadioGrant_cases _

theorem partReset_channel (cause : ResetCause) (s : State) (c : Fin 32) :
    (partReset cause s).channel c = { number := 0, binding := none } := by
  simp [State.channel, partReset, resetRelay]

theorem partReset_lastServed (cause : ResetCause) (s : State) (l : Link) (level : Fin 4) :
    ((partReset cause s).relay.lastServed.get l)[level] = 31 := by
  cases l <;> simp [partReset, resetRelay, PerLink.get]

/-- State.reset, and the state after each cause, is a part reset. -/
theorem partReset_of_cause (h : t = State.reset ∨ exec .pinReset s = .next t ∨ exec .powerUp s = .next t
      ∨ (s.clock.regime = .run ∧ exec (.partReset .p) s = .next t
        ∧ ∃ f, (s.port .p).rxBuffer.head? = some f ∧ f.kind = 0x05 ∧ f.tenant = 0 ∧ f.body = [])) :
    ∃ cause u, t = partReset cause u := by
  rcases h with rfl | h | h | ⟨hrun, h, f, hhead, hkind, htenant, hbody⟩
  · exact ⟨.power, State.reset, partReset_reset.symm⟩
  · exact ⟨.pin, s, exec_next h⟩
  · exact ⟨.power, s, exec_next h⟩
  · exact ⟨.request, s, (exec_next h).trans (processPartReset_admitted hrun hhead hkind htenant hbody)⟩

/-- A RESTART leaves policy and tenant records (R21). -/
theorem restart_keeps_policy (h : exec (.restart l) s = .next t) : t.policy = s.policy ∧ t.tenants = s.tenants := by
  have hafter : t = processRequest .restart restartHandler l s := exec_next h
  have hpolicy := processWhere_keeps (·.policy) l (fun _ _ => rfl) (Frame.isKind .restart) .restart restartHandler
    (fun w b u => (restartHandler_frame l w b u).1) s
  have htenants := processWhere_keeps (·.tenants) l (fun _ _ => rfl) (Frame.isKind .restart) .restart restartHandler
    (fun w b u => (restartHandler_frame l w b u).2.1) s
  rw [hafter]
  exact ⟨hpolicy, htenants⟩

/-- Settles O19: the values of a part reset, block by block, and the frame of RESTART. -/
theorem resetValuesOfEveryBlock : Obligations.ResetValuesOfEveryBlock := by
  refine ⟨fun s t h => ?_, fun l s t => restart_keeps_policy⟩
  obtain ⟨cause, u, rfl⟩ := partReset_of_cause h
  refine ⟨partReset_clock _ _, fun l => ?_, partReset_policyOf cause u, rfl, partReset_tenant cause u, fun r => ?_,
    rfl, rfl, partReset_keys cause u, rfl, rfl, rfl, rfl, rfl, rfl, rfl, rfl, rfl, rfl, rfl, rfl, rfl, rfl,
    partReset_grant cause u, partReset_channel cause u, partReset_lastServed cause u⟩
  · obtain ⟨hrx, hreplies, hflight, hlast, hconditions, henables, hnotices⟩ := partReset_port_empty cause u l
    exact ⟨hrx, hreplies, hflight, hlast, hconditions, henables, cause, hnotices⟩
  · exact onAll_get _ r

end Sys2Proof.Machine
end

section
/-! SUPPORT. The start of a transfer, the status byte and the attention line (R2, R4, R17; O7). -/

namespace Sys2Proof.Machine

variable {s : State} {l : Link}

/-! ## What waits for a link (R17) -/

theorem keySource_isSome :
    (s.keySource l).isSome = true ↔ s.keys.fifo ≠ [] ∧ (s.holder .keypad).map Subject.link = some l := by
  unfold State.keySource
  split
  next h hh => split <;> simp_all [and_comm]
  next hh => simp [hh]

theorem resultSource_isSome :
    (s.resultSource l).isSome = true ↔ s.bridge.slot ≠ none ∧ (s.holder .cless).map Subject.link = some l := by
  unfold State.resultSource
  split
  next h x hh hx => split <;> simp_all
  next hno =>
    cases hx : s.bridge.slot
    case none => simp
    case some x =>
      cases hh : s.holder .cless
      case none => simp
      case some h => exact absurd hx (hno h x hh)

theorem relaySource_iff : s.relaySource l = true ↔ ∃ c : Fin 32, s.feed l c ≠ [] := by
  simp [State.relaySource, allChannels]

theorem outPending_iff : s.outPending l = true ↔
    (s.port l).inFlight ≠ none ∨ (s.port l).replies ≠ [] ∨ (s.port l).notices ≠ []
      ∨ (s.keys.fifo ≠ [] ∧ (s.holder .keypad).map Subject.link = some l)
      ∨ (s.bridge.slot ≠ none ∧ (s.holder .cless).map Subject.link = some l) ∨ ∃ c : Fin 32, s.feed l c ≠ [] := by
  have hempty {α : Type} (xs : List α) : (!xs.isEmpty) = true ↔ xs ≠ [] := by simp
  rw [State.outPending, State.hasOutbound]
  rw [Bool.or_eq_true, Option.isSome_iff_ne_none]
  simp only [Bool.or_eq_true, hempty, keySource_isSome, resultSource_isSome, relaySource_iff, or_assoc]

/-! ## The status byte (R2) -/

/-- The fields of a status byte stand in the bits of the table of R2. -/
theorem statusFields : ∀ (room pending shown : Bool) (outcome : Fin 4) (regime : Fin 3) (b : Byte),
    b = byte ((if room then 128 else 0) + (if pending then 64 else 0) + 16 * outcome.val
        + (if shown then 8 else 0) + 2 * regime.val) →
      b.getLsbD 7 = room ∧ b.getLsbD 6 = pending ∧ b.extractLsb' 4 2 = BitVec.ofNat 2 outcome.val
        ∧ b.getLsbD 3 = shown ∧ b.extractLsb' 1 2 = BitVec.ofNat 2 regime.val ∧ b.getLsbD 0 = false := by
  intro room pending shown outcome regime b hb
  subst hb
  revert room pending shown outcome regime
  decide

theorem RxOutcome.code_lt (o : RxOutcome) : o.code < 4 := by cases o <;> decide

theorem Regime.code_lt (r : Regime) : r.code < 3 := by cases r <;> decide

theorem statusByte_fields (s : State) (l : Link) :
    (s.statusByte l).getLsbD 7 = (s.port l).rxRoom ∧ (s.statusByte l).getLsbD 6 = s.outPending l
      ∧ (s.statusByte l).extractLsb' 4 2 = BitVec.ofNat 2 (s.port l).lastRx.code
      ∧ (s.statusByte l).getLsbD 3 = (s.port l).conditionShown
      ∧ (s.statusByte l).extractLsb' 1 2 = BitVec.ofNat 2 s.clock.regime.code ∧ (s.statusByte l).getLsbD 0 = false :=
  statusFields (s.port l).rxRoom (s.outPending l) (s.port l).conditionShown ⟨_, RxOutcome.code_lt (s.port l).lastRx⟩
    ⟨_, Regime.code_lt s.clock.regime⟩ _ rfl

/-! ## The transfer (R1, R4) -/

theorem transferStart_idle (h : (s.port l).transfer = none) : transferStart l s = s.setPort l { s.port l with
    transfer := some { status := s.statusByte l, moved := 0, choiceMade := false, shifting := none }
    receiver := .hunting } := by rw [transferStart, h]

theorem transferStart_within (h : (s.port l).transfer ≠ none) : transferStart l s = s := by
  obtain ⟨t, ht⟩ := Option.ne_none_iff_exists'.mp h
  rw [transferStart, ht]

/-- Settles O7: the transfer's start, the bits of the status byte and the attention line. -/
theorem transferBeginsWithItsStatusByte : Obligations.TransferBeginsWithItsStatusByte := by
  refine ⟨fun l s => ⟨fun h => congrArg _ (transferStart_idle h), fun h => congrArg _ (transferStart_within h)⟩,
    fun l s => ?_, fun l s => ?_⟩
  · obtain ⟨hroom, hpending, houtcome, hshown, hregime, hzero⟩ := statusByte_fields s l
    refine ⟨hroom, by rw [hpending, outPending_iff], ?_, hshown, ?_, hzero⟩
    · rw [houtcome]
      cases (s.port l).lastRx <;> rfl
    · rw [hregime]
      cases s.clock.regime <;> rfl
  · rw [State.attention, Bool.or_eq_true, outPending_iff, Port.conditionShown, bne_iff_ne]
    simp only [or_assoc]

end Sys2Proof.Machine
end

section
/-! SUPPORT. What a byte of a transfer does to the receiving side of a port, and what the port shifts out (R1, R4, R5,
R7, R15; O8, O9, O13). -/

namespace Sys2Proof.Machine

variable {s t : State} {l : Link} {b : Byte} {bs : List Byte} {st : Timer}

/-! ## The receiving side of a port -/

/-- What the arrival of a byte reads and writes: the receiver, the receive buffer, the outcome and the transfer. -/
def Port.reception (p : Port) : Receiver × List Frame × RxOutcome × Option Transfer :=
  (p.receiver, p.rxBuffer, p.lastRx, p.transfer)

theorem Port.reception_eq {p q : Port} : p.reception = q.reception ↔
    p.receiver = q.receiver ∧ p.rxBuffer = q.rxBuffer ∧ p.lastRx = q.lastRx ∧ p.transfer = q.transfer := by
  simp [Port.reception]

theorem setPort_reception {p : Port} (h : p.reception = (s.port l).reception) :
    ((s.setPort l p).port l).reception = (s.port l).reception := by rw [setPort_port_self, h]

/-- The arbiter's choice leaves the receiving side. -/
theorem beginFrame_reception (f : Frame) (src : FrameSource) (s : State) :
    ((beginFrame l f src s).port l).reception = (s.port l).reception := setPort_reception rfl

theorem sendNotice_reception (n : Notice) (s : State) :
    ((sendNotice l n s).port l).reception = (s.port l).reception :=
  (beginFrame_reception _ _ _).trans (setPort_reception rfl)

theorem sendRelay_reception (level : Fin 4) (c : Fin 32) (s : State) :
    ((sendRelay l level c s).port l).reception = (s.port l).reception := by
  unfold sendRelay
  split
  · exact beginFrame_reception _ _ _
  · rfl

theorem chooseFrame_reception (l : Link) (s : State) :
    ((chooseFrame l s).port l).reception = (s.port l).reception := by
  unfold chooseFrame
  dsimp only
  split
  · exact setPort_reception rfl
  split
  · exact sendNotice_reception _ _
  · exact (beginFrame_reception _ _ _).trans (setPort_reception rfl)
  · exact sendNotice_reception _ _
  split
  · exact beginFrame_reception _ _ _
  · exact beginFrame_reception _ _ _
  · exact sendRelay_reception _ _ _
  · rfl

/-! ## The clock edges of a byte (R1, R7) -/

/-- A stall timer that runs restarts. -/
def Receiver.restarted : Receiver → Receiver
  | .inFrame bs _ => .inFrame bs .zero
  | other => other

theorem restartStallTimer_eq (l : Link) (s : State) :
    restartStallTimer l s = s.setPort l { s.port l with receiver := (s.port l).receiver.restarted } := by
  unfold restartStallTimer
  split
  next h => simp only [h, Receiver.restarted]
  next h =>
    have hstands : (s.port l).receiver.restarted = (s.port l).receiver := by
      cases hr : (s.port l).receiver
      case inFrame bs t => exact absurd hr (h bs t)
      all_goals rfl
    rw [hstands]
    exact (setPort_port_id s l).symm

/-- How far a transfer has come: the bytes that have moved. -/
abbrev Port.moved (p : Port) : Option Nat := p.transfer.map (·.moved)

/-- The byte to be shifted out begins. -/
theorem beginByte_receives (l : Link) (s : State) : ((beginByte l s).port l).receiver = (s.port l).receiver
    ∧ ((beginByte l s).port l).rxBuffer = (s.port l).rxBuffer ∧ ((beginByte l s).port l).lastRx = (s.port l).lastRx
    ∧ ((beginByte l s).port l).moved = (s.port l).moved := by
  rw [beginByte, setPort_port_self]
  exact ⟨rfl, rfl, rfl, by simp [Port.moved, Function.comp_def]⟩

/-- The state the choice is made in: the transfer has made its choice, and no byte has begun. -/
def choosing (l : Link) (t0 : Transfer) (s : State) : State :=
  s.setPort l { s.port l with transfer := some { t0 with choiceMade := true, shifting := none } }

theorem outboundChoice_made {t0 : Transfer} (ht : (s.port l).transfer = some t0) (hm : t0.moved = 1)
    (hc : t0.choiceMade = false) : outboundChoice l s =
      beginByte l (if s.running then chooseFrame l (choosing l t0 s) else choosing l t0 s) := by
  simp only [outboundChoice, ht, if_pos (And.intro hm hc)]
  rfl

theorem outboundChoice_none {t0 : Transfer} (ht : (s.port l).transfer = some t0)
    (h : ¬ (t0.moved = 1 ∧ t0.choiceMade = false)) : outboundChoice l s = s := by
  simp only [outboundChoice, ht, if_neg h]

/-- What is chosen leaves the receiving side as the choice found it. -/
theorem choosing_receives (t0 : Transfer) (c : Bool) {u : State}
    (hu : u = if c then chooseFrame l (choosing l t0 s) else choosing l t0 s) :
    (u.port l).receiver = (s.port l).receiver ∧ (u.port l).rxBuffer = (s.port l).rxBuffer
      ∧ (u.port l).lastRx = (s.port l).lastRx
      ∧ (u.port l).transfer = some { t0 with choiceMade := true, shifting := none } := by
  have hu' : (u.port l).reception = ((choosing l t0 s).port l).reception := by
    rw [hu]
    split
    · exact chooseFrame_reception l _
    · rfl
  rw [choosing, setPort_port_self] at hu'
  exact Port.reception_eq.mp hu'

theorem outboundChoice_receives (l : Link) (s : State) : ((outboundChoice l s).port l).receiver = (s.port l).receiver
    ∧ ((outboundChoice l s).port l).rxBuffer = (s.port l).rxBuffer
    ∧ ((outboundChoice l s).port l).lastRx = (s.port l).lastRx
    ∧ ((outboundChoice l s).port l).moved = (s.port l).moved := by
  cases ht : (s.port l).transfer
  case none => simp [outboundChoice, ht, Port.moved]
  case some t0 =>
    by_cases h : t0.moved = 1 ∧ t0.choiceMade = false
    · rw [outboundChoice_made ht h.1 h.2]
      obtain ⟨hreceiver, hrx, hlast, htransfer⟩ := choosing_receives t0 s.running rfl
      obtain ⟨hreceiver', hrx', hlast', hmoved'⟩ := beginByte_receives l
        (if s.running then chooseFrame l (choosing l t0 s) else choosing l t0 s)
      refine ⟨hreceiver'.trans hreceiver, hrx'.trans hrx, hlast'.trans hlast, hmoved'.trans ?_⟩
      rw [Port.moved, Port.moved, htransfer, ht]
      rfl
    · rw [outboundChoice_none ht h]
      exact ⟨rfl, rfl, rfl, by rw [Port.moved, ht]⟩

/-- The edges of a byte restart a stall timer and leave the rest of the receiving side. -/
theorem clockEdge_receives (h : (s.port l).transfer ≠ none) :
    ((clockEdge l s).port l).receiver = (s.port l).receiver.restarted
      ∧ ((clockEdge l s).port l).rxBuffer = (s.port l).rxBuffer ∧ ((clockEdge l s).port l).lastRx = (s.port l).lastRx
      ∧ ((clockEdge l s).port l).moved = (s.port l).moved := by
  obtain ⟨t0, ht⟩ := Option.ne_none_iff_exists'.mp h
  obtain ⟨hreceiver, hrx, -, hlast, -, htransfer⟩ := Port.inbound_eq.mp (frameComplete_inbound l l s)
  obtain ⟨hreceiver₁, hrx₁, hlast₁, hmoved₁⟩ := outboundChoice_receives l (frameComplete l s)
  obtain ⟨hreceiver₂, hrx₂, hlast₂, hmoved₂⟩ := beginByte_receives l (outboundChoice l (frameComplete l s))
  simp only [clockEdge, ht, restartStallTimer_eq, setPort_port_self]
  refine ⟨by rw [hreceiver₂, hreceiver₁, hreceiver], hrx₂.trans (hrx₁.trans hrx), hlast₂.trans (hlast₁.trans hlast),
    hmoved₂.trans (hmoved₁.trans ?_)⟩
  rw [Port.moved, Port.moved, htransfer]

/-! ## DOZE during a byte -/

theorem dozeReplyCompleted_doze (h : s.clock.regime = .doze) : (dozeReplyCompleted s).clock.regime = .doze := by
  unfold dozeReplyCompleted
  split
  · dsimp only
    split
    · rfl
    · rw [(notifyLink_frame _ _ _).1]
      exact h
  · exact h

theorem frameComplete_doze (l : Link) (h : s.clock.regime = .doze) : (frameComplete l s).clock.regime = .doze := by
  unfold frameComplete
  split
  · split
    · unfold reportCompletion
      split
      · split
        · exact dozeReplyCompleted_doze h
        · exact h
      · rw [(bridgeResultGone_frame _).1]
        exact h
      · exact h
    · exact h
  · exact h

theorem clockEdge_doze (l : Link) (h : s.clock.regime = .doze) : (clockEdge l s).clock.regime = .doze := by
  unfold clockEdge
  split
  · exact h
  · simp [frameComplete_doze l h]

/-! ## A whole byte (R1, R4) -/

/-- The state in which a byte meets the receiver: its edges have come and the byte out has moved. -/
def arrivalState (l : Link) (s : State) : State :=
  (clockEdge l s).setPort l { (clockEdge l s).port l with
    transfer := ((clockEdge l s).port l).transfer.map fun t => { t with moved := t.moved + 1, shifting := none }
    inFlight := ((clockEdge l s).port l).inFlight.map InFlight.shift }

theorem moveByte_arrives (l : Link) (b : Byte) (h : (s.port l).transfer ≠ none) :
    moveByte l b s = receiveByte l b (arrivalState l s) := by
  obtain ⟨t0, ht⟩ := Option.ne_none_iff_exists'.mp h
  simp only [moveByte, ht]
  rfl

theorem moveByte_outside (b : Byte) (h : (s.port l).transfer = none) : moveByte l b s = s := by
  simp only [moveByte, h]

theorem arrivalState_receives (h : (s.port l).transfer ≠ none) :
    ((arrivalState l s).port l).receiver = (s.port l).receiver.restarted
      ∧ ((arrivalState l s).port l).rxBuffer = (s.port l).rxBuffer
      ∧ ((arrivalState l s).port l).lastRx = (s.port l).lastRx
      ∧ ((arrivalState l s).port l).moved = (s.port l).moved.map (· + 1) := by
  obtain ⟨hreceiver, hrx, hlast, hmoved⟩ := clockEdge_receives h
  rw [arrivalState, setPort_port_self]
  refine ⟨hreceiver, hrx, hlast, ?_⟩
  rw [← hmoved]
  simp [Port.moved, Function.comp_def]

theorem arrivalState_doze (h : s.clock.regime = .doze) : (arrivalState l s).clock.regime = .doze :=
  clockEdge_doze l h

/-- Whether a frame being collected ends at these bytes, by its check or by its length. -/
def FrameEnds (bs : List Byte) : Prop :=
  (bs.length = 5 ∧ 256 < lengthField bs) ∨ (5 ≤ bs.length ∧ bs.length = 7 + lengthField bs)

theorem collectByte_open (h : ¬ FrameEnds bs) (l : Link) (s : State) :
    collectByte l bs s = s.setPort l { s.port l with receiver := .inFrame bs .zero } := by
  obtain ⟨hlong, hwhole⟩ := not_or.mp h
  have hwhole' : ¬ (5 ≤ bs.length ∧ bs.length = frameBytes bs) := by
    rw [frameBytes]
    omega
  exact (if_neg hlong).trans (if_neg hwhole')

theorem collectByte_long (h5 : bs.length = 5) (h : 256 < lengthField bs) (l : Link) (s : State) :
    collectByte l bs s = setCondition l .inputCheck (s.rxEnds l .checkFailed) := if_pos ⟨h5, h⟩

theorem collectByte_whole (h : bs.length = 7 + lengthField bs) (l : Link) (s : State) :
    collectByte l bs s = judgeFrame l bs s := by
  have hlong : ¬ (bs.length = 5 ∧ Config.maxBody < lengthField bs) := fun hc => by omega
  have hwhole : 5 ≤ bs.length ∧ bs.length = frameBytes bs := by
    rw [frameBytes]
    omega
  rw [collectByte, if_neg hlong, if_pos hwhole]

/-- What a byte that ends no frame leaves of a receiver (R4). -/
def Receiver.next (b : Byte) : Receiver → Receiver
  | .hunting => if b = 0xA5 then .inFrame [] .zero else .hunting
  | .inFrame bs _ => .inFrame (bs ++ [b]) .zero
  | .discarding => .discarding

/-- Whether a frame under collection ends with the byte. -/
def Receiver.EndsWith (b : Byte) : Receiver → Prop
  | .inFrame bs _ => FrameEnds (bs ++ [b])
  | _ => False

/-- A byte that ends no frame moves the receiver alone. -/
theorem receiveByte_open (h : ¬ (s.port l).receiver.EndsWith b) :
    receiveByte l b s = s.setPort l { s.port l with receiver := (s.port l).receiver.next b } := by
  unfold receiveByte
  split
  next hr =>
    rw [hr, Receiver.next]
    by_cases hb : b = 0xA5
    · rw [if_pos hb, if_pos (show b = syncByte from hb)]
    · rw [if_neg hb, if_neg (show b ≠ syncByte from hb), ← hr]
      exact (setPort_port_id s l).symm
  next bytes t hr =>
    rw [hr] at h ⊢
    exact collectByte_open h l s
  next hr =>
    rw [hr, Receiver.next, ← hr]
    exact (setPort_port_id s l).symm

theorem restarted_next (r : Receiver) (b : Byte) : r.restarted.next b = r.next b := by cases r <;> rfl

theorem restarted_endsWith (r : Receiver) (b : Byte) : r.restarted.EndsWith b ↔ r.EndsWith b := by cases r <;> rfl

/-- A whole byte of a transfer that ends no frame. -/
theorem moveByte_open (ht : (s.port l).transfer ≠ none) (h : ¬ (s.port l).receiver.EndsWith b) :
    ((moveByte l b s).port l).receiver = (s.port l).receiver.next b
      ∧ ((moveByte l b s).port l).rxBuffer = (s.port l).rxBuffer
      ∧ ((moveByte l b s).port l).lastRx = (s.port l).lastRx
      ∧ ((moveByte l b s).port l).moved = (s.port l).moved.map (· + 1) := by
  obtain ⟨hreceiver, hrx, hlast, hmoved⟩ := arrivalState_receives ht
  have hopen : ¬ ((arrivalState l s).port l).receiver.EndsWith b := by
    rwa [hreceiver, restarted_endsWith]
  rw [moveByte_arrives l b ht, receiveByte_open hopen, setPort_port_self]
  exact ⟨by rw [hreceiver, restarted_next], hrx, hlast, hmoved⟩

/-! ## A frame that ends (R4, R5) -/

theorem receiveByte_inFrame (hr : (s.port l).receiver = .inFrame bs st) :
    receiveByte l b s = collectByte l (bs ++ [b]) s := by simp only [receiveByte, hr]

theorem moveByte_inFrame (ht : (s.port l).transfer ≠ none) (hr : (s.port l).receiver = .inFrame bs st) :
    moveByte l b s = collectByte l (bs ++ [b]) (arrivalState l s) := by
  have hreceiver : ((arrivalState l s).port l).receiver = .inFrame bs .zero := by
    rw [(arrivalState_receives ht).1, hr]
    rfl
  rw [moveByte_arrives l b ht, receiveByte_inFrame hreceiver]

/-- A frame discarded as it ends: the receiver discards, the buffer stands, and the condition is set. -/
theorem discarded_port (c : Condition) (o : RxOutcome) (s : State) :
    ((setCondition l c (s.rxEnds l o)).port l).receiver = .discarding
      ∧ ((setCondition l c (s.rxEnds l o)).port l).lastRx = o
      ∧ ((setCondition l c (s.rxEnds l o)).port l).rxBuffer = (s.port l).rxBuffer
      ∧ hasCondition ((setCondition l c (s.rxEnds l o)).port l).conditions c = true := by
  rw [setCondition, State.rxEnds, setPort_port_self, setPort_port_self]
  exact ⟨rfl, rfl, rfl, hasCondition_join_self c _⟩

theorem judgeFrame_failed (h : checkMatches bs = false) (l : Link) (s : State) :
    judgeFrame l bs s = setCondition l .inputCheck (s.rxEnds l .checkFailed) := by rw [judgeFrame, if_pos h]

theorem judgeFrame_full (h : checkMatches bs = true) (hfull : 2 ≤ (s.port l).rxBuffer.length) :
    judgeFrame l bs s = setCondition l .inputFull (s.rxEnds l .refusedFull) := by
  have hroom : (s.port l).rxRoom = false := decide_eq_false (Nat.not_lt.mpr hfull)
  rw [judgeFrame, if_neg (by simp [h]), if_pos hroom]

/-- The state a frame is taken in: it joins the buffer with TAKEN. -/
def takenIn (l : Link) (bs : List Byte) (s : State) : State :=
  (s.rxEnds l .taken).setPort l { (s.rxEnds l .taken).port l with
    rxBuffer := ((s.rxEnds l .taken).port l).rxBuffer ++ [collectedFrame bs] }

theorem judgeFrame_taken (h : checkMatches bs = true) (hroom : (s.port l).rxBuffer.length < 2) :
    judgeFrame l bs s = wake (.frame l) (takenIn l bs s) := by
  have hroom' : (s.port l).rxRoom = true := decide_eq_true hroom
  rw [judgeFrame, if_neg (by simp [h]), if_neg (by simp [hroom'])]
  rfl

theorem taken_port (c : WakeCause) (bs : List Byte) (s : State) :
    ((wake c (takenIn l bs s)).port l).receiver = .discarding ∧ ((wake c (takenIn l bs s)).port l).lastRx = .taken
      ∧ ((wake c (takenIn l bs s)).port l).rxBuffer = (s.port l).rxBuffer ++ [collectedFrame bs] := by
  have hport := port_congr (wake_frame c (takenIn l bs s)).1 (l := l)
  rw [hport, takenIn, State.rxEnds, setPort_port_self, setPort_port_self]
  exact ⟨rfl, rfl, rfl⟩

theorem wake_clock {c : WakeCause} (h : s.clock.regime = .doze) : (wake c s).clock.regime = .waking
    ∧ (wake c s).clock.wakeCause = some c ∧ (wake c s).clock.fastClock = .locking 0 := by
  rw [wake, if_pos h]
  exact ⟨rfl, rfl, rfl⟩

end Sys2Proof.Machine
end

section
/-! SUPPORT. The end of a frame being collected: its judgement, its abandoned length, the stall, and a whole frame as it
travels (R3 to R5, R7, R174; O9, O13). -/

namespace Sys2Proof.Machine

variable {s t : State} {l : Link} {b : Byte} {bs : List Byte} {st : Timer}

/-! ## The rows of a judged and of an abandoned frame (log entry 8) -/

theorem lengthField_append (h : 5 ≤ bs.length) (more : List Byte) : lengthField (bs ++ more) = lengthField bs := by
  rw [lengthField, lengthField, List.getElem?_append_left (by omega), List.getElem?_append_left (by omega)]

theorem after_frameReceived (hr : (s.port l).receiver = .inFrame bs st)
    (hlen : bs.length + 1 = 7 + lengthField bs) : after (.frameReceived l b) s = moveByte l b s := by
  have hat : (s.port l).receiver.atSecondCheck = true := by
    rw [hr, Receiver.atSecondCheck, decide_eq_true_eq, frameBytes]
    omega
  exact if_pos hat

theorem after_frameLengthAbandoned (hr : (s.port l).receiver = .inFrame bs st) (h4 : bs.length = 4)
    (hlong : 256 < lengthField (bs ++ [b])) : after (.frameLengthAbandoned l b) s = moveByte l b s := by
  have hat : (s.port l).receiver.atLongLength b = true := by
    rw [hr, Receiver.atLongLength, decide_eq_true_eq]
    exact ⟨h4, hlong⟩
  exact if_pos hat

/-! ## A judged frame (R5, R174) -/

/-- The second check byte brings the judgement of the frame. -/
theorem moveByte_judged (ht : (s.port l).transfer ≠ none) (hr : (s.port l).receiver = .inFrame bs st)
    (hlen : bs.length + 1 = 7 + lengthField bs) : moveByte l b s = judgeFrame l (bs ++ [b]) (arrivalState l s) := by
  have hwhole : (bs ++ [b]).length = 7 + lengthField (bs ++ [b]) := by
    rw [lengthField_append (by omega), List.length_append]
    exact hlen
  rw [moveByte_inFrame ht hr, collectByte_whole hwhole]

theorem judged_discarding (bs : List Byte) (s : State) : ((judgeFrame l bs s).port l).receiver = .discarding := by
  cases hcheck : checkMatches bs
  case false =>
    rw [judgeFrame_failed hcheck]
    exact (discarded_port _ _ s).1
  case true =>
    by_cases hroom : (s.port l).rxBuffer.length < 2
    · rw [judgeFrame_taken hcheck hroom]
      exact (taken_port _ bs s).1
    · rw [judgeFrame_full hcheck (Nat.not_lt.mp hroom)]
      exact (discarded_port _ _ s).1

/-! ## The stall (R7) -/

theorem frameStall_expires (hr : (s.port l).receiver = .inFrame bs st) (hdue : st.due = true) :
    frameStall l s = s.setPort l { s.port l with
      receiver := .discarding, lastRx := .truncated
      conditions := (s.port l).conditions ||| 0x001 ||| 0x008 } := by
  simp only [frameStall, hr, hdue, if_true, setCondition, setPort_port_self, setPort_setPort]
  rfl

/-- Settles O9: the judgement and its three outcomes, the abandoned length and the stall. -/
theorem framesAreJudgedOrAbandoned : Obligations.FramesAreJudgedOrAbandoned := by
  refine ⟨fun l b bs st s ht hr _ hlen => ?_, fun l b bs st s ht hr h4 hlong => ?_, fun l bs st s hr => ⟨fun hdue => ?_,
    fun hdue => ?_⟩⟩
  · obtain ⟨-, hrx, -, -⟩ := arrivalState_receives ht
    have hmoved := moveByte_judged (b := b) ht hr hlen
    refine ⟨moveByte l b s, congrArg _ (after_frameReceived hr hlen), rfl, ?_, fun hcheck => ?_,
      fun hcheck hfull => ?_, fun hcheck hroom => ?_⟩
    · rw [hmoved]
      exact judged_discarding _ _
    · rw [hmoved, judgeFrame_failed hcheck, ← hrx]
      exact (discarded_port .inputCheck .checkFailed _).2
    · rw [← hrx] at hfull
      rw [hmoved, judgeFrame_full hcheck hfull, ← hrx]
      exact (discarded_port .inputFull .refusedFull _).2
    · rw [← hrx] at hroom
      rw [hmoved, judgeFrame_taken hcheck hroom, ← hrx]
      obtain ⟨-, hlast, hbuffer⟩ := taken_port (l := l) (.frame l) (bs ++ [b]) (arrivalState l s)
      exact ⟨hlast, hbuffer, fun hdoze => wake_clock (arrivalState_doze hdoze)⟩
  · obtain ⟨-, hrx, -, -⟩ := arrivalState_receives ht
    have h5 : (bs ++ [b]).length = 5 := by rw [List.length_append, h4]; rfl
    refine ⟨moveByte l b s, congrArg _ (after_frameLengthAbandoned hr h4 hlong), rfl, ?_⟩
    rw [moveByte_inFrame ht hr, collectByte_long h5 hlong, ← hrx]
    exact discarded_port .inputCheck .checkFailed _
  · exact congrArg _ (frameStall_expires hr hdue)
  · exact congrArg _ (frameStall_not_due fun bs' st' hr' => by rw [hr] at hr'; cases hr'; exact hdue)

/-! ## A whole frame as it travels (R3) -/

/-- The bytes of a frame after its sync byte. -/
def Frame.collected (f : Frame) : List Byte := f.covered ++ bytes2 (frameCheck f.covered).toNat

theorem number2_bytes2 {n : Nat} (h : n < 65536) : number2 (byte (n / 256)) (byte n) = n := by
  simp only [number2, byte, BitVec.toNat_ofNat]
  omega

theorem wire_eq (f : Frame) : f.wire = 0xA5 :: f.collected := rfl

theorem covered_length (f : Frame) : f.covered.length = 5 + f.body.length := by
  simp [Frame.covered, bytes2]
  omega

theorem collected_length (f : Frame) : f.collected.length = 7 + f.body.length := by
  rw [Frame.collected, List.length_append, covered_length]
  simp [bytes2]
  omega

theorem collected_lengthField {f : Frame} (hbody : f.body.length ≤ 256) : lengthField f.collected = f.body.length :=
  number2_bytes2 (by omega)

/-- The length field of the bytes collected so far is that of the frame, once both its bytes have come. -/
theorem begun_lengthField {f : Frame} (hbody : f.body.length ≤ 256) {more : List Byte} (h5 : 5 ≤ bs.length)
    (hsplit : bs ++ more = f.collected) : lengthField bs = f.body.length := by
  rw [← lengthField_append h5 more, hsplit, collected_lengthField hbody]

/-- Before its last byte, the frame ends neither by its length nor by its check. -/
theorem begun_open {f : Frame} (hbody : f.body.length ≤ 256) {more : List Byte} (hmore : more ≠ [])
    (hsplit : bs ++ more = f.collected) : ¬ FrameEnds bs := by
  have hlen : bs.length + more.length = 7 + f.body.length := by
    rw [← List.length_append, hsplit, collected_length]
  have hpos := List.length_pos_iff.mpr hmore
  rintro (⟨h5, hlong⟩ | ⟨h5, hwhole⟩)
  · rw [begun_lengthField hbody (by omega) hsplit] at hlong
    omega
  · rw [begun_lengthField hbody h5 hsplit] at hwhole
    omega

theorem collected_take (f : Frame) : f.collected.take (5 + f.body.length) = f.covered := by
  rw [Frame.collected, ← covered_length, List.take_left]

theorem collected_check (f : Frame) (i : Nat) :
    f.collected[5 + f.body.length + i]? = (bytes2 (frameCheck f.covered).toNat)[i]? := by
  rw [Frame.collected, ← covered_length, List.getElem?_append_right (Nat.le_add_right _ _), Nat.add_sub_cancel_left]

/-- The check of a frame as it travels is the computed one (R3). -/
theorem collected_checkMatches {f : Frame} (hbody : f.body.length ≤ 256) : checkMatches f.collected = true := by
  have hhi := collected_check f 0
  have hlo := collected_check f 1
  rw [checkMatches, collected_lengthField hbody, collected_take, beq_iff_eq, hlo, ← Nat.add_zero (5 + f.body.length), hhi]
  exact (number2_bytes2 (frameCheck f.covered).isLt).symm

/-- The frame that its bytes spell (R3). -/
theorem collectedFrame_collected {f : Frame} (hbody : f.body.length ≤ 256) : collectedFrame f.collected = f := by
  have hdrop : (f.collected.drop 5).take f.body.length = f.body := by
    have hspell : f.collected.drop 5 = f.body ++ bytes2 (frameCheck f.covered).toNat := rfl
    rw [hspell, List.take_left]
  rw [collectedFrame, collected_lengthField hbody, hdrop]
  rfl

/-! ## Its arrival, byte by byte -/

theorem moveByte_transfer (ht : (s.port l).transfer ≠ none) (h : ¬ (s.port l).receiver.EndsWith b) :
    ((moveByte l b s).port l).transfer ≠ none := by
  obtain ⟨-, -, -, hmoved⟩ := moveByte_open ht h
  intro hnone
  rw [Port.moved, hnone, Option.map_none, eq_comm, Option.map_eq_none_iff, Option.map_eq_none_iff] at hmoved
  exact ht hmoved

/-- The bytes of a frame, collected one after another up to the last, are taken as the frame. -/
theorem collects {f : Frame} (hbody : f.body.length ≤ 256) {l : Link} {rx : List Frame} (hroom : rx.length < 2) :
    ∀ (more bs : List Byte) (st : Timer) (s : State), more ≠ [] → bs ++ more = f.collected →
      (s.port l).transfer ≠ none → (s.port l).receiver = .inFrame bs st → (s.port l).rxBuffer = rx →
      ∃ t, execAll (more.map fun b => Instr.arrivingByte l (.byte b)) s = .next t ∧ (t.port l).rxBuffer = rx ++ [f]
        ∧ (t.port l).lastRx = .taken ∧ (t.port l).receiver = .discarding := by
  intro more
  induction more with
  | nil => exact fun _ _ _ h => absurd rfl h
  | cons b more ih =>
    intro bs st s _ hsplit ht hr hrx
    have hexec : execAll ((b :: more).map fun b => Instr.arrivingByte l (.byte b)) s =
        execAll (more.map fun b => Instr.arrivingByte l (.byte b)) (moveByte l b s) := rfl
    have hsplit' : (bs ++ [b]) ++ more = f.collected := by rw [List.append_assoc]; exact hsplit
    rw [hexec]
    cases more with
    | nil =>
      obtain ⟨-, hrx', -, -⟩ := arrivalState_receives ht
      rw [List.append_nil] at hsplit'
      have hwhole : (bs ++ [b]).length = 7 + lengthField (bs ++ [b]) := by
        rw [hsplit', collected_length, collected_lengthField hbody]
      have hjudged : moveByte l b s = wake (.frame l) (takenIn l f.collected (arrivalState l s)) := by
        rw [moveByte_inFrame ht hr, collectByte_whole hwhole, hsplit',
          judgeFrame_taken (collected_checkMatches hbody) (by rwa [hrx', hrx])]
      obtain ⟨hreceiver, hlast, hbuffer⟩ := taken_port (l := l) (.frame l) f.collected (arrivalState l s)
      rw [collectedFrame_collected hbody, hrx', hrx] at hbuffer
      rw [← hjudged] at hreceiver hlast hbuffer
      exact ⟨_, rfl, hbuffer, hlast, hreceiver⟩
    | cons c more =>
      have hopen : ¬ (s.port l).receiver.EndsWith b := by
        rw [hr]
        exact begun_open hbody (List.cons_ne_nil c more) hsplit'
      obtain ⟨hreceiver, hrx', -, -⟩ := moveByte_open ht hopen
      rw [hr] at hreceiver
      exact ih (bs ++ [b]) .zero (moveByte l b s) (List.cons_ne_nil c more) hsplit' (moveByte_transfer ht hopen)
        hreceiver (hrx'.trans hrx)

/-- Settles O13: the sync byte begins the frame, and the rest is collected to its end. -/
theorem wireFrameIsTakenWhole : Obligations.WireFrameIsTakenWhole := by
  intro l f s ht hr hroom hbody
  have hopen : ¬ (s.port l).receiver.EndsWith 0xA5 := by
    rw [hr]
    exact id
  obtain ⟨hreceiver, hrx, -, -⟩ := moveByte_open ht hopen
  rw [hr] at hreceiver
  have hmore : f.collected ≠ [] := List.ne_nil_of_length_pos (by rw [collected_length]; omega)
  exact collects hbody hroom f.collected [] .zero (moveByte l 0xA5 s) hmore rfl (moveByte_transfer ht hopen) hreceiver hrx

end Sys2Proof.Machine
end

section
/-! SUPPORT. What the port shifts out, and a byte or an edge that brings neither a choice nor a completion (R1, R3, R7,
R15; O8). -/

namespace Sys2Proof.Machine

variable {s t : State} {l : Link} {b out : Byte} {t0 : Transfer} {x : InFlight}

/-! ## The byte shifted out (R1, R3) -/

theorem dataOut_outside (h : (s.port l).transfer = none) : s.dataOut l = [] := by
  simp only [State.dataOut, Port.outByte, h, Option.map_none]

theorem dataOut_within (h : (s.port l).outByte = some out) :
    s.dataOut l = (List.range 8).map fun i => out.getLsbD (7 - i) := by
  simp only [State.dataOut, h]
  rfl

theorem outByte_begun (ht : (s.port l).transfer = some t0) (h : t0.shifting = some out) :
    (s.port l).outByte = some out := by
  rw [Port.outByte, ht, Option.map_some, h]
  rfl

theorem outByte_next (ht : (s.port l).transfer = some t0) (h : t0.shifting = none) :
    (s.port l).outByte = some ((s.port l).nextByte t0) := by
  rw [Port.outByte, ht, Option.map_some, h]
  rfl

theorem nextByte_status (p : Port) (h : t0.moved = 0) : p.nextByte t0 = t0.status := if_pos h

theorem nextByte_sending {p : Port} {n : Nat} (h : t0.moved ≠ 0) (hx : p.inFlight = some x) (hn : x.phase = .sending n) :
    p.nextByte t0 = (x.frame.wire)[n]?.getD 0 := by
  obtain ⟨f, src, phase⟩ := x
  cases hn
  rw [Port.nextByte, if_neg h, hx]

theorem nextByte_fill {p : Port} (h : t0.moved ≠ 0) (hx : ∀ x n, p.inFlight = some x → x.phase ≠ .sending n) :
    p.nextByte t0 = 0 := by
  rw [Port.nextByte, if_neg h]
  split
  next f src n hf => exact absurd rfl (hx _ n hf)
  next => rfl

theorem wire_length (f : Frame) : f.wire.length = f.wireLength := by
  rw [wire_eq, List.length_cons, collected_length, Frame.wireLength]
  omega

/-! ## A frame in flight that is not whole -/

theorem whole_iff : x.whole = true ↔ x.phase = .sending x.frame.wireLength := by
  unfold InFlight.whole
  split
  next n h => rw [h, beq_iff_eq, SendPhase.sending.injEq]
  next h => simp [h]

theorem frameComplete_partial (h : ∀ x, (s.port l).inFlight = some x → x.phase ≠ .sending x.frame.wireLength) :
    frameComplete l s = s := by
  unfold frameComplete
  split
  next x hx => rw [if_neg (fun hw => h x hx (whole_iff.mp hw))]
  next => rfl

theorem clockEdge_outside (h : (s.port l).transfer = none) : clockEdge l s = s := by simp only [clockEdge, h]

/-- An edge that brings no completion and no choice begins the byte and restarts the stall timer. -/
theorem clockEdge_quiet (ht : (s.port l).transfer = some t0) (hchoice : ¬ (t0.moved = 1 ∧ t0.choiceMade = false))
    (hx : ∀ x, (s.port l).inFlight = some x → x.phase ≠ .sending x.frame.wireLength) :
    clockEdge l s = s.setPort l { s.port l with
      transfer := some { t0 with shifting := (s.port l).outByte }
      receiver := (s.port l).receiver.restarted } := by
  simp only [clockEdge, ht, frameComplete_partial hx, outboundChoice_none ht hchoice, beginByte, restartStallTimer_eq,
    setPort_port_self, setPort_setPort, Option.map_some]

theorem shift_sending {n : Nat} (hn : x.phase = .sending n) (hlt : n < x.frame.wireLength) :
    x.shift = { x with phase := .sending (n + 1) } := by
  obtain ⟨f, src, phase⟩ := x
  cases hn
  simp only [InFlight.shift, Nat.min_eq_left (Nat.succ_le_of_lt hlt)]

theorem judgeFrame_transfer (bs : List Byte) (s : State) :
    ((judgeFrame l bs s).port l).transfer = (s.port l).transfer := by
  unfold judgeFrame
  split
  · simp [setCondition, State.rxEnds, setPort_port_self]
  split
  · simp [setCondition, State.rxEnds, setPort_port_self]
  · simp [State.rxEnds, setPort_port_self]

theorem receiveByte_transfer (b : Byte) (s : State) :
    ((receiveByte l b s).port l).transfer = (s.port l).transfer := by
  unfold receiveByte
  split
  · split
    · rw [setPort_port_self]
    · rfl
  · unfold collectByte
    split
    · simp [setCondition, State.rxEnds, setPort_port_self]
    split
    · exact judgeFrame_transfer _ s
    · rw [setPort_port_self]
  · rfl

/-- A whole byte advances a frame that is not whole by one. -/
theorem moveByte_advances {n : Nat} (b : Byte) (ht : (s.port l).transfer = some t0)
    (hchoice : ¬ (t0.moved = 1 ∧ t0.choiceMade = false)) (hx : (s.port l).inFlight = some x) (hn : x.phase = .sending n)
    (hlt : n < x.frame.wireLength) :
    ((moveByte l b s).port l).inFlight = some { x with phase := .sending (n + 1) }
      ∧ ((moveByte l b s).port l).transfer = some { t0 with moved := t0.moved + 1, shifting := none } := by
  have hpartial (y : InFlight) (hy : (s.port l).inFlight = some y) : y.phase ≠ .sending y.frame.wireLength := by
    rw [hx] at hy
    cases hy
    rw [hn]
    exact fun h => absurd (SendPhase.sending.inj h) (Nat.ne_of_lt hlt)
  have hwithin : (s.port l).transfer ≠ none := by rw [ht]; exact Option.some_ne_none t0
  rw [moveByte_arrives l b hwithin, receiveByte_inFlight, receiveByte_transfer, arrivalState,
    clockEdge_quiet ht hchoice hpartial, setPort_port_self, setPort_port_self]
  exact ⟨(congrArg (Option.map InFlight.shift) hx).trans (congrArg some (shift_sending hn hlt)), rfl⟩

/-- Settles O8: the receiver, the byte out and the edge. -/
theorem arrivingByteMovesTheReceiver : Obligations.ArrivingByteMovesTheReceiver := by
  intro l b s
  refine ⟨fun h => congrArg _ (moveByte_outside b h), fun h hopen => ?_, fun h => ⟨?_, dataOut_outside h⟩,
    fun t0 ht => ⟨fun out => dataOut_within, fun out hout => ?_, fun hbegun hmoved => ?_, fun hbegun hmoved => ?_,
      fun x n hchoice hx hn hlt => ?_, fun hchoice hx => congrArg _ (clockEdge_quiet ht hchoice hx)⟩⟩
  · have hopen' : ¬ (s.port l).receiver.EndsWith b := by
      cases hr : (s.port l).receiver
      case inFrame bs st =>
        rw [hr] at hopen
        exact not_or.mpr hopen
      all_goals exact id
    obtain ⟨hreceiver, hrx, hlast, hmoved⟩ := moveByte_open h hopen'
    refine ⟨_, rfl, ?_, hrx, hlast, ?_⟩
    · exact hreceiver.trans (by cases (s.port l).receiver <;> rfl)
    · exact hmoved.trans (Option.map_map _ _ _)
  · exact congrArg _ (clockEdge_outside h)
  · have hcancelled := (Port.inbound_eq.mp (cancelInFlight_inbound l l s)).2.2.2.2.2
    exact ⟨outByte_begun ht hout, by simp [cancelInFlight_inFlight], outByte_begun (hcancelled.trans ht) hout⟩
  · rw [outByte_next ht hbegun, nextByte_status _ hmoved]
  · refine ⟨fun x n hx hn => ⟨fun out hout => ?_, fun hend => ?_⟩, fun hno => ?_⟩
    · rw [outByte_next ht hbegun, nextByte_sending hmoved hx hn, hout]
      rfl
    · rw [outByte_next ht hbegun, nextByte_sending hmoved hx hn, List.getElem?_eq_none (by rwa [wire_length])]
      rfl
    · rw [outByte_next ht hbegun, nextByte_fill hmoved hno]
  · exact ⟨_, rfl, moveByte_advances b ht hchoice hx hn hlt⟩

end Sys2Proof.Machine
end

section
/-! SUPPORT. The completion of a frame in flight and the end of a transfer (R1, R6, R14, R151; O10). -/

namespace Sys2Proof.Machine

variable {s t : State} {l : Link} {x : InFlight} {c : Fin 32}

/-! ## Completion (R14, R151) -/

/-- The port with the copy of its frame gone. -/
def flightGone (l : Link) (s : State) : State := s.setPort l { s.port l with inFlight := none }

theorem frameComplete_whole (hx : (s.port l).inFlight = some x) (hw : x.phase = .sending x.frame.wireLength) :
    frameComplete l s = reportCompletion x (flightGone l s) := by
  simp only [frameComplete, hx, if_pos (whole_iff.mpr hw)]
  rfl

/-- A frame that is neither a DOZE reply nor a CL_RESULT is reported to no block. -/
theorem reportCompletion_unreported (h : x.source = .reply → x.frame.isDozeOk = false) (hr : x.source ≠ .clResult)
    (s : State) : reportCompletion x s = s := by
  unfold reportCompletion
  split
  next hs => rw [if_neg (by simp [h hs])]
  next hs => exact absurd hs hr
  next => rfl

@[simp] theorem reportCompletion_inFlight (x : InFlight) (s : State) (k : Link) :
    ((reportCompletion x s).port k).inFlight = (s.port k).inFlight := by
  unfold reportCompletion
  split
  · split <;> simp
  · simp
  · rfl

theorem flightGone_inFlight (l : Link) (s : State) : ((flightGone l s).port l).inFlight = none := by
  rw [flightGone, setPort_port_self]

/-- With the copy gone the port carries no source; the other ports carry what they carried. -/
theorem flightGone_inFlightFrom (l k : Link) (src : FrameSource) (s : State) :
    (flightGone l s).inFlightFrom k src = if k = l then false else s.inFlightFrom k src := by
  by_cases hk : k = l
  · subst hk
    simp [State.inFlightFrom, flightGone_inFlight]
  · simp [State.inFlightFrom, flightGone, setPort_port_other _ _ _ _ hk, hk]

theorem inFlightFrom_of (hx : (s.port l).inFlight = some x) (src : FrameSource) :
    s.inFlightFrom l src = (x.source == src) := by rw [State.inFlightFrom, hx]

/-- A relay frame's block is free with the copy gone (R151). -/
theorem flightGone_used (hx : (s.port l).inFlight = some x) {o : Binding} (ho : (s.channel c).binding = some o)
    (hsrc : (x.source = .forward c ∧ l = .r) ∨ (x.source = .deliver c ∧ o.owner.link = l)) :
    s.used c = (flightGone l s).used c + 1 := by
  have hused : (flightGone l s).used c = (flightGone l s).bindingUsed c o := by
    rw [State.used, show (flightGone l s).channel c = s.channel c from rfl, ho]
  rw [hused, State.used, ho]
  simp only [State.bindingUsed, flightGone_inFlightFrom]
  rcases hsrc with ⟨hs, rfl⟩ | ⟨hs, rfl⟩
  · have hforward : s.inFlightFrom .r (.forward c) = true := by simp [inFlightFrom_of hx, hs]
    have hdeliver : s.inFlightFrom .r (.deliver c) = false := by
      rw [inFlightFrom_of hx, hs]
      rfl
    by_cases hk : o.owner.link = .r
    · simp [hforward, hdeliver, hk]
    · simp [hforward, hk]
      omega
  · have hdeliver : s.inFlightFrom o.owner.link (.deliver c) = true := by simp [inFlightFrom_of hx, hs]
    have hforward (hk : o.owner.link = .r) : s.inFlightFrom .r (.forward c) = false := by
      rw [hk] at hx
      rw [inFlightFrom_of hx, hs]
      rfl
    by_cases hk : o.owner.link = .r
    · have hdeliver' := hdeliver
      rw [hk] at hdeliver'
      simp [hforward hk, hdeliver', hk]
    · simp [hdeliver, Ne.symm hk]

/-! ## The end of a transfer (R1, R4, R6) -/

theorem frameComplete_inFlight (hx : (s.port l).inFlight = some x) : ((frameComplete l s).port l).inFlight =
    if x.phase = .sending x.frame.wireLength then none else some x := by
  split
  next hw => rw [frameComplete_whole hx hw, reportCompletion_inFlight, flightGone_inFlight]
  next hw => rw [frameComplete_partial (fun y hy => by rw [hx] at hy; cases hy; exact hw), hx]

/-- The part of a port that a partial frame's truncation leaves. -/
theorem truncateAtEnd_stands (l : Link) (s : State) : ((truncateAtEnd l s).port l).rxBuffer = (s.port l).rxBuffer
    ∧ ((truncateAtEnd l s).port l).replies = (s.port l).replies := by
  unfold truncateAtEnd
  split
  · simp [setCondition, setPort_port_self]
  · exact ⟨rfl, rfl⟩

theorem truncateAtEnd_collecting {bs : List Byte} {st : Timer} (hr : (s.port l).receiver = .inFrame bs st) :
    ((truncateAtEnd l s).port l).lastRx = .truncated
      ∧ hasCondition ((truncateAtEnd l s).port l).conditions .inputTruncated = true := by
  have hcut : truncateAtEnd l s =
      setCondition l .inputTruncated (s.setPort l { s.port l with lastRx := .truncated }) := by
    simp only [truncateAtEnd, hr]
  rw [hcut, setCondition, setPort_port_self, setPort_port_self]
  exact ⟨rfl, hasCondition_join_self _ _⟩

theorem truncateAtEnd_idle (hr : ∀ bs st, (s.port l).receiver ≠ .inFrame bs st) : truncateAtEnd l s = s := by
  unfold truncateAtEnd
  split
  next bs st h => exact absurd h (hr bs st)
  next => rfl

theorem transferEnd_outside (h : (s.port l).transfer = none) : transferEnd l s = s := by simp only [transferEnd, h]

theorem transferEnd_port (h : (s.port l).transfer ≠ none) : (transferEnd l s).port l =
    { (truncateAtEnd l (frameComplete l s)).port l with
      transfer := none, receiver := .hunting
      inFlight := ((truncateAtEnd l (frameComplete l s)).port l).inFlight.map InFlight.park } := by
  obtain ⟨t0, ht⟩ := Option.ne_none_iff_exists'.mp h
  simp only [transferEnd, ht, setPort_port_self]

/-- Settles O10: the end of a transfer, and the completion of a frame by its source. -/
theorem framesInFlightCompleteOrPark : Obligations.FramesInFlightCompleteOrPark := by
  refine ⟨fun l s => ⟨fun h => congrArg _ (transferEnd_outside h), fun h => ?_⟩, fun l x s hx => ⟨fun hw => ?_,
    fun hw => ⟨fun hs => ?_, fun hs hresult => ?_, fun c hs hbound => ?_⟩⟩⟩
  · obtain ⟨hreceiver, hrx, hreplies, hlast, -, -⟩ := Port.inbound_eq.mp (frameComplete_inbound l l s)
    obtain ⟨hrx', hreplies'⟩ := truncateAtEnd_stands l (frameComplete l s)
    refine ⟨transferEnd l s, rfl, ?_⟩
    rw [transferEnd_port h]
    refine ⟨rfl, rfl, hrx'.trans hrx, hreplies'.trans hreplies, fun bs st hr => ?_, fun hr => ?_, fun x hx => ?_⟩
    · exact truncateAtEnd_collecting (hreceiver.trans hr)
    · have hidle : truncateAtEnd l (frameComplete l s) = frameComplete l s :=
        truncateAtEnd_idle fun bs st hc => hr bs st (hreceiver.symm.trans hc)
      rw [hidle]
      exact hlast
    · rw [truncateAtEnd_inFlight, frameComplete_inFlight hx]
      split <;> rfl
  · exact congrArg _ (frameComplete_partial fun y hy => by rw [hx] at hy; cases hy; exact hw)
  · have hkind : (x.source = .reply → x.frame.isDozeOk = false) ∧ x.source ≠ .clResult := by
      rcases hs with hs | hs | ⟨hs, hok⟩
      · simp [hs]
      · simp [hs]
      · exact ⟨fun _ => hok, by simp [hs]⟩
    exact congrArg _ ((frameComplete_whole hx hw).trans (reportCompletion_unreported hkind.1 hkind.2 _))
  · have hgone : reportCompletion x (flightGone l s) = bridgeResultGone (flightGone l s) := by
      simp only [reportCompletion, hs]
    exact congrArg _ ((frameComplete_whole hx hw).trans (hgone.trans (if_pos hresult)))
  · obtain ⟨o, ho⟩ := Option.ne_none_iff_exists'.mp hbound
    have hsrc : (x.source = .forward c ∧ l = .r) ∨ (x.source = .deliver c ∧ o.owner.link = l) := by
      refine hs.imp id fun ⟨hd, o', ho', hl⟩ => ⟨hd, ?_⟩
      rw [ho] at ho'
      cases ho'
      exact hl
    have hkind : x.source ≠ .reply ∧ x.source ≠ .clResult := by
      rcases hsrc with ⟨h, -⟩ | ⟨h, -⟩ <;> simp [h]
    exact ⟨flightGone l s, congrArg _ ((frameComplete_whole hx hw).trans
      (reportCompletion_unreported (fun h => absurd h hkind.1) hkind.2 _)), flightGone_inFlight l s,
      flightGone_used hx ho hsrc, rfl⟩

end Sys2Proof.Machine
end

section
/-! SUPPORT. The outbound arbiter's choice, source by source (R12, R13; O11). -/

namespace Sys2Proof.Machine

variable {s t : State} {l : Link} {x : InFlight} {t0 : Transfer}

/-! ## The seven cases (R12) -/

section
variable (hidle : (s.port l).inFlight = none)
include hidle

theorem chooseFrame_started {n : Notice} (hn : (s.port l).notices.find? Notice.isStarted = some n) :
    chooseFrame l s = sendNotice l n s := by simp only [chooseFrame, hidle, hn]

variable (hstarted : (s.port l).notices.find? Notice.isStarted = none)

include hstarted in
theorem chooseFrame_reply {f : Frame} {rest : List Frame} (hf : (s.port l).replies = f :: rest) :
    chooseFrame l s = sendReply l f rest s := by simp only [chooseFrame, hidle, hstarted, hf]

variable (hreplies : (s.port l).replies = [])

include hstarted hreplies in
theorem chooseFrame_notice {n : Notice} {rest : List Notice} (hn : (s.port l).notices = n :: rest) :
    chooseFrame l s = sendNotice l n s := by
  rw [hn] at hstarted
  simp only [chooseFrame, hidle, hn, hstarted, hreplies]

variable (hnotices : (s.port l).notices = [])

include hreplies hnotices in
theorem chooseFrame_keys {h : Subject} (hk : s.keySource l = some h) : chooseFrame l s = sendKeys l h s := by
  simp only [chooseFrame, hidle, hreplies, hnotices, List.find?_nil, hk]

include hreplies hnotices in
theorem chooseFrame_result {h : Subject} {x : ClResult} (hk : s.keySource l = none) (hx : s.resultSource l = some (h, x)) :
    chooseFrame l s = sendResult l h x s := by
  simp only [chooseFrame, hidle, hreplies, hnotices, List.find?_nil, hk, hx]

include hreplies hnotices in
theorem chooseFrame_relay {level : Fin 4} {c : Fin 32} (hk : s.keySource l = none) (hx : s.resultSource l = none)
    (hc : s.nextChannel l = some (level, c)) : chooseFrame l s = sendRelay l level c s := by
  simp only [chooseFrame, hidle, hreplies, hnotices, List.find?_nil, hk, hx, hc]

include hreplies hnotices in
theorem chooseFrame_nothing (hk : s.keySource l = none) (hx : s.resultSource l = none) (hc : s.nextChannel l = none) :
    chooseFrame l s = s := by simp only [chooseFrame, hidle, hreplies, hnotices, List.find?_nil, hk, hx, hc]

end

theorem chooseFrame_resend (hx : (s.port l).inFlight = some x) : chooseFrame l s = resend l x s := by
  simp only [chooseFrame, hx]

theorem nextAtLevel_nothing (h : s.relaySource l = false) (level : Fin 4) : s.nextAtLevel l level = none := by
  rw [State.nextAtLevel, List.find?_eq_none]
  intro c _ hc
  have hsome : s.relaySource l = true := relaySource_iff.mpr ⟨c, by simp at hc; exact hc.1⟩
  exact absurd (h.symm.trans hsome) Bool.false_ne_true

theorem nextChannel_nothing (h : s.relaySource l = false) : s.nextChannel l = none := by
  rw [State.nextChannel, List.findSome?_eq_none_iff]
  intro level _
  rw [nextAtLevel_nothing h, Option.map_none]

/-! ## What is chosen begins at its sync byte (R13) -/

theorem beginFrame_port (l : Link) (f : Frame) (src : FrameSource) (s : State) : (beginFrame l f src s).port l =
    { s.port l with inFlight := some { frame := f, source := src, phase := .sending 0 } } := setPort_port_self _ _ _

theorem beginFrame_starts {f : Frame} {src : FrameSource} {y : InFlight}
    (h : ((beginFrame l f src s).port l).inFlight = some y) : y.phase = .sending 0 := by
  rw [beginFrame_port] at h
  cases h
  rfl

theorem chooseFrame_starts {y : InFlight} (h : ((chooseFrame l s).port l).inFlight = some y) : y.phase = .sending 0 := by
  unfold chooseFrame at h
  dsimp only at h
  split at h
  · rw [resend, setPort_port_self] at h
    cases h
    rfl
  next hidle =>
    have hnone (hy : (s.port l).inFlight = some y) : y.phase = .sending 0 := by
      rw [hidle] at hy
      cases hy
    split at h
    · exact beginFrame_starts h
    · exact beginFrame_starts h
    · exact beginFrame_starts h
    split at h
    · exact beginFrame_starts h
    · exact beginFrame_starts h
    · unfold sendRelay at h
      split at h
      · exact beginFrame_starts h
      · exact hnone h
    · exact hnone h

/-! ## The choice of a transfer (R1, R12) -/

/-- What the choice leaves of the port once the byte has begun. -/
theorem beginByte_port (l : Link) (s : State) : ((beginByte l s).port l).inFlight = (s.port l).inFlight
    ∧ ((beginByte l s).port l).replies = (s.port l).replies
    ∧ ((beginByte l s).port l).notices = (s.port l).notices := by
  rw [beginByte, setPort_port_self]
  exact ⟨rfl, rfl, rfl⟩

theorem beginByte_begins {u : State} (hu : (u.port l).transfer = some t0) (hs : t0.shifting = none) :
    ((beginByte l u).port l).transfer = some { t0 with shifting := some ((u.port l).nextByte t0) } := by
  rw [beginByte, setPort_port_self, outByte_next hu hs, hu]
  rfl

theorem choosing_port (l : Link) (t0 : Transfer) (s : State) : (choosing l t0 s).port l =
    { s.port l with transfer := some { t0 with choiceMade := true, shifting := none } } := setPort_port_self _ _ _

/-- The byte that begins is the sync byte of a frame that starts, or a fill byte. -/
theorem nextByte_started {p : Port} (hm : t0.moved = 1) (h : ∀ y, p.inFlight = some y → y.phase = .sending 0) :
    p.nextByte t0 = if p.inFlight = none then 0 else 0xA5 := by
  have hmoved : t0.moved ≠ 0 := by rw [hm]; exact Nat.one_ne_zero
  cases hx : p.inFlight
  case none =>
    rw [if_pos rfl, nextByte_fill hmoved]
    intro y n hy
    rw [hx] at hy
    cases hy
  case some y =>
    rw [if_neg (Option.some_ne_none y), nextByte_sending hmoved hx (h y hx)]
    rfl

/-- The state the byte begins in. -/
theorem choice_begins {u : State} (hm : t0.moved = 1)
    (hu : u = if s.running then chooseFrame l (choosing l t0 s) else choosing l t0 s) :
    ∃ out : Byte, ((beginByte l u).port l).transfer = some { t0 with choiceMade := true, shifting := some out }
      ∧ (s.clock.regime = .run → out = if ((beginByte l u).port l).inFlight = none then 0 else 0xA5)
      ∧ (s.clock.regime ≠ .run → (∀ x n, (s.port l).inFlight = some x → x.phase ≠ .sending n) → out = 0) := by
  obtain ⟨-, -, -, htransfer⟩ := choosing_receives t0 s.running hu
  refine ⟨_, beginByte_begins htransfer rfl, fun hrun => ?_, fun hstill hno => ?_⟩
  · have hrunning : s.running = true := by simp [State.running, hrun]
    rw [hrunning, if_pos rfl] at hu
    rw [(beginByte_port l u).1]
    exact nextByte_started (t0 := { t0 with choiceMade := true, shifting := none }) hm
      fun y hy => chooseFrame_starts (hu ▸ hy)
  · have hrunning : s.running = false := by simp [State.running, hstill]
    rw [hrunning, if_neg Bool.false_ne_true] at hu
    refine nextByte_fill (t0 := { t0 with choiceMade := true, shifting := none })
      (fun h0 => Nat.one_ne_zero (hm.symm.trans h0)) fun x n hx => hno x n ?_
    rwa [hu, choosing_port] at hx

theorem outboundChoice_running (ht : (s.port l).transfer = some t0) (hm : t0.moved = 1) (hc : t0.choiceMade = false)
    (hrun : s.clock.regime = .run) : outboundChoice l s = beginByte l (chooseFrame l (choosing l t0 s)) := by
  rw [outboundChoice_made ht hm hc, if_pos (by simp [State.running, hrun])]

theorem outboundChoice_stopped (ht : (s.port l).transfer = some t0) (hm : t0.moved = 1) (hc : t0.choiceMade = false)
    (hrun : s.clock.regime ≠ .run) : outboundChoice l s = beginByte l (choosing l t0 s) := by
  rw [outboundChoice_made ht hm hc, if_neg (by simp [State.running, hrun])]

/-! ## What leaves each source (R13) -/

theorem resend_port (l : Link) (x : InFlight) (s : State) : (resend l x s).port l =
    { s.port l with inFlight := some { x with phase := .sending 0 } } := setPort_port_self _ _ _

theorem sendNotice_port (l : Link) (n : Notice) (s : State) : (sendNotice l n s).port l = { s.port l with
    notices := (s.port l).notices.erase n
    inFlight := some { frame := n.frame, source := .notice, phase := .sending 0 } } := by
  rw [sendNotice, beginFrame_port, setPort_port_self]

theorem sendReply_port (l : Link) (f : Frame) (rest : List Frame) (s : State) : (sendReply l f rest s).port l =
    { s.port l with
      replies := rest
      inFlight := some { frame := f, source := .reply, phase := .sending 0 } } := by
  rw [sendReply, beginFrame_port, setPort_port_self]

/-- The choice finds every source as it stood. -/
theorem choosing_sources (l : Link) (t0 : Transfer) (s : State) :
    ((choosing l t0 s).port l).inFlight = (s.port l).inFlight
      ∧ ((choosing l t0 s).port l).replies = (s.port l).replies
      ∧ ((choosing l t0 s).port l).notices = (s.port l).notices
      ∧ (choosing l t0 s).keySource l = s.keySource l ∧ (choosing l t0 s).resultSource l = s.resultSource l
      ∧ (choosing l t0 s).relaySource l = s.relaySource l := by
  rw [choosing_port]
  exact ⟨rfl, rfl, rfl, rfl, rfl, rfl⟩

/-- Settles O11: the arbiter's cases in their order, each with what leaves its source. -/
theorem arbiterServesInItsOrder : Obligations.ArbiterServesInItsOrder := by
  intro l t0 s ht
  refine ⟨fun h => congrArg _ (outboundChoice_none ht h), fun hm hc => ⟨outboundChoice l s, rfl, ?_, fun hstill => ?_,
    fun hrun => ?_⟩⟩
  · rw [outboundChoice_made ht hm hc]
    exact choice_begins hm rfl
  · rw [outboundChoice_stopped ht hm hc hstill]
    obtain ⟨hflight, hreplies, hnotices⟩ := beginByte_port l (choosing l t0 s)
    rw [choosing_port] at hflight hreplies hnotices
    exact ⟨hflight, hreplies, hnotices, rfl, rfl, rfl⟩
  · rw [outboundChoice_running ht hm hc hrun]
    obtain ⟨hflight, hreplies, hnotices, hkeys, hresult, hrelay⟩ := choosing_sources l t0 s
    simp only [beginByte_port, ← hflight, ← hreplies, ← hnotices, ← hkeys, ← hresult, ← hrelay]
    refine ⟨fun x hx => ?_, fun hidle => ⟨fun n hn => ?_, fun hstarted => ⟨fun f rest hf => ?_, fun hempty =>
      ⟨fun n rest hn => ?_, fun hquiet => ⟨fun h hk => ?_, fun hk => ⟨fun h x hx => ?_, fun hx hr => ?_⟩⟩⟩⟩⟩⟩
    · rw [chooseFrame_resend hx, resend_port]
      exact ⟨rfl, rfl, rfl⟩
    · rw [chooseFrame_started hidle hn, sendNotice_port]
      exact ⟨rfl, rfl, rfl⟩
    · rw [chooseFrame_reply hidle hstarted hf, sendReply_port]
      exact ⟨rfl, rfl, rfl⟩
    · rw [chooseFrame_notice hidle hstarted hempty hn, sendNotice_port, hn]
      exact ⟨rfl, List.erase_cons_head n rest⟩
    · rw [chooseFrame_keys hidle hempty hquiet hk, sendKeys, beginFrame_port]
      exact ⟨rfl, rfl⟩
    · rw [chooseFrame_result hidle hempty hquiet hk hx, sendResult, beginFrame_port]
      exact ⟨rfl, rfl⟩
    · rw [chooseFrame_nothing hidle hempty hquiet hk hx (nextChannel_nothing hr)]
      exact ⟨hidle, rfl, rfl, rfl⟩

end Sys2Proof.Machine
end

section
/-! SUPPORT. The turn of the relay channels: the highest level present, and in it the first channel after the one served
last (R12, R158, R159; O12). -/

namespace Sys2Proof.Machine

variable {s t : State} {l : Link} {c : Fin 32} {level : Fin 4}

/-! ## The circular turn (R159) -/

/-- The place of a channel in the turn after `last` is its distance from the channel behind `last`. -/
theorem turn_place (last : Fin 32) {i : Nat} (hi : i < 32) :
    (Fin.ofNat 32 (last.val + 1 + i) - (last + 1)).val = i := by
  simp only [Fin.sub_def, Fin.add_def, Fin.ofNat, Fin.val_one]
  omega

theorem turn_of_place (last c : Fin 32) : Fin.ofNat 32 (last.val + 1 + (c - (last + 1)).val) = c := by
  apply Fin.ext
  simp only [Fin.sub_def, Fin.add_def, Fin.ofNat, Fin.val_one]
  omega

/-- The first of the turn that meets a test is the one the fewest places on. -/
theorem turnAfter_find? {last : Fin 32} {p : Fin 32 → Bool} (h : (turnAfter last).find? p = some c) :
    p c = true ∧ ∀ c', p c' = true → (c - (last + 1)).val ≤ (c' - (last + 1)).val := by
  obtain ⟨hp, i, hi, hc, hbefore⟩ := List.find?_eq_some_iff_getElem.mp h
  have hi32 : i < 32 := by simpa [turnAfter] using hi
  have hplace : (c - (last + 1)).val = i := by
    rw [← hc]
    simp only [turnAfter, List.getElem_map, List.getElem_range]
    exact turn_place last hi32
  refine ⟨hp, fun c' hp' => ?_⟩
  rw [hplace]
  by_contra hlt
  have hmiss := hbefore (c' - (last + 1)).val (Nat.lt_of_not_le hlt)
  simp only [turnAfter, List.getElem_map, List.getElem_range, turn_of_place, hp'] at hmiss
  exact absurd hmiss Bool.false_ne_true

/-! ## The channel served next (R12) -/

theorem nextAtLevel_some (h : s.nextAtLevel l level = some c) : s.feed l c ≠ [] ∧ s.channelLevel c = level.val
    ∧ ∀ c', s.feed l c' ≠ [] → s.channelLevel c' = level.val →
      (c - ((s.relay.lastServed.get l)[level] + 1)).val ≤ (c' - ((s.relay.lastServed.get l)[level] + 1)).val := by
  obtain ⟨hc, hfirst⟩ := turnAfter_find? h
  simp only [Bool.and_eq_true, Bool.not_eq_true', List.isEmpty_eq_false_iff, beq_iff_eq] at hc hfirst
  exact ⟨hc.1, hc.2, fun c' hfeed hlevel => hfirst c' ⟨hfeed, hlevel⟩⟩

theorem mem_turnAfter (last c : Fin 32) : c ∈ turnAfter last :=
  List.mem_map.mpr ⟨(c - (last + 1)).val, List.mem_range.mpr (c - (last + 1)).isLt, turn_of_place last c⟩

theorem nextAtLevel_none (h : s.nextAtLevel l level = none) (c : Fin 32) (hfeed : s.feed l c ≠ []) :
    s.channelLevel c ≠ level.val := by
  have hmiss := List.find?_eq_none.mp h c (mem_turnAfter _ c)
  simp only [Bool.and_eq_true, Bool.not_eq_true', List.isEmpty_eq_false_iff, beq_iff_eq, not_and] at hmiss
  exact hmiss hfeed

/-- The levels are searched from the highest down. -/
theorem nextChannel_some (h : s.nextChannel l = some (level, c)) :
    s.nextAtLevel l level = some c ∧ ∀ higher > level, s.nextAtLevel l higher = none := by
  obtain ⟨before, at_, rest, hsplit, hat, hbefore⟩ := List.findSome?_eq_some_iff.mp h
  obtain ⟨c', hc', heq⟩ := Option.map_eq_some_iff.mp hat
  cases heq
  refine ⟨hc', fun higher hgt => ?_⟩
  have hsorted : ([3, 2, 1, 0] : List (Fin 4)).Pairwise (· > ·) := by decide
  have hmem : higher ∈ ([3, 2, 1, 0] : List (Fin 4)) := by fin_cases higher <;> decide
  rw [hsplit] at hsorted hmem
  obtain ⟨-, hrest, -⟩ := List.pairwise_append.mp hsorted
  rcases List.mem_append.mp hmem with hmem | hmem
  · exact Option.map_eq_none_iff.mp (hbefore higher hmem)
  · rcases List.mem_cons.mp hmem with rfl | hmem
    · exact absurd hgt (lt_irrefl _)
    · exact absurd hgt (lt_asymm (List.rel_of_pairwise_cons hrest hmem))

/-- With every level below 4, a channel that waits is found. -/
theorem nextChannel_of_relaySource (h : s.relaySource l = true) (hlevels : ∀ c, s.channelLevel c < 4) :
    ∃ level c, s.nextChannel l = some (level, c) := by
  obtain ⟨c, hfeed⟩ := relaySource_iff.mp h
  cases hnext : s.nextChannel l
  case some x => exact ⟨x.1, x.2, rfl⟩
  case none =>
    have hmem : (⟨s.channelLevel c, hlevels c⟩ : Fin 4) ∈ ([3, 2, 1, 0] : List (Fin 4)) := by
      generalize (⟨s.channelLevel c, hlevels c⟩ : Fin 4) = level
      fin_cases level <;> decide
    have hnone := Option.map_eq_none_iff.mp (List.findSome?_eq_none_iff.mp hnext _ hmem)
    exact absurd rfl (nextAtLevel_none hnone c hfeed)

theorem channelLevel_bound {o : Binding} (h : (s.channel c).binding = some o) : s.channelLevel c = o.level := by
  rw [State.channelLevel, h]

/-- No channel that waits stands at a higher level than the one chosen. -/
theorem nextChannel_highest (h : s.nextChannel l = some (level, c)) (hlevels : ∀ c, s.channelLevel c < 4) (c' : Fin 32)
    (hfeed : s.feed l c' ≠ []) : s.channelLevel c' ≤ level.val := by
  obtain ⟨-, hhigher⟩ := nextChannel_some h
  by_contra hgt
  exact nextAtLevel_none (hhigher ⟨s.channelLevel c', hlevels c'⟩ (Nat.lt_of_not_le hgt)) c' hfeed rfl

/-! ## The block sent (R13, R158) -/

theorem feed_bound (h : s.feed l c ≠ []) : ∃ o, (s.channel c).binding = some o := by
  cases ho : (s.channel c).binding
  case some o => exact ⟨o, rfl⟩
  case none => exact absurd (by rw [State.feed, ho]) h

theorem sendRelay_sends {o : Binding} {d : List Byte} {rest : List (List Byte)} (ho : (s.channel c).binding = some o)
    (hfeed : s.feed l c = d :: rest) : sendRelay l level c s = beginFrame l
      { kind := if l = .r then 0x5D else 0x5C
        tenant := if l = .a then tenantByte o.owner.tenantField else 0, tag := 0
        body := channelByte c :: (s.channel c).number :: d }
      (if l = .r then .forward c else .deliver c) ((s.setBinding c (some (o.dropHead l))).recordServed l level c) := by
  simp only [sendRelay, ho, hfeed]
  cases l <;> rfl

/-- A channel's queue toward a link without its oldest block. -/
theorem feed_dropHead {o : Binding} (ho : (s.channel c).binding = some o)
    (ht : (t.channel c).binding = some (o.dropHead l)) :
    t.feed l c = (s.feed l c).tail := by
  rw [State.feed, State.feed, ho, ht]
  cases l with
  | r => rfl
  | p => dsimp only [Binding.dropHead]; split <;> rfl
  | a => dsimp only [Binding.dropHead]; split <;> rfl

theorem recordServed_lastServed (l k : Link) (level level' : Fin 4) (c : Fin 32) (s : State) :
    ((s.recordServed l level c).relay.lastServed.get k)[level'] =
      if k = l ∧ level' = level then c else (s.relay.lastServed.get k)[level'] := by
  simp only [State.recordServed, PerLink.get_set]
  by_cases hk : k = l
  · subst hk
    by_cases hlevel : level' = level
    · simp [hlevel]
    · have hval : level.val ≠ level'.val := fun h => hlevel (Fin.ext h.symm)
      simp [hlevel, hval]
  · simp [hk]

/-- Settles O12: the choice of the channel, and what its frame takes with it. -/
theorem relayTurnIsFair : Obligations.RelayTurnIsFair := by
  intro l t0 s ht hm hc hrun hidle hreplies hnotices hkeys hresult hrelay hlevels
  obtain ⟨level, c, hnext⟩ := nextChannel_of_relaySource hrelay hlevels
  obtain ⟨hat, -⟩ := nextChannel_some hnext
  obtain ⟨hfeed, hlevel, hfirst⟩ := nextAtLevel_some hat
  obtain ⟨o, ho⟩ := feed_bound hfeed
  obtain ⟨d, rest, hd⟩ := List.exists_cons_of_ne_nil hfeed
  obtain ⟨hidle', hreplies', hnotices', hkeys', hresult', -⟩ := choosing_sources l t0 s
  have hsent : outboundChoice l s = beginByte l (sendRelay l level c (choosing l t0 s)) := by
    rw [outboundChoice_running ht hm hc hrun, chooseFrame_relay (hidle'.trans hidle) (hreplies'.trans hreplies)
      (hnotices'.trans hnotices) (hkeys'.trans hkeys) (hresult'.trans hresult) hnext]
  have hframe := sendRelay_sends (s := choosing l t0 s) (level := level) ho hd
  refine ⟨outboundChoice l s, c, o, d, rest, level, rfl, ho, (channelLevel_bound ho).symm.trans hlevel, hd, ?_, ?_,
    nextChannel_highest hnext hlevels, hfirst, ?_, fun k level' hother => ?_⟩
  · have hbinding : ((outboundChoice l s).channel c).binding = some (o.dropHead l) := by
      rw [hsent, hframe]
      simp [beginFrame, beginByte, setBinding_channel]
    rw [feed_dropHead ho hbinding, hd, List.tail_cons]
  · rw [hsent, beginByte_inFlight, hframe, beginFrame_port]
    rfl
  · rw [hsent, hframe]
    exact (recordServed_lastServed l l level level c _).trans (if_pos ⟨rfl, rfl⟩)
  · rw [hsent, hframe]
    exact (recordServed_lastServed l k level level' c _).trans (if_neg fun h => hother (by rw [h.1, h.2]))

end Sys2Proof.Machine
end

section
/-! SUPPORT. The bridge's turnover, the expiry of a field reset and the field events (R125, R126, R129; O45). -/

namespace Sys2Proof.Machine

variable {s t : State} {h : Subject} {k : EndingKind} {f : FieldReset}

/-! ## The turnover (R125) -/

/-- An exchange in flight is marked and runs on. -/
theorem clessTurnover_marks (old : Option Subject) (hf : s.bridge.isInFlight = true) :
    (clessTurnover old s).bridge.fieldReset = s.bridge.fieldReset ∧ (clessTurnover old s).bridge.isInFlight = true
      ∧ (clessTurnover old s).bridge.record = s.bridge.record.map fun x => { x with discard := true } := by
  unfold clessTurnover
  dsimp only
  cases he : s.bridge.exchange
  case idle | armed | result => simp [Bridge.isInFlight, he] at hf
  all_goals exact ⟨rfl, rfl, by simp only [Bridge.record, he]; rfl⟩

/-- The result's copy is cancelled and leaves the bridge's interval. -/
theorem cancelFrom_interval (l : Link) (s : State) : (cancelFrom l .clResult s).bridge.interval = s.bridge.interval := by
  rw [cancelFrom_result]
  split
  · simp only [bridgeResultGone]
    split <;> rfl
  · rfl

/-- In any other state the exchange or result is dropped, and the field reset begins with the interval as it stands. -/
theorem clessTurnover_drops (old : Option Subject) (hf : s.bridge.isInFlight = false) :
    (clessTurnover old s).bridge.exchange = .idle
      ∧ (clessTurnover old s).bridge.fieldReset =
        some { timer := { elapsed := 0, due := false }, interval := s.bridge.interval, forTurnover := true } := by
  unfold clessTurnover
  dsimp only
  cases he : s.bridge.exchange
  case idle => exact ⟨he, rfl⟩
  case armed x => simp [beginFieldReset, Timer.zero]
  case result =>
    cases old with
    | none => exact ⟨rfl, rfl⟩
    | some h => exact ⟨rfl, by simp [beginFieldReset, cancelFrom_interval, Timer.zero]⟩
  all_goals simp [Bridge.isInFlight, he] at hf

/-- A result leaves the slot, and its copy the holder's port. -/
theorem clessTurnover_discards (h : Subject) (hr : s.bridge.exchange = .result) :
    (clessTurnover (some h) s).bridge.slot = none
      ∧ (s.inFlightFrom h.link .clResult = true → ((clessTurnover (some h) s).port h.link).inFlight = none) := by
  simp only [clessTurnover, hr]
  refine ⟨rfl, fun hcopy => ?_⟩
  change ((cancelFrom h.link .clResult s).port h.link).inFlight = none
  rw [cancelFrom, if_pos hcopy, cancelInFlight_inFlight, if_pos rfl]

theorem enterTurnover_cless (k : EndingKind) (hh : s.holder .cless = some h) : enterTurnover .cless k s =
    clessTurnover (some h) (s.setEntry .cless { s.entry .cless with state := .turnover k }) := by
  rw [enterTurnover, hh]

theorem enterTurnover_cless_entry (k : EndingKind) (s : State) : (enterTurnover .cless k s).entry .cless =
    { s.entry .cless with state := .turnover k } := by
  rw [enterTurnover, (clessTurnover_reads _ _).1, setEntry_entry_self]

/-! ## The expiry of a field reset (R126, R141) -/

/-- The state in which the gate is judged: CLRST is inactive, and a turnover the reset was begun for is complete. -/
def resetExpired (f : FieldReset) (s : State) : State :=
  let u := { s with bridge := { s.bridge with fieldReset := none } }
  if f.forTurnover then completeTurnover .cless u else u

theorem fieldResetExpiry_due (hf : s.bridge.fieldReset = some f) (hdue : f.timer.due = true) :
    fieldResetExpiry s = judgeGate (resetExpired f s) := by
  simp only [fieldResetExpiry, hf, if_pos hdue]
  rfl

theorem resetExpired_stands (f : FieldReset) (s : State) :
    (resetExpired f s).bridge = { s.bridge with fieldReset := none } ∧ (resetExpired f s).air = s.air
      ∧ (resetExpired f s).clock = s.clock := by
  unfold resetExpired
  dsimp only
  split
  · simp
  · exact ⟨rfl, rfl, rfl⟩

theorem judgeGate_clrst (h : s.bridge.fieldReset = none) : (judgeGate s).clrst = false := by
  unfold judgeGate State.clrst
  split
  · split <;> simp [h]
  · simp [h]

theorem judgeGate_entry (s : State) (r : Resource) : (judgeGate s).entry r = s.entry r :=
  entry_congr (judgeGate_frame s).2.2.2.2.1 r

/-! ## Field events (R129) -/

theorem clfevEdge_same {level : Bool} (h : level = s.lines.clfev) : clfevEdge level s = s := if_pos h

theorem clfevEdge_silent {level : Bool} (h : level ≠ s.lines.clfev) (hr : s.bridge.fieldReset ≠ none) :
    clfevEdge level s = { s with lines := { s.lines with clfev := level } } := by
  have hclrst : State.clrst { s with lines := { s.lines with clfev := level } } = true :=
    Option.isSome_iff_ne_none.mpr hr
  rw [clfevEdge, if_neg h]
  exact if_pos hclrst

theorem clfevEdge_told {level : Bool} (h : level ≠ s.lines.clfev) (hr : s.bridge.fieldReset = none) :
    clfevEdge level s = wake .field (notifySubject s.fieldListener (.field level (stampOf s.clock.partTime))
      { s with lines := { s.lines with clfev := level } }) := by
  have hclrst : State.clrst { s with lines := { s.lines with clfev := level } } = false := by
    simp [State.clrst, hr]
  rw [clfevEdge, if_neg h]
  simp only [hclrst]
  rfl

/-- Settles O45: the turnover by the exchange state, the expiry by the reset's purpose, and the edge by CLRST. -/
theorem cardTurnoverAndFieldReset : Obligations.CardTurnoverAndFieldReset := by
  refine ⟨fun k h s hh => ?_, fun f s hf => ⟨fun hdue => ?_, fun hdue => ?_⟩, fun s hf => ?_,
    fun level s => ⟨fun hsame => ?_, fun hne hr => ?_, fun hne hr => ?_⟩⟩
  · dsimp only
    have hturn := enterTurnover_cless k hh
    have hbridge : (s.setEntry .cless { s.entry .cless with state := .turnover k }).bridge = s.bridge := rfl
    have hcopy : (s.setEntry .cless { s.entry .cless with state := .turnover k }).inFlightFrom h.link .clResult =
        s.inFlightFrom h.link .clResult := rfl
    generalize s.setEntry .cless { s.entry .cless with state := .turnover k } = u at hturn hbridge hcopy
    rw [enterTurnover_cless_entry, hturn, ← hbridge, ← hcopy]
    exact ⟨rfl, rfl, clessTurnover_marks _, clessTurnover_drops _, clessTurnover_discards h⟩
  · exact congrArg _ (fieldResetExpiry_not_due fun g hg => by rw [hf] at hg; cases hg; exact hdue)
  · obtain ⟨hbridge, hair, hclock⟩ := resetExpired_stands f s
    have hexpired : (resetExpired f s).bridge.fieldReset = none := by rw [hbridge]
    refine ⟨judgeGate (resetExpired f s), congrArg _ (fieldResetExpiry_due hf hdue), judgeGate_clrst hexpired,
      fun hpurpose => ?_, fun hpurpose => ?_, fun x hx hgate hlocked => ?_⟩
    · rw [holder_congr (judgeGate_frame _).2.2.2.2.1, judgeGate_entry, resetExpired, if_pos hpurpose]
      exact (completeTurnover_outcome .cless _).2
    · rw [(judgeGate_frame _).2.2.2.2.1, (judgeGate_frame _).2.1, resetExpired, if_neg (by simp [hpurpose])]
      exact ⟨rfl, rfl⟩
    · have harmed : (resetExpired f s).bridge.exchange = .armed x := by rw [hbridge]; exact hx
      have hgate' : (resetExpired f s).gateOpen = true := by
        rw [State.gateOpen, hair]
        exact hgate
      rw [judgeGate_starts harmed ⟨hgate', hexpired, by rw [hclock]; exact hlocked⟩]
  · exact congrArg _ (fieldResetExpiry_not_due fun g hg => by rw [hf] at hg; cases hg)
  · exact congrArg _ (clfevEdge_same hsame)
  · exact congrArg _ (clfevEdge_silent hne hr)
  · refine ⟨clfevEdge level s, rfl, by rw [clfevEdge_told hne hr]; simp, fun who hwho hroom => ?_, fun hawake => ?_,
      fun hdoze => ?_⟩
    · have hlistener : s.fieldListener = who := hwho.symm
      rw [clfevEdge_told hne hr, hlistener, (wake_reads _ _).1, notifySubject]
      exact notify_notices hroom
    · rw [clfevEdge_told hne hr, wake_of_not_doze (by simpa using hawake)]
      simp
    · rw [clfevEdge_told hne hr, wake, if_pos (by simpa using hdoze)]
      simp

end Sys2Proof.Machine
end

section
/-! SUPPORT. What a RESTART does to custody (R64): each resource loses the restarted domain, the settings stand, and a
port stands as it was where nobody of its link waits but the restarted domain (O17). -/

namespace Sys2Proof.Machine

variable {s t u : State} {r : Resource} {l k : Link} {ws : List Waiter} {e : CustodyEntry}

/-! ## What stands through a RESTART -/

/-- The arrivals, a pending takeover, and the settings of the key unit, the printer, the bridge and the air schedule. -/
def State.kept (s : State) : (BitVec 32 × Bool) × (KeySettings × MatchSettings) × List Byte × (Byte × Nat)
    × AirMap × Option AirMap :=
  ((s.custody.arrivals, s.custody.pendingTakeover), (s.keys.settings, s.keys.matching), s.printer.separator,
    (s.bridge.counter, s.bridge.interval), s.air.inForce, s.air.pendingMap)

theorem kept_congr (hc : t.custody = s.custody) (hk : t.keys = s.keys) (hp : t.printer = s.printer)
    (hb : t.bridge = s.bridge) (ha : t.air = s.air) : t.kept = s.kept := by
  rw [State.kept, State.kept, hc, hk, hp, hb, ha]

theorem grantStarted_kept (r : Resource) (who : Subject) (s : State) : (grantStarted r who s).kept = s.kept := by
  cases r with
  | keypad =>
    by_cases hp : who = .pay
    · rw [grantStarted, if_pos hp]
      rfl
    · rw [grantStarted, if_neg hp]
      rfl
  | display | cless | printer => rfl

theorem notifySubject_kept (who : Subject) (b : NoticeBody) (s : State) : (notifySubject who b s).kept = s.kept :=
  kept_congr (by simp) (by simp) (by simp) (by simp) (by simp)

theorem completeTurnover_kept (r : Resource) (s : State) : (completeTurnover r s).kept = s.kept := by
  unfold completeTurnover
  split
  · dsimp only
    split <;> rfl
  · rw [notifySubject_kept, startGrant, grantStarted_kept]
    rfl

theorem bridgeResultGone_kept (s : State) : (bridgeResultGone s).kept = s.kept := by
  unfold bridgeResultGone
  split <;> rfl

theorem cancelInFlight_kept (l : Link) (s : State) : (cancelInFlight l s).kept = s.kept := by
  unfold cancelInFlight
  split
  · rfl
  · dsimp only
    split
    · exact bridgeResultGone_kept _
    · split <;> rfl
    · rfl

theorem cancelFrom_kept (l : Link) (src : FrameSource) (s : State) : (cancelFrom l src s).kept = s.kept := by
  unfold cancelFrom
  split
  · exact cancelInFlight_kept l s
  · rfl

/-! ## A port that a cancellation leaves -/

theorem bridgeResultGone_port (s : State) (k : Link) : (bridgeResultGone s).port k = s.port k :=
  port_congr (bridgeResultGone_frame s).2.1 k

/-- Only a frame in flight of the port itself is cancelled. -/
theorem cancelInFlight_port (h : k ≠ l ∨ (s.port k).inFlight = none) : (cancelInFlight l s).port k = s.port k := by
  rcases eq_or_ne k l with rfl | hk
  · unfold cancelInFlight
    rw [h.resolve_left (absurd rfl)]
  · exact cancelInFlight_port_other l k s hk

theorem cancelFrom_port (src : FrameSource) (h : k ≠ l ∨ (s.port k).inFlight = none) :
    (cancelFrom l src s).port k = s.port k := by
  unfold cancelFrom
  split
  · exact cancelInFlight_port h
  · rfl

/-! ## The ending of a grant, seen from one port -/

/-- An entry that names nobody but the waiters of a list. -/
def OnlyFrom (ws : List Waiter) (e : CustodyEntry) : Prop :=
  (∀ g, e.grant = some g → ∃ w ∈ ws, g.holder = w.subject) ∧ ∀ w ∈ e.waiting, w ∈ ws

/-- What an ending on one resource leaves: the entry names former waiters alone, the other entries and the settings
stand, and so does a port that no waiter is told on. -/
structure Settles (r : Resource) (k : Link) (s t : State) : Prop where
  entry : OnlyFrom (s.entry r).waiting (t.entry r)
  others : ∀ q, q ≠ r → t.entry q = s.entry q
  kept : t.kept = s.kept
  port : (∀ w ∈ (s.entry r).waiting, w.subject.link ≠ k) → t.port k = s.port k

/-- What comes before an ending may change the entry's state, not its list. -/
theorem Settles.after_state (h : Settles r k u t) (hw : (u.entry r).waiting = (s.entry r).waiting)
    (ho : ∀ q, q ≠ r → u.entry q = s.entry q) (hs : u.kept = s.kept) (hp : u.port k = s.port k) : Settles r k s t where
  entry := hw ▸ h.entry
  others q hq := (h.others q hq).trans (ho q hq)
  kept := h.kept.trans hs
  port hnone := (h.port (hw ▸ hnone)).trans hp

theorem Settles.from_ (h : Settles r k u t) (hc : u.custody = s.custody) (hs : u.kept = s.kept)
    (hp : u.port k = s.port k) : Settles r k s t :=
  h.after_state (by rw [entry_congr hc]) (fun q _ => entry_congr hc q) hs hp

theorem Settles.to (h : Settles r k s u) (hc : t.custody = u.custody) (hs : t.kept = u.kept)
    (hp : t.port k = u.port k) : Settles r k s t where
  entry := by rw [entry_congr hc]; exact h.entry
  others q hq := (entry_congr hc q).trans (h.others q hq)
  kept := hs.trans h.kept
  port hw := hp.trans (h.port hw)

theorem Settles.of_turnover {m : EndingKind} (h : (s.entry r).state = .turnover m) : Settles r k s s where
  entry := by
    refine ⟨fun g hg => ?_, fun w hw => hw⟩
    rw [CustodyEntry.grant_eq_some, h] at hg
    cases hg
  others _ _ := rfl
  kept := rfl
  port _ := rfl

/-- A completion grants the head and tells it alone. -/
theorem completeTurnover_settles (r : Resource) (k : Link) (s : State) : Settles r k s (completeTurnover r s) where
  entry := by
    cases hw : (s.entry r).waiting with
    | nil =>
      rw [completeTurnover_entry_nil hw]
      exact ⟨fun g hg => by simp [CustodyEntry.grant] at hg, fun w hw => hw⟩
    | cons w rest =>
      rw [completeTurnover_entry_cons hw]
      refine ⟨fun g hg => ⟨w, List.mem_cons_self, ?_⟩, fun v hv => List.mem_cons_of_mem w hv⟩
      cases CustodyEntry.grant_eq_some.mp hg
      rfl
  others _ hq := completeTurnover_entry_other hq
  kept := completeTurnover_kept r s
  port hnone := by
    cases hw : (s.entry r).waiting with
    | nil => exact port_congr (completeTurnover_ports_nil hw) k
    | cons w rest =>
      have hlink : k ≠ w.subject.link := fun hc => hnone w (by rw [hw]; exact List.mem_cons_self) hc.symm
      simp only [completeTurnover, hw]
      rw [notifySubject, notify_port_other _ _ _ _ hlink, port_congr (startGrant_frame _ _ _ _ _ _ _).2.1]
      rfl

theorem reportDisplayHead_settles {m : EndingKind} (h : (s.entry .display).state = .turnover m) (k : Link) :
    Settles .display k s (reportDisplayHead s) := by
  unfold reportDisplayHead
  rw [h]
  dsimp only
  split
  · exact (completeTurnover_settles .display k _).from_ rfl rfl rfl
  · exact (Settles.of_turnover h).to rfl rfl rfl

theorem endDrain_kept (s : State) : (endDrain s).kept = s.kept := by
  unfold endDrain
  split <;> rfl

theorem beginCharacter_kept (s : State) : (beginCharacter s).kept = s.kept := by
  unfold beginCharacter
  split
  · split <;> split <;> rfl
  · rfl

theorem runPrinter_settles {m : EndingKind} (h : (s.entry .printer).state = .turnover m) (k : Link) :
    Settles .printer k s (runPrinter s) := by
  have hdrain : (endDrain s).custody = s.custody ∧ (endDrain s).port k = s.port k := by simp
  have hseparator : Settles .printer k (endDrain s) (endSeparator (endDrain s)) := by
    unfold endSeparator
    split
    · exact (completeTurnover_settles .printer k _).from_ rfl rfl rfl
    · exact Settles.of_turnover (by rw [entry_congr hdrain.1]; exact h)
  exact (hseparator.from_ hdrain.1 (endDrain_kept s) hdrain.2).to (by simp [runPrinter]) (beginCharacter_kept _)
    (by simp [runPrinter])

theorem printerTurnover_settles {m : EndingKind} (n : EndingKind) (h : (s.entry .printer).state = .turnover m) (k : Link) :
    Settles .printer k s (printerTurnover n s) := by
  unfold printerTurnover
  refine Settles.from_ (runPrinter_settles (m := m) ?_ k) rfl rfl rfl
  exact h

theorem clessTurnover_kept (old : Option Subject) (s : State) : (clessTurnover old s).kept = s.kept := by
  have hjudge (u : State) : (judgeAll u).kept = u.kept := by
    have hjudge₁ (f : RadioFn) (v : State) : (judgeWaiting f v).kept = v.kept := by
      unfold judgeWaiting
      split <;> rfl
    rw [judgeAll, hjudge₁, hjudge₁, hjudge₁]
  have hreset (u : State) : (beginFieldReset u).kept = u.kept := rfl
  unfold clessTurnover
  dsimp only
  split
  case h_2 => rw [hreset, hjudge]; rfl
  case h_7 =>
    rw [hreset]
    cases old with
    | none => rfl
    | some h => exact cancelFrom_kept h.link .clResult s
  all_goals rfl

theorem clessTurnover_port {h : Subject} (hk : k ≠ h.link ∨ (s.port k).inFlight = none) :
    (clessTurnover (some h) s).port k = s.port k := by
  unfold clessTurnover
  dsimp only
  split
  case h_2 => exact port_congr (by simp) k
  case h_7 => exact cancelFrom_port .clResult hk
  all_goals rfl

theorem keypadTurnover_settles {h : Subject} (hk : k ≠ h.link ∨ (s.port k).inFlight = none) :
    Settles .keypad k s (keypadTurnover (some h) s) :=
  (completeTurnover_settles .keypad k _).from_ (by simp) (cancelFrom_kept h.link .key s) (cancelFrom_port .key hk)

/-- The state of an entry that has entered TURNOVER. -/
theorem turned_state (r : Resource) (m : EndingKind) (s : State) :
    ((s.setEntry r { s.entry r with state := .turnover m }).entry r).state = .turnover m := by rw [setEntry_entry_self]

/-- The ending of a grant settles its resource. -/
theorem enterTurnover_settles {h : Subject} (m : EndingKind) (hh : s.holder r = some h)
    (hk : k ≠ h.link ∨ (s.port k).inFlight = none) : Settles r k s (enterTurnover r m s) := by
  have hsettles : Settles r k (s.setEntry r { s.entry r with state := .turnover m }) (enterTurnover r m s) := by
    unfold enterTurnover
    rw [hh]
    cases r with
    | keypad => exact keypadTurnover_settles hk
    | display => exact reportDisplayHead_settles (turned_state .display m s) k
    | cless =>
      exact (Settles.of_turnover (turned_state .cless m s)).to (clessTurnover_frame _ _).2.2.2.1 (clessTurnover_kept _ _)
        (clessTurnover_port hk)
    | printer => exact printerTurnover_settles m (turned_state .printer m s) k
  exact hsettles.after_state (by rw [setEntry_entry_self]) (fun q hq => by rw [setEntry_entry, if_neg hq]) rfl rfl

/-! ## The restarted domain leaves a resource (R64) -/

/-- An entry in which nobody of a link stands. -/
def FreeOf (l : Link) (e : CustodyEntry) : Prop :=
  (∀ g, e.grant = some g → g.holder.link ≠ l) ∧ ∀ w ∈ e.waiting, w.subject.link ≠ l

theorem OnlyFrom.freeOf (h : OnlyFrom ws e) (hws : ∀ w ∈ ws, w.subject.link ≠ l) : FreeOf l e := by
  refine ⟨fun g hg => ?_, fun w hw => hws w (h.2 w hw)⟩
  obtain ⟨w, hw, hholder⟩ := h.1 g hg
  rw [hholder]
  exact hws w hw

/-- The waiting list without a domain. -/
def withoutDomain (l : Link) (ws : List Waiter) : List Waiter := ws.filter fun w => !w.subject.isOf l

theorem mem_withoutDomain {w : Waiter} : w ∈ withoutDomain l ws ↔ w ∈ ws ∧ w.subject.link ≠ l := by
  simp [withoutDomain, Subject.isOf]

/-- What a RESTART of `l` leaves of one resource, seen from the port of `k`. -/
structure Leaves (l : Link) (r : Resource) (k : Link) (s t : State) : Prop where
  freed : FreeOf l (t.entry r)
  waiting : ∀ w ∈ (t.entry r).waiting, w ∈ (s.entry r).waiting
  others : ∀ q, q ≠ r → t.entry q = s.entry q
  kept : t.kept = s.kept
  port : (∀ w ∈ (s.entry r).waiting, w.subject.link = k → k = l) → t.port k = s.port k

/-- An ending, or a report, on the list without the domain. -/
theorem Settles.leaves (h : Settles r k (s.setWaiting r (withoutDomain l (s.entry r).waiting)) t) : Leaves l r k s t := by
  have hlist : ((s.setWaiting r (withoutDomain l (s.entry r).waiting)).entry r).waiting =
      withoutDomain l (s.entry r).waiting := by rw [setWaiting_entry, if_pos rfl]
  have hentry := h.entry
  rw [hlist] at hentry
  refine ⟨hentry.freeOf fun w hw => (mem_withoutDomain.mp hw).2, fun w hw => (mem_withoutDomain.mp (hentry.2 w hw)).1,
    fun q hq => (h.others q hq).trans (by rw [setWaiting_entry, if_neg hq]), h.kept, fun hclean => h.port ?_⟩
  rw [hlist]
  intro w hw hk
  obtain ⟨hmem, hother⟩ := mem_withoutDomain.mp hw
  exact hother (hk.trans (hclean w hmem hk))

theorem restartEntry_held {h : Subject} (hh : s.holder r = some h) (hl : h.link = l) :
    restartEntry l s r = enterTurnover r .revoked (s.setWaiting r (withoutDomain l (s.entry r).waiting)) := by
  simp only [restartEntry, hh, Subject.isOf, hl, beq_self_eq_true, if_true]
  rfl

theorem restartEntry_other (hh : ∀ h, s.holder r = some h → h.link ≠ l) : restartEntry l s r =
    if withoutDomain l (s.entry r).waiting ≠ (s.entry r).waiting then
      changeWaiting r (withoutDomain l (s.entry r).waiting) s
    else s := by
  unfold restartEntry
  cases hr : s.holder r with
  | none => rfl
  | some h =>
    have hother : h.isOf l = false := by simpa [Subject.isOf] using hh h hr
    simp only [hother]
    rfl

/-- A resource the domain does not hold loses its waiting entries. -/
theorem setWaiting_leaves (hh : ∀ h, s.holder r = some h → h.link ≠ l) :
    Leaves l r k s (s.setWaiting r (withoutDomain l (s.entry r).waiting)) := by
  refine ⟨?_, fun w hw => ?_, fun q hq => by rw [setWaiting_entry, if_neg hq], rfl, fun _ => rfl⟩
  · rw [setWaiting_entry, if_pos rfl]
    exact ⟨fun g hg => hh g.holder (holder_eq_some.mpr ⟨g, hg, rfl⟩), fun w hw => (mem_withoutDomain.mp hw).2⟩
  · rw [setWaiting_entry, if_pos rfl] at hw
    exact (mem_withoutDomain.mp hw).1

theorem reportDisplayHead_idle (h : ∀ m, (s.entry .display).state ≠ .turnover m) : reportDisplayHead s = s := by
  unfold reportDisplayHead
  split
  next m hm => exact absurd hm (h m)
  next => rfl

theorem changeWaiting_leaves (hh : ∀ h, s.holder r = some h → h.link ≠ l) :
    Leaves l r k s (changeWaiting r (withoutDomain l (s.entry r).waiting) s) := by
  unfold changeWaiting
  dsimp only
  split
  next hr =>
    subst hr
    by_cases hturn : ∃ m, ((s.setWaiting .display (withoutDomain l (s.entry .display).waiting)).entry .display).state
        = .turnover m
    · obtain ⟨m, hm⟩ := hturn
      exact (reportDisplayHead_settles hm k).leaves
    · rw [reportDisplayHead_idle fun m hm => hturn ⟨m, hm⟩]
      exact setWaiting_leaves hh
  next => exact setWaiting_leaves hh

/-- A resource that names nobody of the domain stands as it was. -/
theorem Leaves.of_free (h : FreeOf l (s.entry r)) : Leaves l r k s s :=
  ⟨h, fun _ hw => hw, fun _ _ => rfl, rfl, fun _ => rfl⟩

theorem restartEntry_leaves (r : Resource) (hk : k = l → (s.port k).inFlight = none) :
    Leaves l r k s (restartEntry l s r) := by
  by_cases hheld : ∃ h, s.holder r = some h ∧ h.link = l
  · obtain ⟨h, hh, hl⟩ := hheld
    have hholder : (s.setWaiting r (withoutDomain l (s.entry r).waiting)).holder r = some h := by
      obtain ⟨g, hg, hgh⟩ := holder_eq_some.mp hh
      refine holder_eq_some.mpr ⟨g, ?_, hgh⟩
      rw [setWaiting_entry, if_pos rfl]
      exact hg
    have hport : k ≠ h.link ∨ ((s.setWaiting r (withoutDomain l (s.entry r).waiting)).port k).inFlight = none := by
      rw [hl]
      exact (ne_or_eq k l).imp id hk
    rw [restartEntry_held hh hl]
    exact (enterTurnover_settles .revoked hholder hport).leaves
  · have hother (h : Subject) (hh : s.holder r = some h) : h.link ≠ l := fun hl => hheld ⟨h, hh, hl⟩
    rw [restartEntry_other hother]
    split
    · exact changeWaiting_leaves hother
    next hsame =>
      refine Leaves.of_free ⟨fun g hg => hother g.holder (holder_eq_some.mpr ⟨g, hg, rfl⟩), fun w hw => ?_⟩
      rw [← not_ne_iff.mp hsame] at hw
      exact (mem_withoutDomain.mp hw).2

/-! ## All four resources -/

/-- Every waiting entry stood before. -/
def WaitersFrom (s t : State) : Prop := ∀ q, ∀ w ∈ (t.entry q).waiting, w ∈ (s.entry q).waiting

theorem Leaves.waitersFrom (h : Leaves l r k s t) : WaitersFrom s t := by
  intro q w hw
  rcases eq_or_ne q r with rfl | hq
  · exact h.waiting w hw
  · rwa [h.others q hq] at hw

/-- What a RESTART of `l` leaves of some resources, seen from the port of `k`. -/
theorem restartEntries_leave (rs : List Resource) (s : State) (hk : k = l → (s.port k).inFlight = none)
    (hclean : ∀ q, ∀ w ∈ (s.entry q).waiting, w.subject.link = k → k = l) :
    (∀ q, q ∈ rs ∨ FreeOf l (s.entry q) → FreeOf l ((rs.foldl (restartEntry l) s).entry q))
      ∧ WaitersFrom s (rs.foldl (restartEntry l) s) ∧ (rs.foldl (restartEntry l) s).kept = s.kept
      ∧ (rs.foldl (restartEntry l) s).port k = s.port k := by
  induction rs generalizing s with
  | nil => exact ⟨fun q hq => hq.resolve_left List.not_mem_nil, fun _ _ hw => hw, rfl, rfl⟩
  | cons r rs ih =>
    have hfirst := restartEntry_leaves (k := k) (s := s) (l := l) r hk
    have hport := hfirst.port (hclean r)
    obtain ⟨hfreed, hwaiting, hkept, hrest⟩ := ih (restartEntry l s r) (fun hkl => by rw [hport]; exact hk hkl)
      (fun q w hw => hclean q w (hfirst.waitersFrom q w hw))
    rw [List.foldl_cons]
    refine ⟨fun q hq => hfreed q ?_, fun q w hw => hfirst.waitersFrom q w (hwaiting q w hw), hkept.trans hfirst.kept,
      hrest.trans hport⟩
    rcases eq_or_ne q r with rfl | hqr
    · exact .inr hfirst.freed
    · rw [hfirst.others q hqr]
      exact hq.imp (fun hmem => (List.mem_cons.mp hmem).resolve_left hqr) id

theorem restartCustody_fold (hl : l ≠ .r) (s : State) : restartCustody l s = allResources.foldl (restartEntry l) s := by
  cases l with
  | r => exact absurd rfl hl
  | p | a => rfl

/-- A RESTART of the P-link or the A-link ends its domain's standing, and touches no other port that its domain alone
waits on. -/
theorem restartCustody_leaves (hl : l ≠ .r) (hk : k = l → (s.port k).inFlight = none)
    (hclean : ∀ q, ∀ w ∈ (s.entry q).waiting, w.subject.link = k → k = l) :
    (∀ q, FreeOf l ((restartCustody l s).entry q)) ∧ WaitersFrom s (restartCustody l s)
      ∧ (restartCustody l s).kept = s.kept ∧ (restartCustody l s).port k = s.port k := by
  rw [restartCustody_fold hl]
  obtain ⟨hfreed, hrest⟩ := restartEntries_leave (k := k) allResources s hk hclean
  exact ⟨fun q => hfreed q (.inl (by cases q <;> decide)), hrest⟩

end Sys2Proof.Machine
end

section
/-! SUPPORT. What a RESTART does to its port and to the relay's channels (R21, R163, R164, R171; O17). -/

namespace Sys2Proof.Machine

variable {s t u : State} {l k : Link} {c d : Fin 32} {b : Binding}

/-! ## The port's clearing (R21, R171) -/

/-- A cancelled DOZE reply ends doze pending (R171). -/
theorem cancelInFlight_clock_doze {x : InFlight} (hx : (s.port l).inFlight = some x) (hs : x.source = .reply)
    (hd : x.frame.isDozeOk = true) : (cancelInFlight l s).clock = { s.clock with dozePending := false } := by
  simp only [cancelInFlight, hx, hs, hd, if_true]
  rfl

theorem cancelInFlight_clock_other
    (h : ∀ x, (s.port l).inFlight = some x → x.source = .reply → x.frame.isDozeOk = false) :
    (cancelInFlight l s).clock = s.clock := by
  unfold cancelInFlight
  split
  · rfl
  next x hx =>
    dsimp only
    split
    · rw [(bridgeResultGone_frame _).1]
      rfl
    next hs =>
      rw [if_neg (by simp [h x hx hs])]
      rfl
    · rfl

/-- The port with its replies, notices and conditions gone. -/
def linkCleared (l : Link) (s : State) : State :=
  s.setPort l { s.port l with replies := [], notices := [], conditions := 0 }

theorem linkCleared_inFlight (l : Link) (s : State) : ((linkCleared l s).port l).inFlight = (s.port l).inFlight := by
  rw [linkCleared, setPort_port_self]

theorem restartLink_dozing (h : (s.port l).replies.any Frame.isDozeOk = true) : restartLink l s =
    cancelInFlight l (linkCleared l { s with clock := { s.clock with dozePending := false } }) := by
  simp only [restartLink, h, if_true]
  rfl

theorem restartLink_quiet (h : (s.port l).replies.any Frame.isDozeOk = false) :
    restartLink l s = cancelInFlight l (linkCleared l s) := by
  simp only [restartLink, h]
  rfl

/-- A DOZE reply that the port discards ends doze pending. -/
theorem restartLink_clock_doze (h : (∃ x ∈ (s.port l).replies, x.isDozeOk = true)
      ∨ ∃ x, (s.port l).inFlight = some x ∧ x.source = .reply ∧ x.frame.isDozeOk = true) :
    (restartLink l s).clock = { s.clock with dozePending := false } := by
  cases hany : (s.port l).replies.any Frame.isDozeOk
  case false =>
    obtain ⟨x, hx, hs, hd⟩ := h.resolve_left fun hreply => by
      rw [← List.any_eq_true, hany] at hreply
      exact absurd hreply Bool.false_ne_true
    rw [restartLink_quiet hany, cancelInFlight_clock_doze ((linkCleared_inFlight l s).trans hx) hs hd]
    rfl
  case true =>
    rw [restartLink_dozing hany]
    by_cases hflight : ∃ x, (s.port l).inFlight = some x ∧ x.source = .reply ∧ x.frame.isDozeOk = true
    · obtain ⟨x, hx, hs, hd⟩ := hflight
      exact cancelInFlight_clock_doze ((linkCleared_inFlight l _).trans hx) hs hd
    · refine cancelInFlight_clock_other fun x hx hs => ?_
      rw [linkCleared_inFlight] at hx
      exact Bool.eq_false_iff.mpr fun hd => hflight ⟨x, hx, hs, hd⟩

theorem restartLink_clock_stands (hr : ∀ x ∈ (s.port l).replies, x.isDozeOk = false)
    (hf : ∀ x, (s.port l).inFlight = some x → x.source = .reply → x.frame.isDozeOk = false) :
    (restartLink l s).clock = s.clock := by
  have hany : (s.port l).replies.any Frame.isDozeOk = false := by
    rw [List.any_eq_false]
    intro x hx
    rw [hr x hx]
    exact Bool.false_ne_true
  rw [restartLink_quiet hany]
  exact cancelInFlight_clock_other fun x hx => hf x ((linkCleared_inFlight l s).symm.trans hx)

/-- The part of the port that the clearing empties, and the part that it leaves. -/
structure Cleared (p q : Port) : Prop where
  replies : q.replies = []
  notices : q.notices = []
  conditions : q.conditions = 0
  inFlight : q.inFlight = none
  rxBuffer : q.rxBuffer = p.rxBuffer
  enables : q.enables = p.enables
  receiver : q.receiver = p.receiver
  lastRx : q.lastRx = p.lastRx

theorem cancelInFlight_conditions (k l : Link) (s : State) :
    ((cancelInFlight l s).port k).conditions = (s.port k).conditions
      ∧ ((cancelInFlight l s).port k).notices = (s.port k).notices := by
  have hdrop : ((s.setPort l { s.port l with inFlight := none }).port k).conditions = (s.port k).conditions
      ∧ ((s.setPort l { s.port l with inFlight := none }).port k).notices = (s.port k).notices := by
    rw [setPort_port]
    split
    next hk =>
      subst hk
      exact ⟨rfl, rfl⟩
    · exact ⟨rfl, rfl⟩
  unfold cancelInFlight
  split
  · exact ⟨rfl, rfl⟩
  · dsimp only
    split
    · rwa [bridgeResultGone_port]
    · split <;> exact hdrop
    · exact hdrop

theorem linkCleared_cleared (l : Link) (s : State) : Cleared (s.port l) ((cancelInFlight l (linkCleared l s)).port l) := by
  obtain ⟨hreceiver, hrx, hreplies, hlast, henables, -⟩ := Port.inbound_eq.mp (cancelInFlight_inbound l l (linkCleared l s))
  obtain ⟨hconditions, hnotices⟩ := cancelInFlight_conditions l l (linkCleared l s)
  have hflight : ((cancelInFlight l (linkCleared l s)).port l).inFlight = none := by
    rw [cancelInFlight_inFlight, if_pos rfl]
  rw [linkCleared, setPort_port_self] at hreceiver hrx hreplies hlast henables hconditions hnotices
  exact ⟨hreplies, hnotices, hconditions, hflight, hrx, henables, hreceiver, hlast⟩

theorem restartLink_cleared (l : Link) (s : State) : Cleared (s.port l) ((restartLink l s).port l) := by
  cases hany : (s.port l).replies.any Frame.isDozeOk
  case false =>
    rw [restartLink_quiet hany]
    exact linkCleared_cleared l s
  case true =>
    rw [restartLink_dozing hany]
    exact linkCleared_cleared l { s with clock := { s.clock with dozePending := false } }

theorem linkCleared_stands (l : Link) (s : State) : (cancelInFlight l (linkCleared l s)).kept = s.kept
    ∧ ∀ k, k ≠ l → (cancelInFlight l (linkCleared l s)).port k = s.port k :=
  ⟨cancelInFlight_kept l _, fun k hk => by
    rw [cancelInFlight_port_other l k _ hk, linkCleared, setPort_port_other _ _ _ _ hk]⟩

theorem restartLink_stands (l : Link) (s : State) : (restartLink l s).kept = s.kept
    ∧ ∀ k, k ≠ l → (restartLink l s).port k = s.port k := by
  cases hany : (s.port l).replies.any Frame.isDozeOk
  case false =>
    rw [restartLink_quiet hany]
    exact linkCleared_stands l s
  case true =>
    rw [restartLink_dozing hany]
    exact linkCleared_stands l { s with clock := { s.clock with dozePending := false } }

end Sys2Proof.Machine
end

section
/-! SUPPORT. What a RESTART does to the relay's channels and to the radio grants (R145, R163, R164; O17). -/

namespace Sys2Proof.Machine

variable {s t u before : State} {l k : Link} {c d : Fin 32} {b : Binding} {cs : List (Fin 32)}

/-! ## The channels of a restarted domain (R163) -/

theorem restartUnbinds_iff : restartUnbinds l c = true ↔ (l = .p ∧ c.val < 4) ∨ (l = .a ∧ 4 ≤ c.val) := by
  cases l <;> simp [restartUnbinds]

theorem restartChannel_unbinds (hb : (s.channel c).binding.isSome = true) (hl : restartUnbinds l c = true) :
    restartChannel l s c = notifyClosedRad c .restart (unbindChannel c s) := if_pos ⟨hb, hl⟩

theorem restartChannel_stands (h : ¬ ((s.channel c).binding.isSome = true ∧ restartUnbinds l c = true)) :
    restartChannel l s c = s := if_neg h

theorem restartChannel_channel (l : Link) (s : State) (c d : Fin 32) : (restartChannel l s c).channel d =
    if d = c ∧ restartUnbinds l c = true then { s.channel d with binding := none } else s.channel d := by
  by_cases h : (s.channel c).binding.isSome = true ∧ restartUnbinds l c = true
  · rw [restartChannel_unbinds h.1 h.2, (notifyClosedRad_reads _ _ _).2.2.2.2.2.2.1, unbindChannel_channel]
    simp [h.2]
  · rw [restartChannel_stands h]
    split
    next hd =>
      obtain ⟨rfl, hl⟩ := hd
      have hnone : (s.channel d).binding = none := by
        rw [← Option.not_isSome_iff_eq_none]
        exact fun hb => h ⟨hb, hl⟩
      rw [← hnone]
    next => rfl

/-- A port with nothing in flight stands as channels are unbound. -/
theorem unbindChannel_port (hk : (s.port k).inFlight = none) : (unbindChannel c s).port k = s.port k := by
  unfold unbindChannel
  split
  · rfl
  next b _ =>
    have hfirst : (cancelFrom .r (.forward c) s).port k = s.port k := cancelFrom_port _ (.inr hk)
    have hsecond : (cancelFrom b.owner.link (.deliver c) (cancelFrom .r (.forward c) s)).port k
        = (cancelFrom .r (.forward c) s).port k := cancelFrom_port _ (.inr (by rw [hfirst]; exact hk))
    exact hsecond.trans hfirst

theorem restartChannel_port (hr : k ≠ .r) (hk : (s.port k).inFlight = none) :
    (restartChannel l s c).port k = s.port k := by
  by_cases h : (s.channel c).binding.isSome = true ∧ restartUnbinds l c = true
  · rw [restartChannel_unbinds h.1 h.2, notifyClosedRad, notifyLink_port_other _ _ _ _ hr, unbindChannel_port hk]
  · rw [restartChannel_stands h]

/-- What the R-link is told of one channel. -/
def restartNotice (l : Link) (s : State) (c : Fin 32) : List Notice :=
  if (s.channel c).binding.isSome = true ∧ restartUnbinds l c = true then
    [{ tenant := 0, body := .chClosed c (s.channel c).number .restart }]
  else []

theorem restartChannel_adds (l : Link) (s : State) (c : Fin 32) :
    Adds .r (restartNotice l s c) s (restartChannel l s c) := by
  unfold restartNotice
  split
  next h =>
    have hnumber : ((unbindChannel c s).channel c).number = (s.channel c).number := by
      rw [unbindChannel_channel, if_pos rfl]
    have hadds := notify_adds (l := .r) .r
      { tenant := 0, body := .chClosed c ((unbindChannel c s).channel c).number .restart } (unbindChannel c s)
    rw [if_pos rfl, hnumber] at hadds
    have hboth := (Adds.none (unbindChannel_notices s c .r)).trans hadds
    rw [← hnumber, List.nil_append] at hboth
    rw [restartChannel_unbinds h.1 h.2, ← hnumber]
    exact hboth
  next h =>
    rw [restartChannel_stands h]
    exact .none rfl

theorem restartChannels_channel (cs : List (Fin 32)) (s : State) (d : Fin 32) :
    (cs.foldl (restartChannel l) s).channel d =
      if d ∈ cs ∧ restartUnbinds l d = true then { s.channel d with binding := none } else s.channel d := by
  induction cs generalizing s with
  | nil => simp
  | cons c cs ih =>
    rw [List.foldl_cons, ih, restartChannel_channel]
    by_cases hd : d = c
    · subst hd
      by_cases hl : restartUnbinds l d = true <;> simp [hl]
    · simp [hd]

theorem restartChannels_port (hr : k ≠ .r) (cs : List (Fin 32)) (s : State) (hk : (s.port k).inFlight = none) :
    (cs.foldl (restartChannel l) s).port k = s.port k := by
  induction cs generalizing s with
  | nil => rfl
  | cons c cs ih =>
    have hfirst : (restartChannel l s c).port k = s.port k := restartChannel_port hr hk
    rw [List.foldl_cons, ih _ (by rw [hfirst]; exact hk), hfirst]

/-- Channels that are each told once are told in their order, each as it stood. -/
theorem foldl_adds {step : State → Fin 32 → State} {told : State → Fin 32 → List Notice}
    (hstep : ∀ s c, Adds l (told s c) s (step s c)) (hsame : ∀ s c d, d ≠ c → told (step s c) d = told s d) :
    ∀ (cs : List (Fin 32)) (s : State), cs.Nodup → Adds l (cs.flatMap (told s)) s (cs.foldl step s) := by
  intro cs
  induction cs with
  | nil => exact fun s _ => .none rfl
  | cons c cs ih =>
    intro s hnodup
    obtain ⟨hnot, hrest⟩ := List.nodup_cons.mp hnodup
    have htold : cs.flatMap (told (step s c)) = cs.flatMap (told s) :=
      List.flatMap_congr fun d hd => hsame s c d fun hc => hnot (hc ▸ hd)
    have hlater := ih (step s c) hrest
    rw [htold] at hlater
    exact (hstep s c).trans hlater

theorem restartNotice_congr (h : t.channel c = s.channel c) : restartNotice l t c = restartNotice l s c := by
  rw [restartNotice, restartNotice, h]

theorem restartChannels_adds (l : Link) (s : State) :
    Adds .r (allChannels.flatMap (restartNotice l s)) s (allChannels.foldl (restartChannel l) s) :=
  foldl_adds (restartChannel_adds l) (fun s c d hd => restartNotice_congr (by
    rw [restartChannel_channel, if_neg fun h => hd h.1])) allChannels s (List.nodup_finRange 32)

/-! ## The channels of a restarted R-link (R164) -/

theorem resetChannel_bound (hb : (s.channel c).binding = some b) : resetChannel before s c =
    notifySubject b.owner (.chReset c (s.channel c).number (before.used c))
      ((cancelFrom b.owner.link (.deliver c) s).setBinding c (some { b with outbound := [], inbound := [] })) := by
  simp only [resetChannel, hb]

theorem resetChannel_unbound (hb : (s.channel c).binding = none) : resetChannel before s c = s := by
  simp only [resetChannel, hb]

/-- A channel whose queues are empty. -/
def Channel.emptied (r : Channel) : Channel :=
  { r with binding := r.binding.map fun b => { b with outbound := [], inbound := [] } }

theorem Channel.emptied_emptied (r : Channel) : r.emptied.emptied = r.emptied := by
  simp [Channel.emptied, Function.comp_def]

theorem resetChannel_channel (before s : State) (c d : Fin 32) :
    (resetChannel before s c).channel d = if d = c then (s.channel d).emptied else s.channel d := by
  cases hb : (s.channel c).binding with
  | none =>
    rw [resetChannel_unbound hb]
    split
    next hd =>
      subst hd
      rw [Channel.emptied, hb, Option.map_none, ← hb]
    next => rfl
  | some b =>
    rw [resetChannel_bound hb]
    simp only [notifySubject_reads, setBinding_channel]
    split
    next hd =>
      subst hd
      simp [Channel.emptied, hb]
    next => simp

theorem resetChannels_channel (before : State) (cs : List (Fin 32)) (s : State) (d : Fin 32) :
    (cs.foldl (resetChannel before) s).channel d = if d ∈ cs then (s.channel d).emptied else s.channel d := by
  induction cs generalizing s with
  | nil => simp
  | cons c cs ih =>
    rw [List.foldl_cons, ih, resetChannel_channel]
    by_cases hd : d = c
    · subst hd
      by_cases hcs : d ∈ cs <;> simp [hcs, Channel.emptied_emptied]
    · simp [hd]

/-- A port on which no owner is told stands. -/
theorem resetChannel_port (h : ∀ b, (s.channel c).binding = some b → b.owner.link ≠ k) :
    (resetChannel before s c).port k = s.port k := by
  cases hb : (s.channel c).binding with
  | none => rw [resetChannel_unbound hb]
  | some b =>
    have hk : k ≠ b.owner.link := fun hc => h b hb hc.symm
    rw [resetChannel_bound hb, notifySubject, notify_port_other _ _ _ _ hk]
    exact cancelFrom_port _ (.inl hk)

theorem emptied_owner {r : Channel} (h : r.emptied.binding = some b) : ∃ b', r.binding = some b' ∧ b'.owner = b.owner := by
  obtain ⟨b', hb', rfl⟩ := Option.map_eq_some_iff.mp h
  exact ⟨b', hb', rfl⟩

theorem resetChannels_port (before : State) (cs : List (Fin 32)) (s : State)
    (h : ∀ c b, (s.channel c).binding = some b → b.owner.link ≠ k) :
    (cs.foldl (resetChannel before) s).port k = s.port k := by
  induction cs generalizing s with
  | nil => rfl
  | cons c cs ih =>
    rw [List.foldl_cons, ih, resetChannel_port (h c)]
    intro d b hb
    rw [resetChannel_channel] at hb
    split at hb
    · obtain ⟨b', hb', ho⟩ := emptied_owner hb
      exact ho ▸ h d b' hb'
    · exact h d b hb

/-- What a link is told of one channel: its owner is told there, with the blocks the channel used. -/
def resetNotice (before : State) (k : Link) (s : State) (c : Fin 32) : List Notice :=
  ((s.channel c).binding.toList.filter fun b => b.owner.link = k).map fun b =>
    { tenant := b.owner.tenantField, body := .chReset c (s.channel c).number (before.used c) }

theorem resetChannel_adds (before s : State) (c : Fin 32) :
    Adds k (resetNotice before k s c) s (resetChannel before s c) := by
  cases hb : (s.channel c).binding with
  | none =>
    rw [resetChannel_unbound hb, resetNotice, hb]
    exact .none rfl
  | some b =>
    have hadds := notifySubject_adds (l := k) b.owner (.chReset c (s.channel c).number (before.used c))
      ((cancelFrom b.owner.link (.deliver c) s).setBinding c (some { b with outbound := [], inbound := [] }))
    have hsilent : Adds k [] s
        ((cancelFrom b.owner.link (.deliver c) s).setBinding c (some { b with outbound := [], inbound := [] })) :=
      .none (cancelFrom_notices b.owner.link (.deliver c))
    have hnotice : resetNotice before k s c = if b.owner.link = k then
        [{ tenant := b.owner.tenantField, body := .chReset c (s.channel c).number (before.used c) }] else [] := by
      rw [resetNotice, hb]
      by_cases hk : b.owner.link = k <;> simp [hk]
    rw [resetChannel_bound hb, hnotice]
    exact hsilent.trans hadds

theorem resetChannels_adds (before : State) (k : Link) (s : State) :
    Adds k (allChannels.flatMap (resetNotice before k s)) s (allChannels.foldl (resetChannel before) s) :=
  foldl_adds (resetChannel_adds before) (fun s c d hd => by
    rw [resetNotice, resetNotice, resetChannel_channel, if_neg hd]) allChannels s (List.nodup_finRange 32)

/-! ## The blocks a reset channel uses (R151, R164) -/

/-- A reset sends nothing, and cancels the DELIVER copy of its channel. -/
theorem resetChannel_inFlightFrom {src : FrameSource} (h : (resetChannel before s c).inFlightFrom k src = true) :
    s.inFlightFrom k src = true ∧ ∀ b, (s.channel c).binding = some b → ¬ (k = b.owner.link ∧ src = .deliver c) := by
  cases hb : (s.channel c).binding with
  | none =>
    rw [resetChannel_unbound hb] at h
    exact ⟨h, fun b hb' => by cases hb'⟩
  | some b =>
    rw [resetChannel_bound hb, inFlightFrom_congr (notifySubject_inFlight _ _ _ _), (setBinding_reads _ _ _).2.1,
      cancelFrom_inFlightFrom] at h
    refine ⟨h.1, fun b' hb' => ?_⟩
    cases hb'
    exact h.2

/-- No channel that is reset has a DELIVER copy in flight on its owner's link. -/
theorem resetChannels_deliver (before : State) (cs : List (Fin 32)) (s : State) {src : FrameSource}
    (h : (cs.foldl (resetChannel before) s).inFlightFrom k src = true) : s.inFlightFrom k src = true
      ∧ ∀ c ∈ cs, ∀ b, (s.channel c).binding = some b → ¬ (k = b.owner.link ∧ src = .deliver c) := by
  induction cs generalizing s with
  | nil => exact ⟨h, fun c hc => absurd hc List.not_mem_nil⟩
  | cons c cs ih =>
    obtain ⟨hrest, hcs⟩ := ih (resetChannel before s c) h
    obtain ⟨hs, hc⟩ := resetChannel_inFlightFrom hrest
    refine ⟨hs, fun d hd b hb => ?_⟩
    rcases eq_or_ne d c with rfl | hdc
    · exact hc b hb
    · refine hcs d ((List.mem_cons.mp hd).resolve_left hdc) b ?_
      rw [resetChannel_channel, if_neg hdc]
      exact hb

theorem resetChannels_inFlight (before : State) (cs : List (Fin 32)) (s : State) (h : (s.port k).inFlight = none) :
    ((cs.foldl (resetChannel before) s).port k).inFlight = none := by
  rw [Option.eq_none_iff_forall_ne_some]
  intro x hx
  obtain ⟨hold, -⟩ := resetChannels_deliver (k := k) (src := x.source) before cs s
    (inFlightFrom_iff.mpr ⟨x, hx, rfl⟩)
  obtain ⟨y, hy, -⟩ := inFlightFrom_iff.mp hold
  rw [h] at hy
  cases hy

/-- With nothing in flight on the R-link, a reset channel uses no block. -/
theorem resetChannels_used (before s : State) (h : (s.port .r).inFlight = none) (c : Fin 32) :
    (allChannels.foldl (resetChannel before) s).used c = 0 := by
  have hchannel := resetChannels_channel before allChannels s c
  rw [if_pos (show c ∈ allChannels from List.mem_finRange c)] at hchannel
  rw [State.used, hchannel]
  cases hb : (s.channel c).binding with
  | none => simp [Channel.emptied, hb]
  | some b =>
    have hforward : (allChannels.foldl (resetChannel before) s).inFlightFrom .r (.forward c) = false := by
      rw [State.inFlightFrom, resetChannels_inFlight before allChannels s h]
    have hdeliver : (allChannels.foldl (resetChannel before) s).inFlightFrom b.owner.link (.deliver c) = false := by
      rw [Bool.eq_false_iff]
      intro hf
      obtain ⟨-, hno⟩ := resetChannels_deliver before allChannels s hf
      exact hno c (List.mem_finRange c) b hb ⟨rfl, rfl⟩
    simp [Channel.emptied, hb, State.bindingUsed, hforward, hdeliver]

/-! ## The radio grants (R145) -/

theorem lowerRadioGrants_grants (s : State) (fn : RadioFn) :
    (lowerRadioGrants s).air.grants.get fn = lowerGrant (s.air.grants.get fn) := by
  rw [lowerRadioGrants, (judgeGate_frame _).2.2.2.2.2.2.2.2.1]
  cases fn <;> rfl

theorem lowerRadioGrants_air (s : State) : (lowerRadioGrants s).air.inForce = s.air.inForce
    ∧ (lowerRadioGrants s).air.pendingMap = s.air.pendingMap ∧ (lowerRadioGrants s).air.slot = s.air.slot := by
  rw [lowerRadioGrants, (judgeGate_frame _).2.2.2.2.2.2.2.2.1]
  exact ⟨rfl, rfl, rfl⟩

end Sys2Proof.Machine
end

section
/-! SUPPORT. The RESTART of a domain and of the R-link, put together from its parts (R21, R64, R145, R163, R164; O17). -/

namespace Sys2Proof.Machine

variable {s t : State} {l k : Link} {f : Frame} {c : Fin 32}

/-- What a RESTART makes of the part, but for its reply (R21). -/
def restarted (l : Link) (s : State) : State := restartAir l (restartRelay l s (restartCustody l (restartLink l s)))

theorem restart_answers (h : Admitted .restart l f s) :
    exec (.restart l) s = .next (placeReply l (replyFrame f [0x00]) (restarted l (dropOldest l s))) :=
  congrArg _ (processRequest_admitted h rfl)

theorem restarted_clock (l : Link) (s : State) : (restarted l s).clock = (restartLink l s).clock := by
  rw [restarted, (restartAir_frame _ _).1, (restartRelay_frame _ _ _).1, (restartCustody_frame _ _).1]

/-! ## The P-link and the A-link (R64, R163) -/

theorem restartCustody_channel (l : Link) (s : State) (c : Fin 32) :
    (restartCustody l (restartLink l s)).channel c = s.channel c := by
  rw [channel_congr (restartCustody_frame l _).2.2.2.1, channel_congr (restartLink_frame l s).2.2.2.2.2.2.2.1]

/-- The CH_CLOSED notices of the domain's channels, in ascending number. -/
theorem restartNotices_eq (l : Link) (s : State) : allChannels.flatMap (restartNotice l s) =
    ((List.finRange 32).filter fun c => (s.channel c).binding.isSome
        && decide ((l = .p ∧ c.val < 4) ∨ (l = .a ∧ 4 ≤ c.val))).map fun c =>
      ({ tenant := 0, body := .chClosed c (s.channel c).number .restart } : Notice) := by
  have hone (c : Fin 32) : restartNotice l s c =
      if ((s.channel c).binding.isSome && decide ((l = .p ∧ c.val < 4) ∨ (l = .a ∧ 4 ≤ c.val))) = true then
        [{ tenant := 0, body := .chClosed c (s.channel c).number .restart }] else [] := by
    rw [restartNotice]
    exact if_congr (by rw [restartUnbinds_iff, Bool.and_eq_true, decide_eq_true_iff]) rfl rfl
  rw [allChannels]
  generalize List.finRange 32 = cs
  induction cs with
  | nil => rfl
  | cons c cs ih =>
    rw [List.flatMap_cons, ih, hone, List.filter_cons]
    split <;> rfl

section
variable (hl : l ≠ .r)
include hl

/-- The custody of a restarted domain ends, then its channels close. -/
theorem restarted_domain (s : State) : restarted l s =
    allChannels.foldl (restartChannel l) (restartCustody l (restartLink l s)) := by
  cases l with
  | r => exact absurd rfl hl
  | p | a => rfl

theorem restarted_frame (s : State) : (restarted l s).policy = s.policy ∧ (restarted l s).tenants = s.tenants
    ∧ (restarted l s).custody = (restartCustody l (restartLink l s)).custody
    ∧ (restarted l s).kept = (restartCustody l (restartLink l s)).kept := by
  have hair (u : State) : restartAir l u = u := by
    cases l with
    | r => exact absurd rfl hl
    | p | a => rfl
  rw [restarted, hair]
  refine ⟨?_, ?_, by simp, kept_congr (by simp) (by simp) (by simp) (by simp) (by simp)⟩
  · rw [(restartRelay_frame _ _ _).2.1, (restartCustody_frame _ _).2.1, (restartLink_frame _ _).1]
  · rw [(restartRelay_frame _ _ _).2.2.1, (restartCustody_frame _ _).2.2.1, (restartLink_frame _ _).2.1]

/-- Its own port is left as its clearing left it. -/
theorem restarted_port (s : State) : (restarted l s).port l = (restartLink l s).port l := by
  have hflight : ((restartLink l s).port l).inFlight = none := (restartLink_cleared l s).inFlight
  obtain ⟨-, -, -, hcustody⟩ := restartCustody_leaves (k := l) hl (fun _ => hflight) fun _ _ _ _ => rfl
  rw [restarted_domain hl, restartChannels_port hl _ _ (by rw [hcustody]; exact hflight), hcustody]

theorem restarted_entries (s : State) : (∀ q, FreeOf l ((restarted l s).entry q)) ∧ WaitersFrom s (restarted l s)
    ∧ (restarted l s).kept = s.kept := by
  obtain ⟨-, -, hcustody, hkept⟩ := restarted_frame hl s
  have hflight : ((restartLink l s).port l).inFlight = none := (restartLink_cleared l s).inFlight
  obtain ⟨hfreed, hwaiting, hstand, -⟩ := restartCustody_leaves (k := l) hl (fun _ => hflight) fun _ _ _ _ => rfl
  refine ⟨fun q => by rw [entry_congr hcustody]; exact hfreed q, fun q w hw => ?_,
    hkept.trans (hstand.trans (restartLink_stands l s).1)⟩
  rw [entry_congr hcustody] at hw
  rw [← entry_congr (s := restartLink l s) (restartLink_frame l s).2.2.1]
  exact hwaiting q w hw

theorem restarted_channel (s : State) (c : Fin 32) : (restarted l s).channel c =
    if restartUnbinds l c = true then { s.channel c with binding := none } else s.channel c := by
  rw [restarted_domain hl, restartChannels_channel, restartCustody_channel l]
  simp [allChannels]

/-- The R-link is told of the closed channels alone. -/
theorem restarted_adds (hlaw : CustodyLaw s) :
    Adds .r (allChannels.flatMap (restartNotice l s)) s (restarted l s) := by
  have hentry (q : Resource) : (restartLink l s).entry q = s.entry q := entry_congr (restartLink_frame l s).2.2.1 q
  have hclean (q : Resource) : ∀ w ∈ ((restartLink l s).entry q).waiting, w.subject.link = .r → .r = l := by
    intro w hw hr
    rw [hentry] at hw
    obtain ⟨⟨-, -, -, hrad⟩, -⟩ := hlaw.1 q
    have hsubject : w.subject = .rad := by
      cases hs : w.subject with
      | rad => rfl
      | pay | app n =>
        rw [hs] at hr
        cases hr
    exact absurd hsubject (hrad w hw)
  obtain ⟨-, -, -, hcustody⟩ := restartCustody_leaves (k := .r) hl (fun hr => absurd hr.symm hl) hclean
  have hport : (restartCustody l (restartLink l s)).port .r = s.port .r :=
    hcustody.trans ((restartLink_stands l s).2 .r (Ne.symm hl))
  have hnotices : allChannels.flatMap (restartNotice l (restartCustody l (restartLink l s))) =
      allChannels.flatMap (restartNotice l s) :=
    List.flatMap_congr fun c _ => restartNotice_congr (restartCustody_channel l s c)
  have hadds := restartChannels_adds l (restartCustody l (restartLink l s))
  rw [hnotices, ← restarted_domain hl, Adds, hport] at hadds
  exact hadds

end

/-! ## The R-link (R145, R164) -/

theorem restarted_r (s : State) :
    restarted .r s = lowerRadioGrants (allChannels.foldl (resetChannel s) (restartLink .r s)) := rfl

theorem restarted_r_frame (s : State) : (restarted .r s).custody = s.custody ∧ (restarted .r s).keys = s.keys
    ∧ (restarted .r s).display = s.display ∧ (restarted .r s).printer = s.printer := by
  rw [restarted, restartCustody_r]
  simp

/-- The grants are lowered after the channels are reset; the ports and channels stand then. -/
theorem restarted_r_ports (s : State) :
    (restarted .r s).ports = (allChannels.foldl (resetChannel s) (restartLink .r s)).ports
      ∧ (restarted .r s).relay = (allChannels.foldl (resetChannel s) (restartLink .r s)).relay := by
  rw [restarted_r]
  exact ⟨(lowerRadioGrants_frame _).2.1, (lowerRadioGrants_frame _).2.2.2.2.2.2.2.2.1⟩

theorem restartLink_channel (l : Link) (s : State) (c : Fin 32) : (restartLink l s).channel c = s.channel c :=
  channel_congr (restartLink_frame l s).2.2.2.2.2.2.2.1 c

theorem restarted_r_channel (s : State) (c : Fin 32) : (restarted .r s).channel c = (s.channel c).emptied := by
  rw [channel_congr (restarted_r_ports s).2, resetChannels_channel, restartLink_channel]
  exact if_pos (List.mem_finRange c)

theorem used_congr (hp : t.ports = s.ports) (hr : t.relay = s.relay) (c : Fin 32) : t.used c = s.used c := by
  simp only [State.used, State.bindingUsed, channel_congr hr, inFlightFrom_ports hp]

theorem restarted_r_used (s : State) (c : Fin 32) : (restarted .r s).used c = 0 := by
  rw [used_congr (restarted_r_ports s).1 (restarted_r_ports s).2]
  exact resetChannels_used s _ (restartLink_cleared .r s).inFlight c

/-- A link that is told of its channels alone. -/
theorem restarted_r_adds (hk : k ≠ .r) (s : State) :
    Adds k (allChannels.flatMap (resetNotice s k s)) s (restarted .r s) := by
  have hport : (restartLink .r s).port k = s.port k := (restartLink_stands .r s).2 k hk
  have hnotices : resetNotice s k (restartLink .r s) = resetNotice s k s := by
    funext c
    rw [resetNotice, resetNotice, restartLink_channel]
  have hadds := resetChannels_adds s k (restartLink .r s)
  rw [hnotices, Adds, hport] at hadds
  exact Adds.after hadds (by rw [port_congr (restarted_r_ports s).1])

/-- With no channel of RAD, the R-link's port is left as its clearing left it. -/
theorem restarted_r_port (h : ∀ c b, (s.channel c).binding = some b → b.owner ≠ .rad) :
    (restarted .r s).port .r = (restartLink .r s).port .r := by
  rw [port_congr (restarted_r_ports s).1, resetChannels_port]
  intro c b hb hlink
  rw [restartLink_channel] at hb
  have hother := h c b hb
  cases ho : b.owner with
  | rad => exact hother ho
  | pay | app n =>
    rw [ho] at hlink
    cases hlink

theorem restarted_r_inbound (s : State) : ((restarted .r s).port .r).inbound = ((restartLink .r s).port .r).inbound := by
  rw [port_congr (restarted_r_ports s).1, foldl_keeps (fun u : State => (u.port .r).inbound) _ fun _ _ => by simp]

theorem restarted_r_inFlight (s : State) : ((restarted .r s).port .r).inFlight = none := by
  rw [port_congr (restarted_r_ports s).1]
  exact resetChannels_inFlight s _ _ (restartLink_cleared .r s).inFlight

/-- Every grant and mark falls to WAITING, and the map stands (R145). -/
theorem restarted_r_air (s : State) : (∀ fn : RadioFn, (restarted .r s).air.grants.get fn =
      match s.air.grants.get fn with
      | .granted | .overrun => .waiting
      | g => g)
    ∧ (restarted .r s).air.inForce = s.air.inForce ∧ (restarted .r s).air.pendingMap = s.air.pendingMap
    ∧ (restarted .r s).air.slot = s.air.slot := by
  have hair : (allChannels.foldl (resetChannel s) (restartLink .r s)).air = s.air := by
    rw [foldl_keeps (fun u : State => u.air) _ fun _ _ => by simp, (restartLink_frame _ _).2.2.2.2.2.2.1]
  rw [restarted_r]
  refine ⟨fun fn => ?_, ?_⟩
  · rw [lowerRadioGrants_grants, hair]
    cases s.air.grants.get fn <;> rfl
  · rw [← hair]
    exact lowerRadioGrants_air _

/-! ## What RESTART answers -/

theorem restart_doze (h : Admitted .restart l f s) :
    ∃ t, exec (.restart l) s = .next t
      ∧ (((∃ x ∈ (s.port l).replies, x.isDozeOk = true)
          ∨ ∃ x, (s.port l).inFlight = some x ∧ x.source = .reply ∧ x.frame.isDozeOk = true) →
        t.clock = { s.clock with dozePending := false })
      ∧ ((∀ x ∈ (s.port l).replies, x.isDozeOk = false) →
        (∀ x, (s.port l).inFlight = some x → x.source = .reply → x.frame.isDozeOk = false) → t.clock = s.clock) := by
  refine ⟨_, restart_answers h, ?_⟩
  have hclock : (placeReply l (replyFrame f [0x00]) (restarted l (dropOldest l s))).clock =
      (restartLink l (dropOldest l s)).clock := restarted_clock l _
  rw [hclock, ← dropOldest_replies, ← dropOldest_inFlight l s l]
  exact ⟨restartLink_clock_doze, restartLink_clock_stands⟩

theorem answered_port (l : Link) (g : Frame) (t : State) :
    (placeReply l g t).port l = { t.port l with replies := (t.port l).replies ++ [g] } := setPort_port_self _ _ _

theorem dropOldest_port (l : Link) (s : State) :
    (dropOldest l s).port l = { s.port l with rxBuffer := (s.port l).rxBuffer.tail } := setPort_port_self _ _ _

/-- The port of a restarted domain holds the RESTART's reply alone. -/
theorem restart_port (hl : l ≠ .r) (g : Frame) (s : State) (p : Port)
    (hp : p = (placeReply l g (restarted l (dropOldest l s))).port l) : p.notices = [] ∧ p.conditions = 0
      ∧ p.replies = [g] ∧ p.rxBuffer = (s.port l).rxBuffer.tail ∧ p.inFlight = none ∧ p.enables = (s.port l).enables
      ∧ p.receiver = (s.port l).receiver ∧ p.lastRx = (s.port l).lastRx := by
  have hcleared := restartLink_cleared l (dropOldest l s)
  rw [← restarted_port hl, dropOldest_port] at hcleared
  rw [answered_port, hcleared.replies] at hp
  subst hp
  exact ⟨hcleared.notices, hcleared.conditions, rfl, hcleared.rxBuffer, hcleared.inFlight, hcleared.enables,
    hcleared.receiver, hcleared.lastRx⟩

/-- The R-link is told of each channel that closes, in ascending number. -/
theorem restart_tells (hl : l ≠ .r) (g : Frame) (hlaw : CustodyLaw s) {closed : List Notice}
    (hclosed : closed = ((List.finRange 32).filter fun c => (s.channel c).binding.isSome
        && decide ((l = .p ∧ c.val < 4) ∨ (l = .a ∧ 4 ≤ c.val))).map fun c =>
      ({ tenant := 0, body := .chClosed c (s.channel c).number .restart } : Notice))
    (hroom : ((s.port .r).notices ++ closed).length ≤ 16) :
    ((placeReply l g (restarted l (dropOldest l s))).port .r).notices = (s.port .r).notices ++ closed := by
  have hlaw' : CustodyLaw (dropOldest l s) := hlaw
  have hadds := restarted_adds hl hlaw'
  rw [Adds, restartNotices_eq, dropOldest_notices] at hadds
  rw [placeReply_notices]
  subst hclosed
  exact hadds hroom

/-- What a RESTART of a domain leaves of custody and of the channels, and the settings that stand. -/
theorem restart_domain (hl : l ≠ .r) (u : State) :
    (∀ r : Resource, (∀ g, ((restarted l u).entry r).grant = some g → g.holder.link ≠ l)
        ∧ ∀ w ∈ ((restarted l u).entry r).waiting, w.subject.link ≠ l ∧ w ∈ (u.entry r).waiting)
      ∧ (∀ c : Fin 32, ((restarted l u).channel c).number = (u.channel c).number
        ∧ ((restarted l u).channel c).binding =
          if (l = .p ∧ c.val < 4) ∨ (l = .a ∧ 4 ≤ c.val) then none else (u.channel c).binding)
      ∧ (restarted l u).kept = u.kept ∧ (restarted l u).policy = u.policy ∧ (restarted l u).tenants = u.tenants := by
  obtain ⟨hfreed, hwaiting, hkept⟩ := restarted_entries hl u
  obtain ⟨hpolicy, htenants, -⟩ := restarted_frame hl u
  refine ⟨fun r => ⟨(hfreed r).1, fun w hw => ⟨(hfreed r).2 w hw, hwaiting r w hw⟩⟩, fun c => ?_, hkept, hpolicy,
    htenants⟩
  rw [restarted_channel hl]
  by_cases hc : restartUnbinds l c = true
  · rw [if_pos hc, if_pos (restartUnbinds_iff.mp hc)]
    exact ⟨rfl, rfl⟩
  · rw [if_neg hc, if_neg (mt restartUnbinds_iff.mpr hc)]
    exact ⟨rfl, rfl⟩

/-- The R-link's port after its RESTART. -/
theorem restart_r_port (g : Frame) (s : State) (p : Port)
    (hp : p = (placeReply .r g (restarted .r (dropOldest .r s))).port .r) : p.replies = [g] ∧ p.inFlight = none
      ∧ ((∀ c b, (s.channel c).binding = some b → b.owner ≠ .rad) → p.notices = [] ∧ p.conditions = 0) := by
  have hcleared := restartLink_cleared .r (dropOldest .r s)
  obtain ⟨-, -, hreplies, -⟩ := Port.inbound_eq.mp (restarted_r_inbound (dropOldest .r s))
  have hflight := restarted_r_inFlight (dropOldest .r s)
  have hport := restarted_r_port (s := dropOldest .r s)
  generalize restarted .r (dropOldest .r s) = t at hp hreplies hflight hport
  rw [answered_port, hreplies, hcleared.replies] at hp
  subst hp
  refine ⟨rfl, hflight, fun hnone => ?_⟩
  rw [hport hnone]
  exact ⟨hcleared.notices, hcleared.conditions⟩

/-- An owner's link is told of its channels, with the blocks each used. -/
theorem restart_r_tells (hk : k ≠ .r) (g : Frame) {told : List Notice}
    (htold : told = (List.finRange 32).flatMap fun c =>
      ((s.channel c).binding.toList.filter fun b => b.owner.link = k).map fun b =>
        ({ tenant := b.owner.tenantField, body := .chReset c (s.channel c).number (s.used c) } : Notice))
    (hroom : ((s.port k).notices ++ told).length ≤ 16) :
    ((placeReply .r g (restarted .r (dropOldest .r s))).port k).notices = (s.port k).notices ++ told := by
  have hnotices : allChannels.flatMap (resetNotice (dropOldest .r s) k (dropOldest .r s)) = told := by
    rw [htold]
    refine List.flatMap_congr fun c _ => ?_
    rw [resetNotice, dropOldest_used]
    rfl
  have hadds := restarted_r_adds hk (dropOldest .r s)
  rw [Adds, hnotices, dropOldest_notices] at hadds
  rw [placeReply_notices]
  exact hadds hroom

theorem placeReply_used (l : Link) (g : Frame) (t : State) (c : Fin 32) : (placeReply l g t).used c = t.used c := by
  have hchannel : (placeReply l g t).channel c = t.channel c := rfl
  simp only [State.used, State.bindingUsed, hchannel, inFlightFrom_congr (placeReply_inFlight l g t _)]

theorem restart_r_channels (s : State) (g : Frame) (c : Fin 32) :
    ((placeReply .r g (restarted .r (dropOldest .r s))).channel c).number = (s.channel c).number
      ∧ ((placeReply .r g (restarted .r (dropOldest .r s))).channel c).binding =
        (s.channel c).binding.map (fun b => { b with outbound := [], inbound := [] })
      ∧ (placeReply .r g (restarted .r (dropOldest .r s))).used c = 0 := by
  rw [placeReply_used, restarted_r_used, channel_congr (placeReply_frame _ _ _).2.2.2.2.2.2.2.2.2.1, restarted_r_channel]
  exact ⟨rfl, rfl, rfl⟩

/-- Settles O17: what a RESTART does to doze pending, what that of a domain leaves, and that of the R-link. -/
theorem restartEndsOrResetsADomain : Obligations.RestartEndsOrResetsADomain := by
  refine ⟨fun l f s h => restart_doze h, fun l f s h hl => ⟨_, restart_answers h, ?_⟩,
    fun f s h => ⟨_, restart_answers h, ?_⟩⟩
  · have hport := restart_port hl (replyFrame f [0x00]) s _ rfl
    have htells (hlaw : CustodyLaw s) (closed) := restart_tells hl (replyFrame f [0x00]) (closed := closed) hlaw
    obtain ⟨hentries, hchannels, hkept, hpolicy, htenants⟩ := restart_domain hl (dropOldest l s)
    generalize restarted l (dropOldest l s) = t at hport htells hentries hchannels hkept hpolicy htenants ⊢
    obtain ⟨hnotices, hconditions, hreplies, hrx, hflight, henables, hreceiver, hlast⟩ := hport
    simp only [State.kept, Prod.mk.injEq] at hkept
    obtain ⟨⟨harrivals, htakeover⟩, ⟨hsettings, hmatching⟩, hseparator, ⟨hcounter, hinterval⟩, hforce, hpending⟩ := hkept
    exact ⟨hnotices, hconditions, htells, hreplies, hrx, hflight, henables, hreceiver, hlast, hentries, hchannels,
      harrivals, htakeover, hpolicy, htenants, hsettings, hmatching, hseparator, hinterval, hcounter, hforce, hpending⟩
  · have hport := restart_r_port (replyFrame f [0x00]) s _ rfl
    have htells (k : Link) (told) (hk : k ≠ .r) := restart_r_tells (s := s) hk (replyFrame f [0x00]) (told := told)
    obtain ⟨hcustody, hkeys, hdisplay, hprinter⟩ := restarted_r_frame (dropOldest .r s)
    have hchannels := restart_r_channels s (replyFrame f [0x00])
    obtain ⟨hgrants, hair⟩ := restarted_r_air (dropOldest .r s)
    generalize restarted .r (dropOldest .r s) = t at hport htells hcustody hkeys hdisplay hprinter hchannels hgrants hair ⊢
    obtain ⟨hreplies, hflight, hquiet⟩ := hport
    exact ⟨hreplies, hflight, hquiet, htells, hcustody, hkeys, hdisplay, hprinter, hchannels, hgrants, hair⟩

end Sys2Proof.Machine
end
